-- ==== Sys2Proof/Word.lean ====
section
/-! DEFINITION. The words of the LB420: the byte of the serial link, the 16-bit and 32-bit words of
its two checksums, and one line of print-head dots. -/

namespace Sys2Proof

/-- One character of the serial link: 8 data bits (R173). -/
abbrev Byte := BitVec 8

/-- A 16-bit word: the CRC-16 of a frame (R176) and the revision of a notice (R193). -/
abbrev Word16 := BitVec 16

/-- A 32-bit word: the CRC-32 of an asset (R161). -/
abbrev Word32 := BitVec 32

/-- One line of the print head, 832 dots; bit x is the dot of column x, and 1 is black (R94). -/
abbrev DotLine := BitVec 832

end Sys2Proof
end

