-- ==== Sys2Proof/Syntax.lean ====
section
/-! DEFINITION. The commands of the LB420: one constructor per row of spec/opcode_table.json.

The part is a block and not a processor: a command is an event of its host link, of its mechanism, of
its sensors or of its own engines. A host request is given by the seq the host chose and the payload
bytes it sent; its class, kind, length and CRC-16 follow from these (R174, R176). -/

namespace Sys2Proof

/-- A logic level at a pin or in a character. -/
inductive Level where
  | low
  | high
  deriving DecidableEq, Repr

/-- Why the part starts: the supply came up, or NRESET was released (R204). -/
inductive StartCause where
  | power
  | line
  deriving DecidableEq, Repr

/-- A member of the condition set (R135). -/
inductive Condition where
  | coverOpen
  | mediaOut
  deriving DecidableEq, Repr

/-- A filtered sensor input: SCOVER or SMEDIA (R135). -/
inductive SensorInput where
  | cover
  | media
  deriving DecidableEq, Repr

/-- What the edge sense input SEDGE shows: the gap or the mark between two labels, or the label (in
MARK mode, no mark). A top edge is a change from the first to the second (R113). -/
inductive EdgeLevel where
  | gapOrMark
  | labelOrNoMark
  deriving DecidableEq, Repr

/-- Which of the two line periods runs out: the one counted from the start of the previous line step,
or the one counted from the start of the previous line burn (R112). -/
inductive PeriodOf where
  | step
  | burn
  deriving DecidableEq, Repr

/-- The commands, in the order of the opcode table's families. -/
inductive Instr where
  /-- START_UP (R204): the cause, the levels of the rate straps, and the first samples of the cover
  input (closed) and of the media input (present). -/
  | startUp (cause : StartCause) (rate1 rate0 : Level) (coverClosed mediaPresent : Bool)
  /-- RESET_LINE_ASSERT (R204): NRESET is driven low. -/
  | resetLineAssert
  /-- SUPPLY_LOSS (R170): the supply goes down. -/
  | supplyLoss
  /-- BYTE_RECEIVED (R177): a character on HRX, with the level found at its stop bit. -/
  | byteReceived (b : Byte) (stopBit : Level)
  /-- HEADER_ERROR (R178): the header byte that makes the error. -/
  | headerError (b : Byte)
  /-- INTER_BYTE_TIMEOUT (R180). -/
  | interByteTimeout
  /-- FRAME_COMPLETE (R182): the last CRC byte of a frame. -/
  | frameComplete (b : Byte)
  /-- UNKNOWN_KIND (R185): a request whose kind is none of the table's. -/
  | unknownKind (seq kind : Byte) (payload : List Byte)
  /-- HELLO (R205). -/
  | hello (seq : Byte) (payload : List Byte)
  /-- STATUS (R206). -/
  | status (seq : Byte) (payload : List Byte)
  /-- CONFIG (R208). -/
  | config (seq : Byte) (payload : List Byte)
  /-- RESET with scope PAGES (R211). -/
  | resetPages (seq : Byte)
  /-- RESET with scope ALL (R212). -/
  | resetAll (seq : Byte)
  /-- NOTICE_ACK (R200). -/
  | noticeAck (seq : Byte) (payload : List Byte)
  /-- ASSET_BEGIN (R156). -/
  | assetBegin (seq : Byte) (payload : List Byte)
  /-- ASSET_DATA (R158). -/
  | assetData (seq : Byte) (payload : List Byte)
  /-- ASSET_END (R160). -/
  | assetEnd (seq : Byte) (payload : List Byte)
  /-- ASSET_DROP (R165). -/
  | assetDrop (seq : Byte) (payload : List Byte)
  /-- ASSET_QUERY (R169). -/
  | assetQuery (seq : Byte) (payload : List Byte)
  /-- PAGE_OPEN (R6). -/
  | pageOpen (seq : Byte) (payload : List Byte)
  /-- OBJECT_ADD (R25). -/
  | objectAdd (seq : Byte) (payload : List Byte)
  /-- PAGE_CLOSE (R8). -/
  | pageClose (seq : Byte) (payload : List Byte)
  /-- PAGE_CANCEL (R14, R15). -/
  | pageCancel (seq : Byte) (payload : List Byte)
  /-- PAGE_QUERY (R19). -/
  | pageQuery (seq : Byte) (payload : List Byte)
  /-- FEED (R127). -/
  | feed (seq : Byte) (payload : List Byte)
  /-- CALIBRATE (R129). -/
  | calibrate (seq : Byte) (payload : List Byte)
  /-- STOP (R128). -/
  | stop (seq : Byte) (payload : List Byte)
  /-- HOLD (R125). -/
  | hold (seq : Byte) (payload : List Byte)
  /-- RELEASE (R126). -/
  | release (seq : Byte) (payload : List Byte)
  /-- RESUME with action CONTINUE (R146 to R148). -/
  | resumeContinue (seq : Byte)
  /-- RESUME with action REPRINT (R149). -/
  | resumeReprint (seq : Byte)
  /-- SENSOR_INPUT_CHANGE (R135): the new level of an input; `true` is cover closed, media present. -/
  | sensorInputChange (input : SensorInput) (good : Bool)
  /-- CONDITION_JOINS (R136): the 10 ms filter of the condition's input runs out. -/
  | conditionJoins (c : Condition)
  /-- CONDITION_LEAVES (R136). -/
  | conditionLeaves (c : Condition)
  /-- LINE_PERIOD_ELAPSED (R112). -/
  | linePeriodElapsed (period : PeriodOf)
  /-- STEP_COMPLETION (R112), with the level of SEDGE at that moment. -/
  | stepCompletion (sedge : EdgeLevel)
  /-- BURN_COMPLETION (R119). -/
  | burnCompletion
  /-- OBJECT_BOUNDARY (R71). -/
  | objectBoundary
  /-- TRANSMIT_FRAME_END (R188). -/
  | transmitFrameEnd
  /-- NOTICE_RESEND_DUE (R198). -/
  | noticeResendDue
  deriving DecidableEq, Repr

end Sys2Proof
end

