-- ==== Sys2Proof/Decode.lean ====
section
/-! DEFINITION. The decoder of opcode-table words. The LB420 is a block: no row of
spec/opcode_table.json gives bits ("fields" is empty in every row), so no word spells a command. Its
commands reach it as events and as framed requests, whose bytes Machine/Receiver.lean reads. -/

namespace Sys2Proof

/-- No row of the table gives bits, so no word spells a command. -/
def decodeTableWord (_nbits _w : Nat) : Option Instr := none

end Sys2Proof
end

