-- ==== Sys2Proof/Machine/Types.lean ====
section
/-! DEFINITION. The records the LB420 keeps and sends: pages and objects, assets, band buffers, notices,
requests and replies. State itself is Machine/State.lean. -/

namespace Sys2Proof.Machine

/-! ### Pages and drawing objects (chapters 1 to 3) -/

/-- The state of a page entry (R1, section 1.3); `opened` is OPEN. -/
inductive PageState where
  | opened
  | queued
  | active
  | ended
  deriving DecidableEq, Repr

/-- How a page ended (R13). -/
inductive PageOutcome where
  | done
  | cancelled
  deriving DecidableEq, Repr

/-- What an object does to the dots it selects (R27). -/
inductive Mix where
  | set
  | clear
  | invert
  deriving DecidableEq, Repr

/-- A clockwise turn (R34, R35). -/
inductive Orientation where
  | deg0
  | deg90
  | deg180
  | deg270
  deriving DecidableEq, Repr

/-- Which end stamps a STROKE omits (R32). -/
inductive EndMode where
  | all
  | skipFirst
  | skipLast
  | skipBoth
  deriving DecidableEq, Repr

/-- The kind of an object with the fields of that kind (R31 to R37). A list here is the object's list
of elements, in the order sent (R56). -/
inductive Shape where
  /-- RULE (R31). -/
  | rule (x y : Int) (w h : Nat)
  /-- STROKE (R32). -/
  | stroke (x0 y0 x1 y1 : Int) (thickness : Nat) (ends : EndMode)
  /-- FILL (R33). -/
  | fill (vertices : List (Int × Int))
  /-- PLACE (R34); `whitens` is the opaque flag. -/
  | place (bitmap : Nat) (x y : Int) (o : Orientation) (whitens : Bool)
  /-- TEXT with a code list (R35). -/
  | text (font : Nat) (x y : Int) (o : Orientation) (spacing : Int) (codes : List Byte)
  /-- TEXT with a counter (R36). -/
  | counter (font : Nat) (x y : Int) (o : Orientation) (spacing : Int) (start : Nat) (step : Int)
      (digits : Nat)
  /-- BARS (R37); `alongFeed` is orientation 90. -/
  | bars (x y : Int) (height moduleDots : Nat) (alongFeed : Bool) (widths : List Nat)
  deriving DecidableEq, Repr

/-- A rectangle of whole dots: columns [c0, c1) and rows [r0, r1) (section 2.6). -/
structure Box where
  c0 : Int
  c1 : Int
  r0 : Int
  r1 : Int
  deriving DecidableEq, Repr

/-- An object record of the object pool (R55). -/
structure StoredObject where
  number : Nat
  mix : Mix
  source : Nat
  shape : Shape
  box : Box
  firstBand : Nat
  bandsTouched : Nat
  deriving DecidableEq, Repr

/-- What an ENDED entry adds (section 1.1). -/
structure PageEnd where
  outcome : PageOutcome
  stateAtCancel : PageState
  noticeNumber : Byte
  deriving DecidableEq, Repr

/-- An entry of the page table (section 1.1). -/
structure Page where
  id : Nat
  state : PageState
  width : Nat
  length : Nat
  bandCount : Nat
  copiesOrdered : Nat
  copiesDone : Nat
  reprints : Nat
  stalls : Nat
  edges : Nat
  culled : Nat
  substitutions : Nat
  skipped : Nat
  storedCount : Nat
  objects : List StoredObject
  bandLists : List (List Nat)
  ended : Option PageEnd
  deriving DecidableEq, Repr

/-- The page report (R18). -/
structure PageReport where
  page : Nat
  outcome : PageOutcome
  stateAtCancel : PageState
  width : Nat
  length : Nat
  bandCount : Nat
  copiesOrdered : Nat
  copiesDone : Nat
  reprints : Nat
  stalls : Nat
  edges : Nat
  culled : Nat
  substitutions : Nat
  skipped : Nat
  storedCount : Nat
  deriving DecidableEq, Repr

/-! ### Assets (chapter 8) -/

inductive AssetKind where
  | bitmap
  | pattern
  | font
  deriving DecidableEq, Repr

inductive AssetState where
  | loading
  | ready
  | doomed
  deriving DecidableEq, Repr

/-- An entry of a glyph directory (R164); `offset` is the place of its bitmap in the font's data. -/
structure Glyph where
  code : Byte
  width : Nat
  height : Nat
  bearing : Int
  ascent : Int
  advance : Nat
  offset : Nat
  deriving DecidableEq, Repr

/-- What a FONT gains when it becomes READY: its substitute code and its glyph directory; the glyph
count is the directory's length (R164). -/
structure FontInfo where
  substitute : Option Byte
  glyphs : List Glyph
  deriving DecidableEq, Repr

/-- An entry of the asset table (R153). Bytes received is the length of `data`; blocks held follows
from the declared size (Machine/AssetStore.lean). -/
structure Asset where
  id : Nat
  kind : AssetKind
  width : Nat
  height : Nat
  state : AssetState
  declared : Nat
  data : List Byte
  refCount : Nat
  font : Option FontInfo
  deriving DecidableEq, Repr

/-! ### The band ring and the raster engine (chapters 4 and 5) -/

/-- A position of the print order, and the tag of a buffer (R94, R97). -/
structure Tag where
  page : Nat
  copy : Nat
  band : Nat
  deriving DecidableEq, Repr

/-- The raster of a band buffer: 64 rows of 832 dots (R94). -/
abbrev Raster := Vector DotLine 64

/-- The state of a band buffer with what is present in it (R94). -/
inductive BufferState where
  | free
  | filling (tag : Tag) (void : Bool)
  | ready (tag : Tag)
  | draining (tag : Tag)
  deriving DecidableEq, Repr

structure Buffer where
  state : BufferState
  raster : Raster
  deriving DecidableEq, Repr

/-- What the raster engine holds while RENDERING (R69). -/
structure Render where
  buffer : Fin 4
  tag : Tag
  progress : Nat
  deriving DecidableEq, Repr

/-! ### The feed controller (chapters 6 and 7) -/

inductive MediaMode where
  | continuous
  | gap
  | mark
  deriving DecidableEq, Repr

/-- The configuration (R207). Rates in lines per second, the resend interval in milliseconds. -/
structure Settings where
  printWidth : Nat
  mediaMode : MediaMode
  topOffset : Nat
  tearOffset : Nat
  searchLimit : Nat
  lineRate : Nat
  resendInterval : Nat
  deriving DecidableEq, Repr

/-- Why the feed is PAUSED (R138). -/
inductive PauseCause where
  | coverOpen
  | mediaOut
  | mediaLost
  deriving DecidableEq, Repr

/-- The paused context (R139). -/
inductive PausedContext where
  | print (page copy line : Nat) (valid : Bool)
  | seek (page copy : Nat)
  | backfeed (remaining : Nat) (valid : Bool)
  | trail (remaining : Nat) (valid : Bool)
  | none
  deriving DecidableEq, Repr

/-- The kind of a paused context, as RESUME reports it (R145). -/
inductive ContextKind where
  | print
  | seek
  | backfeed
  | trail
  | none
  deriving DecidableEq, Repr

/-- A request as the cache and the slots know it: its seq and the CRC-16 it carried (R182). -/
structure RequestKey where
  seq : Byte
  crc : Word16
  deriving DecidableEq, Repr

/-- The feed state (R111) with what each state holds. SEEK has two phases (R117, R118): the search,
with its count and its limit, and the offset, with the lines remaining. MOVING and CALIBRATING hold
the request that waits for their end (R184). -/
inductive FeedState where
  | idle
  | backfeed
  | seekSearch (count limit : Nat)
  | seekOffset (remaining : Nat)
  | printing
  | stalled
  | trailing (remaining : Nat)
  | moving (key : RequestKey) (lines done : Nat)
  | calibrating (key : RequestKey) (limit count moved : Nat) (firstFound : Bool)
  | paused (cause : PauseCause) (context : PausedContext)
  deriving DecidableEq, Repr

/-- The nine feed states by name (R111). -/
inductive FeedStateName where
  | idle
  | backfeed
  | seek
  | printing
  | stalled
  | trailing
  | moving
  | calibrating
  | paused
  deriving DecidableEq, Repr

inductive Direction where
  | forward
  | reverse
  deriving DecidableEq, Repr

/-- What the mechanism is doing: nothing, a line step or a line burn (R112). -/
inductive InFlight where
  | none
  | step (dir : Direction)
  | burn
  deriving DecidableEq, Repr

/-- A step or a burn that a rule has called for and that waits for its line period (R112). -/
inductive Called where
  | step (dir : Direction)
  | burn
  deriving DecidableEq, Repr

/-- A page line whose burn has begun and whose step has not completed (R112, R119). `copyEnded` is
set by a burn completion that ends the copy (R122). -/
structure OpenLine where
  page : Nat
  line : Nat
  copyEnded : Bool
  deriving DecidableEq, Repr

inductive ResetScope where
  | pages
  | all
  deriving DecidableEq, Repr

/-- A condition recorded as a pending stop (R137): the condition it was recorded with, and whether a
MEDIA_OUT has joined the condition set since. The context is then entered with its position invalid, even
when that MEDIA_OUT has left again (log 20). -/
structure PendingCondition where
  cause : Condition
  mediaOutJoined : Bool
  deriving DecidableEq, Repr

/-- The pending stops and their causes (R112, R128, R131, R134, R137). -/
structure PendingStops where
  reset : Option ResetScope
  cancel : Bool
  stop : Bool
  condition : Option PendingCondition
  deriving DecidableEq, Repr

/-- The condition set (R135). -/
structure ConditionSet where
  coverOpen : Bool
  mediaOut : Bool
  deriving DecidableEq, Repr

/-! ### Replies (section 9.6) -/

/-- The status of a reply with its qualifier (R190). -/
inductive Status where
  | ok
  | noSlot
  | unknownKind
  | badLength
  | badValue
  | wrongState
  | noRoomPageEntries
  | noRoomObjects
  | noRoomElements
  | noRoomBandLinks
  | noRoomAssetEntries
  | noRoomAssetBlocks
  | notFound
  | duplicateId
  | outOfOrder
  | checkFailedCrc
  | checkFailedFormat
  | assetNotReady
  | assetGone
  | conditionActive
  | positionLost
  | stopped
  | faultedCoverOpen
  | faultedMediaOut
  | faultedMediaLost
  deriving DecidableEq, Repr

/-- The link rate (R173). -/
inductive LinkRate where
  | baud57600
  | baud115200
  | baud230400
  | baud460800
  deriving DecidableEq, Repr

/-- The identity, capacities and link rate that HELLO and READY carry (R205). -/
structure Identity where
  family : String
  partNumber : Nat
  designLevel : Nat
  rate : LinkRate
  requestSlots : Nat
  cacheEntries : Nat
  noticeEntries : Nat
  noticesInUseAtMost : Nat
  pageEntries : Nat
  queueLength : Nat
  objectRecords : Nat
  elements : Nat
  bandLinks : Nat
  assetEntries : Nat
  storageBlocks : Nat
  blockSize : Nat
  largestAsset : Nat
  largestPiece : Nat
  bandBuffers : Nat
  bandHeight : Nat
  headWidth : Nat
  shortestPage : Nat
  longestPage : Nat
  fewestCopies : Nat
  mostCopies : Nat
  deriving DecidableEq, Repr

/-- What FEED_STATE carries (R152). The pause cause and the context are present while PAUSED. -/
structure FeedReport where
  state : FeedStateName
  conditions : ConditionSet
  paused : Option (PauseCause × PausedContext)
  hold : Bool
  deriving DecidableEq, Repr

/-- The print cursor: head page, copy index and next line (R98). -/
structure Cursor where
  page : Nat
  copy : Nat
  line : Nat
  deriving DecidableEq, Repr

/-- The reply of STATUS (R206). -/
structure StatusSnapshot where
  feed : FeedReport
  parked : Nat
  pitch : Nat
  motionRunning : Bool
  stopPending : Bool
  pageEntries : Nat
  openPage : Nat
  queue : List Nat
  cursor : Option Cursor
  freeObjects : Nat
  freeElements : Nat
  freeLinks : Nat
  assetEntries : Nat
  freeBlocks : Nat
  notices : Nat
  crcErrors : Nat
  headerErrors : Nat
  timeouts : Nat
  slotsHeld : Nat
  settings : Settings
  deriving DecidableEq, Repr

/-- The summary of PAGE_QUERY (R20), with the fields that depend on the state. -/
structure PageSummary where
  id : Nat
  state : PageState
  width : Nat
  length : Nat
  bandCount : Nat
  copiesOrdered : Nat
  copiesDone : Nat
  reprints : Nat
  stalls : Nat
  edges : Nat
  culled : Nat
  substitutions : Nat
  skipped : Nat
  storedCount : Nat
  position : Option Nat
  cursor : Option (Nat × Nat)
  ended : Option (PageOutcome × Byte)
  deriving DecidableEq, Repr

/-- The reply of OBJECT_ADD (R26). -/
structure ObjectAddReply where
  failedCheck : Nat
  number : Nat
  clippedFlag : Bool
  culledFlag : Bool
  firstBand : Nat
  bandsTouched : Nat
  substitutions : Nat
  skipped : Nat
  deriving DecidableEq, Repr

/-- The record of ASSET_QUERY (R169). -/
structure AssetRecord where
  id : Nat
  kind : AssetKind
  state : AssetState
  width : Nat
  height : Nat
  declared : Nat
  received : Nat
  blocks : Nat
  refCount : Nat
  font : Option (Nat × Option Byte)
  deriving DecidableEq, Repr

inductive AckOutcome where
  | removed
  | stale
  | notFound
  deriving DecidableEq, Repr

inductive DropOutcome where
  | removed
  | doomed
  deriving DecidableEq, Repr

inductive NoticeKind where
  | ready
  | pageEnded
  | feedState
  deriving DecidableEq, Repr

/-- The motion a STOP stopped (R128). -/
inductive HostMotion where
  | feed
  | calibrate
  deriving DecidableEq, Repr

/-- The results a reply carries after its status, as each owner's chapter defines them. An `Option` is
`none` where that chapter says the value is absent or states no value for the refusal at hand;
`unstated` is a refusal for which the chapter states no results at all, and `empty` the replies that
have none (R189). The manual gives the contents and no byte layout (Config.resultBytes). -/
inductive Results where
  | empty
  | unstated
  | hello (flags : Byte) (identity : Identity)
  | status (snapshot : StatusSnapshot)
  | config (failing : Option Nat) (settings : Settings) (pitch : Option Nat)
  | reset (scope : ResetScope) (discarded : Nat)
  | noticeAck (number : Byte) (outcome : AckOutcome) (kind : Option NoticeKind) (revision : Word16)
      (freedPage : Option Nat)
  | assetBegin (id : Option Nat) (blocks free : Nat)
  | assetData (id : Option Nat) (received : Option Nat)
  | assetEnd (id : Option Nat) (received glyphs : Option Nat)
  | assetDrop (id : Option Nat) (outcome : Option DropOutcome) (found : Option Nat)
  | assetQuery (record : AssetRecord)
  | pageOpen (id width bandCount : Nat)
  | objectAdd (reply : ObjectAddReply)
  | pageClose (position : Nat) (bandCount storedCount : Option Nat) (longerThanPitch : Bool)
  | pageCancel (found : Option PageState) (copiesDone : Option Nat)
  | pageQuery (summary : PageSummary)
  | feed (moved : Nat)
  | calibrate (pitch : Nat) (moved : Option Nat)
  | stop (motion : HostMotion)
  | hold (before : Bool) (state : FeedStateName)
  | release (before started : Bool)
  | resume (action : Option Byte) (context : Option ContextKind) (state : FeedStateName)
  deriving DecidableEq, Repr

/-- A reply frame (R189). `serial` is the MODEL's own number of the reply: the bytes the manual leaves
open may differ from one reply to the next (Config.resultBytes). -/
structure ReplyFrame where
  seq : Byte
  kind : Byte
  status : Status
  results : Results
  serial : Nat
  deriving DecidableEq, Repr

/-- A request slot that holds a taken request (R183); its reply once it is complete. -/
structure Slot where
  key : RequestKey
  kind : Byte
  reply : Option ReplyFrame
  deriving DecidableEq, Repr

/-- An entry of the reply cache (R186). -/
structure CacheEntry where
  key : RequestKey
  frame : ReplyFrame
  deriving DecidableEq, Repr

/-- An entry of the reply list (R188): the reply of the request in a slot, or an unslotted reply,
which is a resend of a cache entry or a NO_SLOT answer. -/
inductive WaitingReply where
  | ofSlot (key : RequestKey)
  | resend (key : RequestKey) (frame : ReplyFrame)
  | refusal (frame : ReplyFrame)
  deriving DecidableEq, Repr

/-! ### Notices (chapter 10) -/

/-- The reset cause of a READY notice (R195). -/
inductive ResetCause where
  | power
  | line
  | request
  deriving DecidableEq, Repr

/-- The content of a notice, by kind (R195 to R197). -/
inductive NoticeContent where
  | ready (cause : ResetCause) (identity : Identity)
  | pageEnded (report : PageReport)
  | feedState (report : FeedReport)
  deriving DecidableEq, Repr

/-- An entry of the notice queue (R193); its kind is that of its content. `lastSending` is the clock
at which the transmitter last began to send it. -/
structure Notice where
  number : Byte
  revision : Word16
  content : NoticeContent
  sent : Bool
  lastSending : Option Nat
  deriving DecidableEq, Repr

/-- A notice frame on HTX, built when its sending begins (R198). -/
structure NoticeFrame where
  number : Byte
  revision : Word16
  content : NoticeContent
  deriving DecidableEq, Repr

/-- The frame the transmitter is sending (R188). -/
inductive TxFrame where
  | reply (frame : ReplyFrame)
  | notice (frame : NoticeFrame)
  deriving DecidableEq, Repr

/-! ### The receiver and the sensors -/

/-- The receiver's states (R177). -/
inductive ReceiverPhase where
  | closed
  | hunt
  | header
  | payload
  | check
  deriving DecidableEq, Repr

/-- A good frame's request: what the link hands to an owner (R184). -/
structure Request where
  key : RequestKey
  kind : Byte
  payload : List Byte
  deriving DecidableEq, Repr

/-- One filtered sensor input (R135): the level of the pin, the filtered level (`true` is cover closed,
media present), and, while the 10 ms filter runs, the clock at which it was last started. -/
structure InputFilter where
  raw : Bool
  filtered : Bool
  since : Option Nat
  deriving DecidableEq, Repr

end Sys2Proof.Machine
end

