-- ==== Sys2Proof/Config.lean ====
section
/-! DEFINITION. What the LB420 fixes: its capacities, its identity and the configuration defaults, and
the free values, which the manual leaves open and to which Lean knows no value. -/

namespace Sys2Proof.Config

open Sys2Proof.Machine

/-! ### Capacities (R205) -/

/-- Page table entries (R3). -/
def pageEntries : Nat := 8
/-- Object records (R54). -/
def objectRecords : Nat := 2048
/-- Elements (R54). -/
def elements : Nat := 8192
/-- Band links (R54). -/
def bandLinks : Nat := 6144
/-- Asset table entries (R153). -/
def assetEntries : Nat := 96
/-- Storage blocks (R154). -/
def storageBlocks : Nat := 3072
/-- Bytes of one storage block (R154). -/
def blockSize : Nat := 64
/-- The greatest declared size of an asset (R153). -/
def largestAsset : Nat := 65536
/-- Lines of a band (R94). -/
def bandHeight : Nat := 64
/-- Dots of the print head (R94). -/
def headWidth : Nat := 832
/-- Request slots (R183). -/
def requestSlots : Nat := 4
/-- Reply cache entries (R186). -/
def cacheEntries : Nat := 4
/-- Unslotted replies that the reply list may hold (R188). -/
def unslottedReplies : Nat := 4
/-- The value at which a saturating counter stops (R12, R17, R181). -/
def counterTop : Nat := 65535

/-- The identity and capacities of the part with its strapped rate (R205). -/
def identity (rate : LinkRate) : Identity :=
  { family := "ULMOWA", partNumber := 420, designLevel := 1, rate := rate,
    requestSlots := requestSlots, cacheEntries := cacheEntries,
    noticeEntries := 16, noticesInUseAtMost := 10,
    pageEntries := pageEntries, queueLength := 8,
    objectRecords := objectRecords, elements := elements, bandLinks := bandLinks,
    assetEntries := assetEntries, storageBlocks := storageBlocks, blockSize := blockSize,
    largestAsset := largestAsset, largestPiece := 1018,
    bandBuffers := 4, bandHeight := bandHeight, headWidth := headWidth,
    shortestPage := 16, longestPage := 16384, fewestCopies := 1, mostCopies := 9999 }

/-- The configuration defaults (R207). -/
def defaults : Settings :=
  { printWidth := 832, mediaMode := .gap, topOffset := 0, tearOffset := 96, searchLimit := 4096,
    lineRate := 800, resendInterval := 250 }

/-! ### Times, in microseconds -/

/-- The inter-byte timeout, 20 ms (R180). -/
def interByteMicros : Nat := 20000
/-- The sensor filter, 10 ms (R135). -/
def filterMicros : Nat := 10000

/-! ### Free values -/

/-- The bytes of a reply's results after its status and qualifier. FREE VALUE (DESIGN CHOICE, log 3):
R175 and R189 give a reply's results their contents in each owner's chapter and no byte layout. It is
applied to the reply's serial number, so that nothing says two replies agree where the manual states
no value. Safe. -/
opaque resultBytes (serial : Nat) (kind : Byte) (status : Status) (results : Results) : List Byte

/-- The bytes of a notice's content after its revision. FREE VALUE (DESIGN CHOICE, log 3): R195 to R197
list the contents and no byte layout. Safe. -/
opaque contentBytes (content : NoticeContent) : List Byte

/-- The level of the motor enable MEN while the part runs, by the clock. FREE VALUE (DESIGN CHOICE,
log 4): R204 says that MEN is inactive in reset and nothing says when it is active. Safe. -/
opaque motorEnable (clock : Nat) : Bool

end Sys2Proof.Config
end

