-- ==== Sys2Proof/Machine/State.lean ====
section
/-! DEFINITION. The state of the LB420, one structure per block, and the state after reset. -/

namespace Sys2Proof.Machine

/-- Whether the part runs (R204, R170): the supply is down, NRESET is held low, or it has started up. -/
inductive Power where
  | off
  | heldInReset
  | running
  deriving DecidableEq, Repr

/-- The receiver (R177): its state, the bytes of the frame in progress from its SYNC on, and the clock
at the last byte of that frame. -/
structure Receiver where
  phase : ReceiverPhase
  held : List Byte
  lastByteAt : Nat
  deriving DecidableEq, Repr

/-- The host link (chapter 9). `slots` are the held request slots in the order taken, `cache` is oldest
first, `tx` is the frame on HTX (none: the transmitter is free). `serial` is the MODEL's own count of
replies made. -/
structure Link where
  receiver : Receiver
  slots : List Slot
  cache : List CacheEntry
  replies : List WaitingReply
  tx : Option TxFrame
  crcErrors : Nat
  headerErrors : Nat
  timeouts : Nat
  rate : LinkRate
  serial : Nat
  deriving DecidableEq, Repr

/-- The notice queue (R193, R194), oldest entry first. -/
structure NoticeQueue where
  entries : List Notice
  lastNumber : Byte
  deriving DecidableEq, Repr

/-- The asset store (R153, R154). -/
structure AssetStore where
  table : List Asset
  freeBlocks : Nat
  deriving DecidableEq, Repr

/-- The page composer (chapters 1 and 3): the page table, the print queue, the last id (R2) and the
free counts of the three pools (R54). -/
structure Composer where
  pages : List Page
  queue : List Nat
  lastId : Nat
  freeObjects : Nat
  freeElements : Nat
  freeLinks : Nat
  deriving DecidableEq, Repr

/-- The band ring (R94, R96, R102): the buffers, the assignment order and the waiting band request. -/
structure BandRing where
  buffers : Vector Buffer 4
  order : List (Fin 4)
  waiting : Option Tag
  deriving DecidableEq, Repr

/-- The feed controller (chapters 6 and 7). `line` is the stored part of the print cursor: the cursor's
page and copy are those of the print queue (R98). `stepStarted` and `burnStarted` are the clocks at
which the last step and the last burn started, while their line period has not elapsed (R112).
`headLatch` is the row last latched in the print head (R103). -/
structure Feed where
  state : FeedState
  inFlight : InFlight
  called : Option Called
  openLine : Option OpenLine
  pending : PendingStops
  line : Nat
  edge : Option EdgeLevel
  parked : Nat
  hold : Bool
  pitch : Nat
  stepStarted : Option Nat
  burnStarted : Option Nat
  headLatch : DotLine
  deriving DecidableEq, Repr

/-- The filtered sensor inputs; the condition set follows from their filtered levels (R135). -/
structure Sensors where
  cover : InputFilter
  media : InputFilter
  deriving DecidableEq, Repr

/-- The state of the part. `engine` is none while the raster engine is IDLE (R69). `clock` is the
part's time base in microseconds, counted from start-up. `pending` is the queue of commands that wait,
first in, first out. -/
structure State where
  power : Power
  clock : Nat
  settings : Settings
  link : Link
  notices : NoticeQueue
  assets : AssetStore
  composer : Composer
  engine : Option Render
  ring : BandRing
  feed : Feed
  sensors : Sensors
  pending : List Instr
  deriving DecidableEq, Repr

/-- No fault: the manual describes no event that stops the part. -/
inductive Fault where
  deriving DecidableEq, Repr

/-- Why a step is refused. -/
inductive Refusal where
  /-- Raised by exec for a command that has no meaning yet; safe. No arm raises it. -/
  | notModelled (mnemonic : String)
  deriving DecidableEq, Repr

/-! ### Updates, one per part of the state -/

def State.withPower (s : State) (x : Power) : State := { s with power := x }
def State.withClock (s : State) (x : Nat) : State := { s with clock := x }
def State.withSettings (s : State) (x : Settings) : State := { s with settings := x }
def State.withLink (s : State) (x : Link) : State := { s with link := x }
def State.withNotices (s : State) (x : NoticeQueue) : State := { s with notices := x }
def State.withAssets (s : State) (x : AssetStore) : State := { s with assets := x }
def State.withComposer (s : State) (x : Composer) : State := { s with composer := x }
def State.withEngine (s : State) (x : Option Render) : State := { s with engine := x }
def State.withRing (s : State) (x : BandRing) : State := { s with ring := x }
def State.withFeed (s : State) (x : Feed) : State := { s with feed := x }
def State.withSensors (s : State) (x : Sensors) : State := { s with sensors := x }
def State.withPending (s : State) (x : List Instr) : State := { s with pending := x }

/-! ### Reset values -/

/-- A raster with every dot white. -/
def Raster.white : Raster := Vector.replicate 64 0#832

/-- No stop is pending. -/
def PendingStops.none : PendingStops :=
  { reset := Option.none, cancel := false, stop := false, condition := Option.none }

/-- The receiver after reset, before READY is queued (R191). -/
def Receiver.closed : Receiver := { phase := .closed, held := [], lastByteAt := 0 }

/-- The host link after reset (R191). -/
def Link.blank (rate : LinkRate) : Link :=
  { receiver := Receiver.closed, slots := [], cache := [], replies := [], tx := none,
    crcErrors := 0, headerErrors := 0, timeouts := 0, rate := rate, serial := 0 }

/-- The notice queue after reset, before READY is created (R203). -/
def NoticeQueue.blank : NoticeQueue := { entries := [], lastNumber := 0 }

/-- The asset store after reset (R170). -/
def AssetStore.blank : AssetStore := { table := [], freeBlocks := Config.storageBlocks }

/-- The page composer after reset (R24, R68). -/
def Composer.blank : Composer :=
  { pages := [], queue := [], lastId := 0, freeObjects := Config.objectRecords,
    freeElements := Config.elements, freeLinks := Config.bandLinks }

/-- The band ring after reset (R94). The rasters are white: DESIGN CHOICE, log 5 (the manual gives no
contents after power-on; unsafe, and no block reads them before a render clears them). -/
def BandRing.blank : BandRing :=
  { buffers := Vector.replicate 4 { state := .free, raster := Raster.white }, order := [],
    waiting := none }

/-- The feed controller after reset (R133). The head latch is white: DESIGN CHOICE, log 5. -/
def Feed.blank : Feed :=
  { state := .idle, inFlight := .none, called := none, openLine := none,
    pending := PendingStops.none, line := 0, edge := none, parked := 0, hold := false, pitch := 0,
    stepStarted := none, burnStarted := none, headLatch := 0#832 }

/-- An input filter loaded from its first sample (R135). -/
def InputFilter.loaded (good : Bool) : InputFilter := { raw := good, filtered := good, since := none }

/-- Every block at its power-on values (R204, step 2), with the part not running. -/
def State.blank : State :=
  { power := .off, clock := 0, settings := Config.defaults, link := Link.blank .baud57600,
    notices := NoticeQueue.blank, assets := AssetStore.blank, composer := Composer.blank,
    engine := none, ring := BandRing.blank, feed := Feed.blank,
    sensors := { cover := InputFilter.loaded true, media := InputFilter.loaded true },
    pending := [] }

/-- The content of READY at `State.reset` (R195). -/
def NoticeContent.readyAtReset : NoticeContent := .ready .power (Config.identity .baud57600)

/-- The machine right after power-on (R204): READY is queued with number 0, revision 0 and cause POWER
(R203), the receiver hunts (R191), and the transmitter, free with a frame that waits, has begun READY as
the first frame the part sends (R188, R198; log 21). The levels of the straps (both low) and of the sensors
(cover closed, media present) are those of the pins: DESIGN CHOICE, log 6; unsafe. -/
def State.reset : State :=
  { State.blank with
    power := .running
    link :=
      { Link.blank .baud57600 with
        receiver := { Receiver.closed with phase := .hunt }
        tx := some (.notice { number := 0, revision := 0, content := NoticeContent.readyAtReset }) }
    notices :=
      { entries :=
          [{ number := 0, revision := 0, content := NoticeContent.readyAtReset, sent := true,
             lastSending := some 0 }],
        lastNumber := 0 } }

end Sys2Proof.Machine
end

