-- ==== Sys2Proof/WellFormed.lean ====
section
/-! DEFINITION. Which commands are well formed: what a frame of the link can carry (R174) and which
kinds are not in the request table (R185). The machine has a meaning for every command; the ill-formed
ones are those that no host can send. -/

namespace Sys2Proof

/-- The greatest payload of a frame (R174). -/
def maxPayload : Nat := 1024

/-- The request kinds of R185, as the codes of byte 3. -/
def knownKinds : List Byte :=
  [0x01, 0x02, 0x03, 0x04, 0x05, 0x10, 0x11, 0x12, 0x13, 0x14, 0x20, 0x21, 0x22, 0x23, 0x24,
    0x30, 0x31, 0x32, 0x33, 0x34, 0x35]

/-- A payload that one frame can carry (R174). -/
def payloadFits (payload : List Byte) : Bool := decide (payload.length ≤ maxPayload)

/-- A command that the part can meet. -/
def Instr.wf : Instr → Bool
  | .unknownKind _ kind payload => !knownKinds.contains kind && payloadFits payload
  | .hello _ p | .status _ p | .config _ p | .noticeAck _ p => payloadFits p
  | .assetBegin _ p | .assetData _ p | .assetEnd _ p | .assetDrop _ p | .assetQuery _ p => payloadFits p
  | .pageOpen _ p | .objectAdd _ p | .pageClose _ p | .pageCancel _ p | .pageQuery _ p => payloadFits p
  | .feed _ p | .calibrate _ p | .stop _ p | .hold _ p | .release _ p => payloadFits p
  | .resetPages _ | .resetAll _ | .resumeContinue _ | .resumeReprint _ => true
  | .startUp _ _ _ _ _ | .resetLineAssert | .supplyLoss => true
  | .byteReceived _ _ | .headerError _ | .interByteTimeout | .frameComplete _ => true
  | .sensorInputChange _ _ | .conditionJoins _ | .conditionLeaves _ => true
  | .linePeriodElapsed _ | .stepCompletion _ | .burnCompletion | .objectBoundary => true
  | .transmitFrameEnd | .noticeResendDue => true

end Sys2Proof
end

