-- ==== Sys2Proof/Machine/Ops.lean ====
section
/-! DEFINITION. Operations that several blocks share: byte fields, the two checksums, look-ups in the
tables, the clock, and the condition set. -/

namespace Sys2Proof.Machine

/-! ### Bytes -/

/-- `f` applied `n` times. -/
def times {α : Type} (f : α → α) : Nat → α → α
  | 0, a => a
  | n + 1, a => times f n (f a)

/-- The low byte of a number. -/
def byteOf (n : Nat) : Byte := BitVec.ofNat 8 n

/-- A 2-byte field, least significant byte first (R174). -/
def le16 (n : Nat) : List Byte := [byteOf n, byteOf (n / 256)]

/-- A 2-byte field, most significant byte first: the CRC-16 of a frame (R174). -/
def be16 (w : Word16) : List Byte := [byteOf (w.toNat / 256), byteOf w.toNat]

/-! ### Checksums -/

/-- One shift of the CRC-16 register (R176). -/
def crc16Shift (r : Word16) : Word16 := if r.msb then (r <<< 1) ^^^ 0x1021#16 else r <<< 1

/-- One byte into the CRC-16 register (R176). -/
def crc16Byte (r : Word16) (b : Byte) : Word16 := times crc16Shift 8 (r ^^^ (b.setWidth 16 <<< 8))

/-- The CRC-16 of a run of bytes (R176). -/
def crc16 (bytes : List Byte) : Word16 := bytes.foldl crc16Byte 0xFFFF#16

/-- One shift of the CRC-32 register (R161). -/
def crc32Shift (r : Word32) : Word32 :=
  if r.getLsbD 0 then (r >>> 1) ^^^ 0xEDB88320#32 else r >>> 1

/-- One byte into the CRC-32 register (R161). -/
def crc32Byte (r : Word32) (b : Byte) : Word32 := times crc32Shift 8 (r ^^^ b.setWidth 32)

/-- The CRC-32 of an asset's bytes (R161): the register inverted after the last byte. -/
def crc32 (bytes : List Byte) : Word32 := ~~~(bytes.foldl crc32Byte 0xFFFFFFFF#32)

/-! ### Frames (R174) -/

/-- The SYNC byte. -/
def syncByte : Byte := 0xA7

/-- The bytes a frame's CRC-16 covers: the class to the last payload byte (R176). -/
def frameBody (cls number kind : Byte) (payload : List Byte) : List Byte :=
  [cls, number, kind] ++ le16 payload.length ++ payload

/-- A whole frame: SYNC, body, CRC-16 most significant byte first (R174). -/
def frameBytes (cls number kind : Byte) (payload : List Byte) : List Byte :=
  syncByte :: frameBody cls number kind payload ++ be16 (crc16 (frameBody cls number kind payload))

/-- The request that a good frame of class 0x01 carries (R175, R182). -/
def requestOf (seq kind : Byte) (payload : List Byte) : Request :=
  { key := { seq := seq, crc := crc16 (frameBody 0x01 seq kind payload) }, kind := kind,
    payload := payload }

/-! ### Counters and the clock -/

/-- A counter that stops at 65535 (R12, R17, R181) after `k` more events. -/
def saturate (count k : Nat) : Nat := min Config.counterTop (count + k)

/-- The clock moves on to the moment `at_`, when that lies ahead (log 7). -/
def State.advanceTo (s : State) (at_ : Nat) : State := s.withClock (max s.clock at_)

/-- The line period in microseconds, rounded up (R112). -/
def linePeriod (settings : Settings) : Nat := (1000000 + settings.lineRate - 1) / settings.lineRate

/-- The resend interval in microseconds (R199). -/
def resendMicros (settings : Settings) : Nat := settings.resendInterval * 1000

/-! ### The page table and the print queue -/

/-- The entry of the page table with this id. -/
def State.page? (s : State) (id : Nat) : Option Page := s.composer.pages.find? (fun p => p.id = id)

/-- A page table with one entry changed. -/
def changePage (id : Nat) (f : Page → Page) (pages : List Page) : List Page :=
  pages.map (fun p => if p.id = id then f p else p)

/-- One page entry changed in place. -/
def State.changePage (s : State) (id : Nat) (f : Page → Page) : State :=
  s.withComposer { s.composer with pages := Machine.changePage id f s.composer.pages }

/-- The head page's entry (R5). -/
def State.headPage? (s : State) : Option Page := s.composer.queue.head?.bind s.page?

/-- The print cursor (R98): it exists while the print queue is not empty. -/
def State.cursor? (s : State) : Option Cursor :=
  s.headPage?.map (fun p => { page := p.id, copy := p.copiesDone, line := s.feed.line })

/-- The position of the print cursor: its band is the line divided by 64 (R98). -/
def State.cursorTag? (s : State) : Option Tag :=
  s.cursor?.map (fun c => { page := c.page, copy := c.copy, band := c.line / Config.bandHeight })

/-! ### The asset table -/

/-- The entry of the asset table with this id. -/
def State.asset? (s : State) (id : Nat) : Option Asset := s.assets.table.find? (fun a => a.id = id)

/-! ### The condition set (R135) -/

/-- The condition set as the filtered levels give it. -/
def State.conditions (s : State) : ConditionSet :=
  { coverOpen := !s.sensors.cover.filtered, mediaOut := !s.sensors.media.filtered }

/-- The condition set holds nothing. -/
def ConditionSet.isEmpty (c : ConditionSet) : Bool := !c.coverOpen && !c.mediaOut

/-- The cause of a pause taken at a decision that finds this set: MEDIA_OUT before COVER_OPEN (R138). -/
def ConditionSet.cause? (c : ConditionSet) : Option PauseCause :=
  if c.mediaOut then some .mediaOut else if c.coverOpen then some .coverOpen else none

/-- The pause cause that a condition gives (R138). -/
def causeOf : Condition → PauseCause
  | .coverOpen => .coverOpen
  | .mediaOut => .mediaOut

/-! ### Feed state names and reports -/

/-- The feed state by name (R111). -/
def FeedState.name : FeedState → FeedStateName
  | .idle => .idle
  | .backfeed => .backfeed
  | .seekSearch _ _ => .seek
  | .seekOffset _ => .seek
  | .printing => .printing
  | .stalled => .stalled
  | .trailing _ => .trailing
  | .moving _ _ _ => .moving
  | .calibrating _ _ _ _ _ => .calibrating
  | .paused _ _ => .paused

/-- The pause cause and context, present while PAUSED (R138, R139). -/
def FeedState.paused? : FeedState → Option (PauseCause × PausedContext)
  | .paused cause context => some (cause, context)
  | .idle | .backfeed | .seekSearch _ _ | .seekOffset _ | .printing | .stalled | .trailing _
  | .moving _ _ _ | .calibrating _ _ _ _ _ => none

/-- The kind of a context (R145). -/
def PausedContext.kind : PausedContext → ContextKind
  | .print _ _ _ _ => .print
  | .seek _ _ => .seek
  | .backfeed _ _ => .backfeed
  | .trail _ _ => .trail
  | .none => .none

/-- The content of FEED_STATE as the state stands (R152). -/
def State.feedReport (s : State) : FeedReport :=
  { state := s.feed.state.name, conditions := s.conditions, paused := s.feed.state.paused?,
    hold := s.feed.hold }

/-- Some stop is pending (R112). -/
def PendingStops.any (p : PendingStops) : Bool :=
  p.reset.isSome || p.cancel || p.stop || p.condition.isSome

end Sys2Proof.Machine
end

