-- ==== Sys2Proof/Machine/Flags.lean ====
section
/-! DEFINITION. Status codes with their qualifiers (R190) and the flags that replies carry. -/

namespace Sys2Proof.Machine

/-- The status code byte (R190). -/
def Status.code : Status → Byte
  | .ok => 0x00
  | .noSlot => 0x01
  | .unknownKind => 0x02
  | .badLength => 0x03
  | .badValue => 0x04
  | .wrongState => 0x05
  | .noRoomPageEntries | .noRoomObjects | .noRoomElements | .noRoomBandLinks
  | .noRoomAssetEntries | .noRoomAssetBlocks => 0x06
  | .notFound => 0x07
  | .duplicateId => 0x08
  | .outOfOrder => 0x09
  | .checkFailedCrc | .checkFailedFormat => 0x0A
  | .assetNotReady => 0x0B
  | .assetGone => 0x0C
  | .conditionActive => 0x0D
  | .positionLost => 0x0E
  | .stopped => 0x0F
  | .faultedCoverOpen | .faultedMediaOut | .faultedMediaLost => 0x10

/-- The qualifier byte (R190). -/
def Status.qualifier : Status → Byte
  | .noRoomPageEntries => 1
  | .noRoomObjects => 2
  | .noRoomElements => 3
  | .noRoomBandLinks => 4
  | .noRoomAssetEntries => 5
  | .noRoomAssetBlocks => 6
  | .checkFailedCrc => 1
  | .checkFailedFormat => 2
  | .faultedCoverOpen => 1
  | .faultedMediaOut => 2
  | .faultedMediaLost => 3
  | .ok | .noSlot | .unknownKind | .badLength | .badValue | .wrongState | .notFound | .duplicateId
  | .outOfOrder | .assetNotReady | .assetGone | .conditionActive | .positionLost | .stopped => 0

/-- FAULTED with the condition that ended a host motion (R127, R129). -/
def faultedWith : Condition → Status
  | .coverOpen => .faultedCoverOpen
  | .mediaOut => .faultedMediaOut

/-- The flag LONGER_THAN_PITCH of PAGE_CLOSE (R9). -/
def longerThanPitch (pitch length topOffset : Nat) : Bool :=
  decide (0 < pitch) && decide (pitch < length + topOffset)

/-- The flag CLIPPED of OBJECT_ADD (R42): the unclipped box is not empty and reaches outside the page
rectangle. -/
def clippedFlag (box : Box) (width length : Nat) : Bool :=
  decide (box.c0 < box.c1) && decide (box.r0 < box.r1) &&
    (decide (box.c0 < 0) || decide ((width : Int) < box.c1) || decide (box.r0 < 0) ||
      decide ((length : Int) < box.r1))

end Sys2Proof.Machine
end

