-- ==== Sys2Proof/Machine/Operands.lean ====
section
/-! DEFINITION. The operand forms of the requests: the fields of a payload and their ranges, the CONFIG
entry list (R208), and the OBJECT_ADD payload with its checks 1 and 2 (R29, R30, R38). -/

namespace Sys2Proof.Machine

/-! ### Fields of a payload -/

/-- The unsigned byte at an offset. -/
def u8At (p : List Byte) (i : Nat) : Nat := (p.getD i 0).toNat

/-- The unsigned 2-byte field at an offset, least significant byte first. -/
def u16At (p : List Byte) (i : Nat) : Nat := u8At p i + 256 * u8At p (i + 1)

/-- The unsigned 4-byte field at an offset, least significant byte first. -/
def u32At (p : List Byte) (i : Nat) : Nat := u16At p i + 65536 * u16At p (i + 2)

/-- A number of `2 ^ bits` values read in two's complement. -/
def twosComplement (bits n : Nat) : Int := if n < 2 ^ (bits - 1) then (n : Int) else (n : Int) - 2 ^ bits

/-- The signed byte at an offset. -/
def s8At (p : List Byte) (i : Nat) : Int := twosComplement 8 (u8At p i)

/-- The signed 2-byte field at an offset. -/
def s16At (p : List Byte) (i : Nat) : Int := twosComplement 16 (u16At p i)

/-- `lo..hi`, both ends included. -/
def inRange (lo hi n : Nat) : Bool := decide (lo ≤ n) && decide (n ≤ hi)

/-- `lo..hi` of signed values. -/
def inRangeInt (lo hi n : Int) : Bool := decide (lo ≤ n) && decide (n ≤ hi)

/-- A coordinate of an object (R28). -/
def coordinate (n : Int) : Bool := inRangeInt (-8192) 24575 n

/-! ### CONFIG entries (R208) -/

/-- A configuration field (R207). -/
inductive Field where
  | printWidth
  | mediaMode
  | topOffset
  | tearOffset
  | searchLimit
  | lineRate
  | resendInterval
  deriving DecidableEq, Repr

/-- The field of a code (R207). -/
def Field.ofCode : Nat → Option Field
  | 1 => some .printWidth
  | 2 => some .mediaMode
  | 3 => some .topOffset
  | 4 => some .tearOffset
  | 5 => some .searchLimit
  | 6 => some .lineRate
  | 7 => some .resendInterval
  | _ => none

/-- The value lies in the field's range (R207). -/
def Field.accepts : Field → Nat → Bool
  | .printWidth, v => inRange 64 832 v && decide (v % 8 = 0)
  | .mediaMode, v => inRange 0 2 v
  | .topOffset, v => inRange 0 1023 v
  | .tearOffset, v => inRange 0 1023 v
  | .searchLimit, v => inRange 64 32767 v
  | .lineRate, v => inRange 100 1600 v
  | .resendInterval, v => inRange 50 2000 v

/-- The media mode of a value (R207). -/
def mediaModeOf : Nat → MediaMode
  | 0 => .continuous
  | 1 => .gap
  | _ => .mark

/-- One field set (R209). -/
def Field.assign (f : Field) (v : Nat) (c : Settings) : Settings :=
  match f with
  | .printWidth => { c with printWidth := v }
  | .mediaMode => { c with mediaMode := mediaModeOf v }
  | .topOffset => { c with topOffset := v }
  | .tearOffset => { c with tearOffset := v }
  | .searchLimit => { c with searchLimit := v }
  | .lineRate => { c with lineRate := v }
  | .resendInterval => { c with resendInterval := v }

/-- The entries of a CONFIG payload: code and value, 3 bytes each, in the order sent. -/
def configEntries : List Byte → List (Nat × Nat)
  | code :: lo :: hi :: rest => (code.toNat, lo.toNat + 256 * hi.toNat) :: configEntries rest
  | _ => []

/-- The first entry in the order sent that fails check 2, and otherwise the fields named (R208). Of a code
that appears twice, the second entry is the one that fails: the model's choice (log 19). -/
def checkEntries (seen : List Nat) : List (Nat × Nat) → Except Nat (List (Field × Nat))
  | [] => .ok []
  | (code, v) :: rest =>
    match Field.ofCode code with
    | none => .error code
    | some f =>
      if seen.contains code || !f.accepts v then .error code
      else
        match checkEntries (code :: seen) rest with
        | .ok fields => .ok ((f, v) :: fields)
        | .error bad => .error bad

/-! ### OBJECT_ADD: check 1 (R29, R30) -/

/-- The kind part of an OBJECT_ADD payload as sent, before any field is checked. -/
inductive RawShape where
  | rule (x y : Int) (w h : Nat)
  | stroke (x0 y0 x1 y1 : Int) (thickness ends : Nat)
  | fill (vertices : List (Int × Int))
  | place (bitmap : Nat) (x y : Int) (o whitens : Nat)
  | text (font : Nat) (x y : Int) (o : Nat) (spacing : Int) (codes : List Byte)
  | counter (font : Nat) (x y : Int) (o : Nat) (spacing : Int) (start : Nat) (step : Int) (digits : Nat)
  | bars (x y : Int) (height moduleDots o : Nat) (widths : List Nat)
  deriving DecidableEq, Repr

/-- An OBJECT_ADD payload as sent: the common header (R29) and the kind part. -/
structure RawObject where
  page : Nat
  mix : Nat
  source : Nat
  shape : RawShape
  deriving DecidableEq, Repr

/-- `n` vertices from an offset on. -/
def verticesAt (p : List Byte) : Nat → Nat → List (Int × Int)
  | 0, _ => []
  | n + 1, i => (s16At p i, s16At p (i + 2)) :: verticesAt p n (i + 4)

/-- The shape of the payload is the length the kind requires (R30). -/
def ofLength (p : List Byte) (n : Nat) (shape : RawShape) : Except Status RawShape :=
  if p.length = n then .ok shape else .error .badLength

/-- The TEXT part: the form selects a code list or a counter (R30, R35, R36). -/
def parseText (p : List Byte) : Except Status RawShape :=
  if p.length < 15 then .error .badLength
  else if u8At p 14 = 0 then
    if p.length < 16 then .error .badLength
    else ofLength p (16 + u8At p 15)
      (.text (u16At p 6) (s16At p 8) (s16At p 10) (u8At p 12) (s8At p 13) (p.drop 16))
  else if u8At p 14 = 1 then
    ofLength p 22
      (.counter (u16At p 6) (s16At p 8) (s16At p 10) (u8At p 12) (s8At p 13) (u32At p 15) (s16At p 19)
        (u8At p 21))
  else .error .badValue

/-- The kind part by its kind code (R30). -/
def parseShape (kind : Nat) (p : List Byte) : Except Status RawShape :=
  match kind with
  | 1 => ofLength p 14 (.rule (s16At p 6) (s16At p 8) (u16At p 10) (u16At p 12))
  | 2 => ofLength p 16
      (.stroke (s16At p 6) (s16At p 8) (s16At p 10) (s16At p 12) (u8At p 14) (u8At p 15))
  | 3 =>
    if p.length < 7 then .error .badLength
    else ofLength p (7 + 4 * u8At p 6) (.fill (verticesAt p (u8At p 6) 7))
  | 4 => ofLength p 14 (.place (u16At p 6) (s16At p 8) (s16At p 10) (u8At p 12) (u8At p 13))
  | 5 => parseText p
  | 6 =>
    if p.length < 15 then .error .badLength
    else ofLength p (15 + u8At p 14)
      (.bars (s16At p 6) (s16At p 8) (u16At p 10) (u8At p 12) (u8At p 13)
        ((p.drop 15).map BitVec.toNat))
  | _ => .error .badValue

/-- Check 1 (R30). -/
def parseObject (p : List Byte) : Except Status RawObject :=
  if p.length < 6 then .error .badLength
  else
    match parseShape (u8At p 2) p with
    | .error status => .error status
    | .ok shape =>
      .ok { page := u16At p 0, mix := u8At p 3, source := u16At p 4, shape := shape }

/-! ### OBJECT_ADD: check 2 (R38) -/

/-- An OBJECT_ADD whose fields have passed check 2. -/
structure CheckedObject where
  page : Nat
  mix : Mix
  source : Nat
  shape : Shape
  deriving DecidableEq, Repr

/-- The mix of a code (R27). -/
def Mix.ofCode : Nat → Option Mix
  | 0 => some .set
  | 1 => some .clear
  | 2 => some .invert
  | _ => none

/-- The end mode of a code (R29). -/
def EndMode.ofCode : Nat → Option EndMode
  | 0 => some .all
  | 1 => some .skipFirst
  | 2 => some .skipLast
  | 3 => some .skipBoth
  | _ => none

/-- The orientation of a code (R29). -/
def Orientation.ofCode : Nat → Option Orientation
  | 0 => some .deg0
  | 1 => some .deg90
  | 2 => some .deg180
  | 3 => some .deg270
  | _ => none

/-- A flag byte: 0 no, 1 yes (R29). -/
def flagOf : Nat → Option Bool
  | 0 => some false
  | 1 => some true
  | _ => none

/-- Keep a shape whose ranges hold. -/
def keepIf (ok : Bool) (shape : Shape) : Option Shape := if ok then some shape else none

/-- Check 2 on the kind part: every field in its range and every code defined (R28, R31 to R38). -/
def RawShape.check : RawShape → Option Shape
  | .rule x y w h =>
    keepIf (coordinate x && coordinate y && inRange 1 16384 w && inRange 1 16384 h) (.rule x y w h)
  | .stroke x0 y0 x1 y1 t e =>
    (EndMode.ofCode e).bind fun ends =>
      keepIf (coordinate x0 && coordinate y0 && coordinate x1 && coordinate y1 && inRange 1 8 t)
        (.stroke x0 y0 x1 y1 t ends)
  | .fill vs =>
    keepIf (inRange 3 32 vs.length && vs.all (fun v => coordinate v.1 && coordinate v.2)) (.fill vs)
  | .place b x y o q =>
    (Orientation.ofCode o).bind fun turn => (flagOf q).bind fun whitens =>
      keepIf (decide (b ≠ 0) && coordinate x && coordinate y) (.place b x y turn whitens)
  | .text f x y o sp codes =>
    (Orientation.ofCode o).bind fun turn =>
      keepIf (decide (f ≠ 0) && coordinate x && coordinate y && inRangeInt (-16) 64 sp &&
        inRange 1 64 codes.length) (.text f x y turn sp codes)
  | .counter f x y o sp start step digits =>
    (Orientation.ofCode o).bind fun turn =>
      keepIf (decide (f ≠ 0) && coordinate x && coordinate y && inRangeInt (-16) 64 sp &&
        inRange 0 999999999 start && inRangeInt (-9999) 9999 step && inRange 1 10 digits)
        (.counter f x y turn sp start step digits)
  | .bars x y height m o widths =>
    (flagOf o).bind fun along =>
      keepIf (coordinate x && coordinate y && inRange 1 16384 height && inRange 1 16 m &&
        inRange 1 128 widths.length && widths.all (inRange 1 15)) (.bars x y height m along widths)

/-- PLACE and TEXT carry source 0 (R27). -/
def RawShape.sourceAllowed : RawShape → Nat → Bool
  | .place _ _ _ _ _, source => decide (source = 0)
  | .text _ _ _ _ _ _, source => decide (source = 0)
  | .counter _ _ _ _ _ _ _ _, source => decide (source = 0)
  | .rule _ _ _ _, _ => true
  | .stroke _ _ _ _ _ _, _ => true
  | .fill _, _ => true
  | .bars _ _ _ _ _ _, _ => true

/-- Check 2 (R38). -/
def RawObject.check (r : RawObject) : Option CheckedObject :=
  if r.shape.sourceAllowed r.source then
    (Mix.ofCode r.mix).bind fun mix => r.shape.check.map fun shape =>
      { page := r.page, mix := mix, source := r.source, shape := shape }
  else none

end Sys2Proof.Machine
end

