-- ==== Sys2Proof/Machine/AssetStore.lean ====
section
/-! DEFINITION. The asset store (chapter 8): loading, checking, dropping and lending assets. -/

namespace Sys2Proof.Machine

/-- The storage blocks a declared size needs (R154). -/
def blocksFor (declared : Nat) : Nat := (declared + Config.blockSize - 1) / Config.blockSize

/-- Blocks held by an asset (R153). -/
def Asset.blocks (a : Asset) : Nat := blocksFor a.declared

/-- Bytes received (R159). -/
def Asset.received (a : Asset) : Nat := a.data.length

/-- Bytes of one row of an image of this width (R77). -/
def rowBytes (width : Nat) : Nat := (width + 7) / 8

/-- The kind of a code (R156). -/
def AssetKind.ofCode : Nat → Option AssetKind
  | 1 => some .bitmap
  | 2 => some .pattern
  | 3 => some .font
  | _ => none

/-- Width, height and declared size agree with the kind (R155). -/
def geometryAgrees : AssetKind → Nat → Nat → Nat → Bool
  | .bitmap, w, h, size =>
    inRange 1 2048 w && inRange 1 2048 h && decide (size = h * rowBytes w) &&
      decide (size ≤ Config.largestAsset)
  | .pattern, w, h, size =>
    (decide (w = 8) || decide (w = 16) || decide (w = 32)) && decide (h = w) &&
      decide (size = w * w / 8)
  | .font, w, h, size => decide (w = 0) && decide (h = 0) && inRange 1 Config.largestAsset size

/-! ### Table updates -/

/-- One entry of the table changed. -/
def changeAsset (id : Nat) (f : Asset → Asset) (table : List Asset) : List Asset :=
  table.map (fun a => if a.id = id then f a else a)

/-- The storage blocks held by a list of assets. -/
def blocksHeld (table : List Asset) : Nat := (table.map Asset.blocks).sum

/-- Remove the entries that a test picks; their blocks return in the same event (R154). -/
def AssetStore.remove (st : AssetStore) (gone : Asset → Bool) : AssetStore :=
  { table := st.table.filter (fun a => !gone a),
    freeBlocks := st.freeBlocks + blocksHeld (st.table.filter gone) }

/-- The id as sent, where the payload is long enough to hold one. -/
def idAsSent (p : List Byte) : Option Nat := if p.length < 2 then none else some (u16At p 0)

/-! ### ASSET_BEGIN (R156, R157) -/

/-- The record an accepted ASSET_BEGIN creates (R157). -/
def newAsset (id : Nat) (kind : AssetKind) (w h size : Nat) : Asset :=
  { id := id, kind := kind, width := w, height := h, state := .loading, declared := size, data := [],
    refCount := 0, font := none }

/-- ASSET_BEGIN: the checks of R156 in order, then R157. -/
def beginAsset (rq : Request) (s : State) : State × Status × Results :=
  let p := rq.payload
  let free := s.assets.freeBlocks
  if p.length ≠ 11 then (s, .badLength, .assetBegin (idAsSent p) 0 free)
  else
    let id := u16At p 0
    let w := u16At p 3
    let h := u16At p 5
    let size := u32At p 7
    match AssetKind.ofCode (u8At p 2) with
    | none => (s, .badValue, .assetBegin (some id) 0 free)
    | some kind =>
      if id = 0 || !geometryAgrees kind w h size then (s, .badValue, .assetBegin (some id) 0 free)
      else
        let need := blocksFor size
        if (s.asset? id).isSome then (s, .duplicateId, .assetBegin (some id) need free)
        else if Config.assetEntries ≤ s.assets.table.length then
          (s, .noRoomAssetEntries, .assetBegin (some id) need free)
        else if free < need then (s, .noRoomAssetBlocks, .assetBegin (some id) need free)
        else
          (s.withAssets { table := s.assets.table ++ [newAsset id kind w h size],
                          freeBlocks := free - need },
            .ok, .assetBegin (some id) need (free - need))

/-! ### ASSET_DATA (R158, R159) -/

/-- ASSET_DATA: the checks of R158 in order, then the bytes are appended (R159). The reply's count is
that of the asset once the request has been answered; for a payload too short to name an asset the
manual states none. -/
def loadAsset (rq : Request) (s : State) : State × Status × Results :=
  let p := rq.payload
  let id := u16At p 0
  if p.length < 7 then
    (s, .badLength,
      .assetData (idAsSent p) ((idAsSent p).bind fun i => (s.asset? i).map Asset.received))
  else
    match s.asset? id with
    | none => (s, .notFound, .assetData (some id) (some 0))
    | some a =>
      if a.state ≠ .loading then (s, .wrongState, .assetData (some id) (some a.received))
      else if u32At p 2 ≠ a.received then (s, .outOfOrder, .assetData (some id) (some a.received))
      else if a.declared < a.received + (p.length - 6) then
        (s, .badValue, .assetData (some id) (some a.received))
      else
        (s.withAssets { s.assets with
            table := changeAsset id (fun x => { x with data := x.data ++ p.drop 6 }) s.assets.table },
          .ok, .assetData (some id) (some (a.received + (p.length - 6))))

/-! ### Font data (R162 to R164) -/

/-- The size of a glyph's bitmap (R162). -/
def glyphBytes (width height : Nat) : Nat := height * rowBytes width

/-- Read `n` directory entries from an offset on, placing each glyph's bitmap after those before it
(R162, R164). -/
def readDirectory (data : List Byte) : Nat → Nat → Nat → List Glyph
  | 0, _, _ => []
  | n + 1, at_, place =>
    let g : Glyph :=
      { code := data.getD at_ 0, width := u8At data (at_ + 1), height := u8At data (at_ + 2),
        bearing := s8At data (at_ + 3), ascent := s8At data (at_ + 4), advance := u8At data (at_ + 5),
        offset := place }
    g :: readDirectory data n (at_ + 6) (place + glyphBytes g.width g.height)

/-- The directory codes strictly increase (R163). -/
def codesIncrease : List Glyph → Bool
  | a :: b :: rest => decide (a.code.toNat < b.code.toNat) && codesIncrease (b :: rest)
  | [_] => true
  | [] => true

/-- The bytes of all glyph bitmaps (R163). -/
def bitmapBytes (glyphs : List Glyph) : Nat := (glyphs.map (fun g => glyphBytes g.width g.height)).sum

/-- The font format test (R163) and, when it holds, the substitute code and the glyph directory (R164).
The declared size is the number of data bytes, since all have been received. -/
def parseFont (data : List Byte) : Option FontInfo :=
  let size := data.length
  let count := u16At data 0
  let substitute := u16At data 2
  let glyphs := readDirectory data count 4 (4 + 6 * count)
  if size < 4 || !inRange 1 256 count || size < 4 + 6 * count || !codesIncrease glyphs ||
      decide (size ≠ 4 + 6 * count + bitmapBytes glyphs) then none
  else if substitute = 0xFFFF then some { substitute := none, glyphs := glyphs }
  else if substitute ≤ 255 && glyphs.any (fun g => decide (g.code.toNat = substitute)) then
    some { substitute := some (byteOf substitute), glyphs := glyphs }
  else none

/-! ### ASSET_END (R160, R161) -/

/-- The asset becomes READY, a FONT with its directory (R160, R164). -/
def makeReady (id : Nat) (font : Option FontInfo) (s : State) : State :=
  s.withAssets { s.assets with
    table := changeAsset id (fun a => { a with state := .ready, font := font }) s.assets.table }

/-- The asset is removed by a failed check (R160). -/
def dropAsset (id : Nat) (s : State) : State :=
  s.withAssets (s.assets.remove (fun a => decide (a.id = id)))

/-- ASSET_END: the checks of R160 in order. -/
def endAsset (rq : Request) (s : State) : State × Status × Results :=
  let p := rq.payload
  let id := u16At p 0
  if p.length ≠ 6 then
    (s, .badLength,
      .assetEnd (idAsSent p) ((idAsSent p).bind fun i => (s.asset? i).map Asset.received) none)
  else
    match s.asset? id with
    | none => (s, .notFound, .assetEnd (some id) none none)
    | some a =>
      if a.state ≠ .loading then (s, .wrongState, .assetEnd (some id) (some a.received) none)
      else if a.received ≠ a.declared then (s, .outOfOrder, .assetEnd (some id) (some a.received) none)
      else if (crc32 a.data).toNat ≠ u32At p 2 then
        (dropAsset id s, .checkFailedCrc, .assetEnd (some id) (some a.received) none)
      else if a.kind = .font then
        match parseFont a.data with
        | none => (dropAsset id s, .checkFailedFormat, .assetEnd (some id) (some a.received) none)
        | some font =>
          (makeReady id (some font) s, .ok,
            .assetEnd (some id) (some a.received) (some font.glyphs.length))
      else (makeReady id none s, .ok, .assetEnd (some id) (some a.received) none)

/-! ### ASSET_DROP (R165) and ASSET_QUERY (R169) -/

/-- ASSET_DROP by the state and the reference count it finds (R165). -/
def dropRequest (rq : Request) (s : State) : State × Status × Results :=
  let p := rq.payload
  let id := u16At p 0
  if p.length ≠ 2 then (s, .badLength, .assetDrop (idAsSent p) none none)
  else
    match s.asset? id with
    | none => (s, .notFound, .assetDrop (some id) none none)
    | some a =>
      match a.state with
      | .loading => (dropAsset id s, .ok, .assetDrop (some id) (some .removed) (some 0))
      | .ready =>
        if a.refCount = 0 then (dropAsset id s, .ok, .assetDrop (some id) (some .removed) (some 0))
        else
          (s.withAssets { s.assets with
              table := changeAsset id (fun x => { x with state := .doomed }) s.assets.table },
            .ok, .assetDrop (some id) (some .doomed) (some a.refCount))
      | .doomed => (s, .wrongState, .assetDrop (some id) (some .doomed) (some a.refCount))

/-- The record of an asset as ASSET_QUERY reports it (R169). -/
def Asset.record (a : Asset) : AssetRecord :=
  { id := a.id, kind := a.kind, state := a.state, width := a.width, height := a.height,
    declared := a.declared, received := a.received, blocks := a.blocks, refCount := a.refCount,
    font := a.font.map (fun f => (f.glyphs.length, f.substitute)) }

/-- ASSET_QUERY (R169). -/
def queryAsset (rq : Request) (s : State) : State × Status × Results :=
  if rq.payload.length ≠ 2 then (s, .badLength, .unstated)
  else
    match s.asset? (u16At rq.payload 0) with
    | none => (s, .notFound, .unstated)
    | some a => (s, .ok, .assetQuery a.record)

/-! ### Reference counts (R168) -/

/-- The asset an object names (R55): the pattern of a non-zero source, the bitmap or the font. -/
def Shape.assetId? (source : Nat) : Shape → Option Nat
  | .place bitmap _ _ _ _ => some bitmap
  | .text font _ _ _ _ _ => some font
  | .counter font _ _ _ _ _ _ _ => some font
  | .rule _ _ _ _ => if source = 0 then none else some source
  | .stroke _ _ _ _ _ _ => if source = 0 then none else some source
  | .fill _ => if source = 0 then none else some source
  | .bars _ _ _ _ _ _ => if source = 0 then none else some source

/-- The asset a stored object names. -/
def StoredObject.assetId? (o : StoredObject) : Option Nat := o.shape.assetId? o.source

/-- How many objects of a list name an asset. -/
def naming (id : Nat) (objects : List StoredObject) : Nat :=
  objects.countP (fun o => decide (o.assetId? = some id))

/-- A DOOMED asset whose count has reached 0 (R166). -/
def Asset.deferredRemoval (a : Asset) : Bool := decide (a.state = .doomed) && decide (a.refCount = 0)

/-- One reference is released for each object of a list, and DOOMED assets that reach 0 are removed in
the same event (R65, R166). -/
def AssetStore.release (st : AssetStore) (objects : List StoredObject) : AssetStore :=
  AssetStore.remove
    { st with table := st.table.map (fun a => { a with refCount := a.refCount - naming a.id objects }) }
    Asset.deferredRemoval

/-- The reference count of an asset rises by 1 (R63). -/
def AssetStore.lend (st : AssetStore) (id : Nat) : AssetStore :=
  { st with table := changeAsset id (fun a => { a with refCount := a.refCount + 1 }) st.table }

/-- RESET(PAGES): every reference count is 0 and DOOMED assets are removed (R171). -/
def AssetStore.releaseAll (st : AssetStore) : AssetStore :=
  AssetStore.remove { st with table := st.table.map (fun a => { a with refCount := 0 }) }
    Asset.deferredRemoval

end Sys2Proof.Machine
end

