-- ==== Sys2Proof/Machine/Boxes.lean ====
section
/-! DEFINITION. The geometry of objects: the step dots of a stroke (R32, R80), the resolution of text
(R47, R86), the turn of a text frame onto the page (R48), and the bounding boxes (R42 to R50). -/

namespace Sys2Proof.Machine

/-! ### Boxes -/

/-- The box holds no dot (R42). -/
def Box.isEmpty (b : Box) : Bool := decide (b.c1 ≤ b.c0) || decide (b.r1 ≤ b.r0)

/-- A box without dots. -/
def Box.none : Box := { c0 := 0, c1 := 0, r0 := 0, r1 := 0 }

/-- The smallest box around two. -/
def Box.union (a b : Box) : Box :=
  { c0 := min a.c0 b.c0, c1 := max a.c1 b.c1, r0 := min a.r0 b.r0, r1 := max a.r1 b.r1 }

/-- The smallest box around a list of boxes. -/
def Box.unionAll : List Box → Option Box
  | [] => Option.none
  | b :: rest =>
    match Box.unionAll rest with
    | Option.none => some b
    | some u => some (b.union u)

/-- The box cut to the page rectangle (R42). -/
def Box.clip (b : Box) (width length : Nat) : Box :=
  { c0 := max b.c0 0, c1 := min b.c1 width, r0 := max b.r0 0, r1 := min b.r1 length }

/-- The dot lies in the box. -/
def Box.has (b : Box) (x y : Int) : Bool :=
  decide (b.c0 ≤ x) && decide (x < b.c1) && decide (b.r0 ≤ y) && decide (y < b.r1)

/-! ### Strokes (R32, R44, R80, R81) -/

/-- The number of the last step, N (R32). -/
def strokeLast (x0 y0 x1 y1 : Int) : Nat := max (x1 - x0).natAbs (y1 - y0).natAbs

/-- The minor coordinate at step `i` of `n`: the exact value rounded to floor(m + 1/2) (R80). -/
def minorAt (m0 m1 : Int) (n i : Nat) : Int :=
  if n = 0 then m0 else (2 * (m0 * n + (m1 - m0) * i) + n) / (2 * n)

/-- The major coordinate at step `i`, moved toward the end (R32). -/
def majorAt (a0 a1 : Int) (i : Nat) : Int := if a0 ≤ a1 then a0 + i else a0 - i

/-- The step dot of step `i` (R32). -/
def stepDot (x0 y0 x1 y1 : Int) (i : Nat) : Int × Int :=
  let n := strokeLast x0 y0 x1 y1
  if (y1 - y0).natAbs ≤ (x1 - x0).natAbs then (majorAt x0 x1 i, minorAt y0 y1 n i)
  else (minorAt x0 x1 n i, majorAt y0 y1 i)

/-- The square the pen stamps at a dot (R32). -/
def penSquare (thickness : Nat) (dot : Int × Int) : Box :=
  let k : Int := ((thickness - 1) / 2 : Nat)
  { c0 := dot.1 - k, c1 := dot.1 - k + thickness, r0 := dot.2 - k, r1 := dot.2 - k + thickness }

/-- The first kept step (R44). -/
def EndMode.first : EndMode → Nat
  | .all => 0
  | .skipFirst => 1
  | .skipLast => 0
  | .skipBoth => 1

/-- The steps omitted at the end (R44). -/
def EndMode.omitted : EndMode → Nat
  | .all => 0
  | .skipFirst => 0
  | .skipLast => 1
  | .skipBoth => 1

/-- How many steps the end mode keeps of the N + 1 (R44). -/
def keptSteps (ends : EndMode) (n : Nat) : Nat := n + 1 - ends.first - ends.omitted

/-- The box of a STROKE (R44): the squares of the first and the last kept step together. -/
def strokeBox (x0 y0 x1 y1 : Int) (thickness : Nat) (ends : EndMode) : Box :=
  let n := strokeLast x0 y0 x1 y1
  let kept := keptSteps ends n
  if kept = 0 then Box.none
  else
    (penSquare thickness (stepDot x0 y0 x1 y1 ends.first)).union
      (penSquare thickness (stepDot x0 y0 x1 y1 (ends.first + kept - 1)))

/-! ### Text (R47 to R49) -/

/-- The entry of a glyph directory with this code (R164). -/
def FontInfo.lookup (f : FontInfo) (code : Byte) : Option Glyph := f.glyphs.find? (fun g => g.code = code)

/-- How a code is resolved (R47). -/
inductive Resolved where
  | own (g : Glyph)
  | substituted (g : Glyph)
  | skipped
  deriving DecidableEq, Repr

/-- A code against a font (R47): its own glyph, the substitute's, or none. -/
def FontInfo.resolve (f : FontInfo) (code : Byte) : Resolved :=
  match f.lookup code with
  | some g => .own g
  | none =>
    match f.substitute.bind f.lookup with
    | some g => .substituted g
    | none => .skipped

/-- The glyph a resolved code draws. -/
def Resolved.glyph? : Resolved → Option Glyph
  | .own g => some g
  | .substituted g => some g
  | .skipped => none

/-- A glyph without dots (R47). -/
def Glyph.blank (g : Glyph) : Bool := decide (g.width = 0) || decide (g.height = 0)

/-- The glyphs drawn for a code list with the pen position of each (R47, R86). -/
def placeGlyphs (f : FontInfo) (spacing : Int) : Int → List Byte → List (Int × Glyph)
  | _, [] => []
  | pen, code :: rest =>
    match (f.resolve code).glyph? with
    | some g => (pen, g) :: placeGlyphs f spacing (pen + g.advance + spacing) rest
    | none => placeGlyphs f spacing pen rest

/-- The glyph substitutions of a code list (R47). -/
def substitutionCount (f : FontInfo) (codes : List Byte) : Nat :=
  codes.countP (fun c => match f.resolve c with | .substituted _ => true | .own _ => false | .skipped => false)

/-- The glyphs skipped of a code list (R47). -/
def skipCount (f : FontInfo) (codes : List Byte) : Nat :=
  codes.countP (fun c => match f.resolve c with | .skipped => true | .own _ => false | .substituted _ => false)

/-- A rectangle of the text frame turned onto the page (R48). -/
def turnBox (o : Orientation) (x y : Int) (b : Box) : Box :=
  match o with
  | .deg0 => { c0 := x + b.c0, c1 := x + b.c1, r0 := y + b.r0, r1 := y + b.r1 }
  | .deg90 => { c0 := x - b.r1, c1 := x - b.r0, r0 := y + b.c0, r1 := y + b.c1 }
  | .deg180 => { c0 := x - b.c1, c1 := x - b.c0, r0 := y - b.r1, r1 := y - b.r0 }
  | .deg270 => { c0 := x + b.r0, c1 := x + b.r1, r0 := y - b.c1, r1 := y - b.c0 }

/-- The frame rectangle of a glyph at a pen position (R48). -/
def glyphFrame (pen : Int) (g : Glyph) : Box :=
  { c0 := pen + g.bearing, c1 := pen + g.bearing + g.width, r0 := -g.ascent, r1 := -g.ascent + g.height }

/-- The box of a TEXT with a code list (R48). -/
def textBox (f : FontInfo) (x y : Int) (o : Orientation) (spacing : Int) (codes : List Byte) : Box :=
  let drawn := (placeGlyphs f spacing 0 codes).filter (fun d => !d.2.blank)
  (Box.unionAll (drawn.map (fun d => turnBox o x y (glyphFrame d.1 d.2)))).getD Box.none

/-- The ten digit codes 0x30 to 0x39 (R36). -/
def digitCodes : List Byte := [0x30, 0x31, 0x32, 0x33, 0x34, 0x35, 0x36, 0x37, 0x38, 0x39]

/-- The pen's step over a digit code (R49). -/
def digitStep (f : FontInfo) (spacing : Int) (code : Byte) : Int :=
  match (f.resolve code).glyph? with
  | some g => g.advance + spacing
  | none => 0

/-- The least of a non-empty list. -/
def leastOf (first : Int) (rest : List Int) : Int := rest.foldl min first

/-- The greatest of a non-empty list. -/
def greatestOf (first : Int) (rest : List Int) : Int := rest.foldl max first

/-- The box of a TEXT with a counter (R49): it covers every value the counter can show. -/
def counterBox (f : FontInfo) (x y : Int) (o : Orientation) (spacing : Int) (digits : Nat) : Box :=
  let drawn := (digitCodes.filterMap (fun c => (f.resolve c).glyph?)).filter (fun g => !g.blank)
  let steps := digitCodes.map (digitStep f spacing)
  match drawn, steps with
  | g :: gs, st :: sts =>
    let smin := leastOf st sts
    let smax := greatestOf st sts
    let bmin := leastOf g.bearing (gs.map Glyph.bearing)
    let rmax := greatestOf (g.bearing + g.width) (gs.map (fun h => h.bearing + h.width))
    let tmin := leastOf (-g.ascent) (gs.map (fun h => -h.ascent))
    let bmax := greatestOf (-g.ascent + g.height) (gs.map (fun h => -h.ascent + h.height))
    let d : Int := (digits - 1 : Nat)
    turnBox o x y
      { c0 := min 0 (d * smin) + bmin, c1 := max 0 (d * smax) + rmax, r0 := tmin, r1 := bmax }
  | _, _ => Box.none

/-! ### Bar sequences (R50) -/

/-- The sum of the width entries through the last bar: a trailing space is left out (R50). -/
def barExtent (widths : List Nat) : Nat :=
  if widths.length % 2 = 1 then widths.sum else widths.dropLast.sum

/-! ### The box of an object -/

/-- The box of a FILL (R45). -/
def fillBox : List (Int × Int) → Box
  | [] => Box.none
  | v :: vs =>
    { c0 := leastOf v.1 (vs.map Prod.fst), c1 := greatestOf v.1 (vs.map Prod.fst),
      r0 := leastOf v.2 (vs.map Prod.snd), r1 := greatestOf v.2 (vs.map Prod.snd) }

/-- The box of a PLACE (R46). -/
def placeBox (w h : Nat) (x y : Int) : Orientation → Box
  | .deg0 => { c0 := x, c1 := x + w, r0 := y, r1 := y + h }
  | .deg90 => { c0 := x, c1 := x + h, r0 := y, r1 := y + w }
  | .deg180 => { c0 := x, c1 := x + w, r0 := y, r1 := y + h }
  | .deg270 => { c0 := x, c1 := x + h, r0 := y, r1 := y + w }

/-- The unclipped box of an object (R43 to R50), with the asset it names. -/
def Shape.box (asset : Option Asset) : Shape → Box
  | .rule x y w h => { c0 := x, c1 := x + w, r0 := y, r1 := y + h }
  | .stroke x0 y0 x1 y1 t ends => strokeBox x0 y0 x1 y1 t ends
  | .fill vs => fillBox vs
  | .place _ x y o _ =>
    match asset with
    | some a => placeBox a.width a.height x y o
    | none => Box.none
  | .text _ x y o sp codes =>
    match asset.bind Asset.font with
    | some f => textBox f x y o sp codes
    | none => Box.none
  | .counter _ x y o sp _ _ digits =>
    match asset.bind Asset.font with
    | some f => counterBox f x y o sp digits
    | none => Box.none
  | .bars x y height m along widths =>
    if along then { c0 := x, c1 := x + height, r0 := y, r1 := y + (barExtent widths * m : Nat) }
    else { c0 := x, c1 := x + (barExtent widths * m : Nat), r0 := y, r1 := y + height }

/-- The substitutions and skips that an object reports: those of a TEXT code list (R26, R47). -/
def Shape.warnings (asset : Option Asset) : Shape → Nat × Nat
  | .text _ _ _ _ _ codes =>
    match asset.bind Asset.font with
    | some f => (substitutionCount f codes, skipCount f codes)
    | none => (0, 0)
  | .rule _ _ _ _ => (0, 0)
  | .stroke _ _ _ _ _ _ => (0, 0)
  | .fill _ => (0, 0)
  | .place _ _ _ _ _ => (0, 0)
  | .counter _ _ _ _ _ _ _ _ => (0, 0)
  | .bars _ _ _ _ _ _ => (0, 0)

/-- The elements an object takes: the length of its list (R52). -/
def Shape.elements : Shape → Nat
  | .fill vs => vs.length
  | .text _ _ _ _ _ codes => codes.length
  | .bars _ _ _ _ _ widths => widths.length
  | .rule _ _ _ _ => 0
  | .stroke _ _ _ _ _ _ => 0
  | .place _ _ _ _ _ => 0
  | .counter _ _ _ _ _ _ _ _ => 0

/-- The band of a page row (R42). -/
def bandOfRow (row : Int) : Nat := row.toNat / Config.bandHeight

/-- The first band a clipped box touches (R42). -/
def Box.firstBand (b : Box) : Nat := bandOfRow b.r0

/-- How many bands a clipped box touches (R42). -/
def Box.bandsTouched (b : Box) : Nat := bandOfRow (b.r1 - 1) + 1 - bandOfRow b.r0

end Sys2Proof.Machine
end

