-- ==== Sys2Proof/Machine/Rendering.lean ====
section
/-! DEFINITION. Rendering (chapter 4): the dots that each kind of object selects, the mixes, and the
drawing of one object into a band buffer. -/

namespace Sys2Proof.Machine

/-! ### Images (R77) -/

/-- Dot (u, v) of an image `width` dots wide that begins at a byte offset of the data (R77). -/
def imageDot (data : List Byte) (offset width u v : Nat) : Bool :=
  (data.getD (offset + v * rowBytes width + u / 8) 0).getLsbD (7 - u % 8)

/-! ### Coverage, kind by kind -/

/-- A stroke covers a dot when some kept step's square does (R81). -/
def strokeCovers (x0 y0 x1 y1 : Int) (thickness : Nat) (ends : EndMode) (x y : Int) : Bool :=
  (List.range (keptSteps ends (strokeLast x0 y0 x1 y1))).any fun i =>
    (penSquare thickness (stepDot x0 y0 x1 y1 (ends.first + i))).has x y

/-- The edge crosses the sample line of row `y`, at y + 1/2 (R82). -/
def edgeCrosses (a b : Int × Int) (y : Int) : Bool :=
  (decide (a.2 ≤ y) && decide (y < b.2)) || (decide (b.2 ≤ y) && decide (y < a.2))

/-- A crossing edge crosses at or to the left of the centre of dot (x, y): xc ≤ x + 1/2, cleared of
fractions (R82). -/
def crossesLeft (a b : Int × Int) (x y : Int) : Bool :=
  let d := b.2 - a.2
  let lhs := 2 * a.1 * d + (2 * y + 1 - 2 * a.2) * (b.1 - a.1)
  if 0 < d then decide (lhs ≤ (2 * x + 1) * d) else decide ((2 * x + 1) * d ≤ lhs)

/-- The edges of a polygon: each vertex to the next, and the last to the first (R33). -/
def polygonEdges (vs : List (Int × Int)) : List ((Int × Int) × (Int × Int)) :=
  vs.zip (vs.drop 1 ++ vs.take 1)

/-- The even-odd rule at the dot's centre (R82). -/
def fillCovers (vs : List (Int × Int)) (x y : Int) : Bool :=
  decide ((polygonEdges vs).countP (fun e => edgeCrosses e.1 e.2 y && crossesLeft e.1 e.2 x y) % 2 = 1)

/-- The bars of a width list cover an offset along the sequence (R79): entries 1, 3, 5, ... are bars.
`bar` says whether the next entry is a bar, `at_` where it begins. -/
def barsCover (m : Nat) (t : Int) : Bool → Nat → List Nat → Bool
  | _, _, [] => false
  | bar, at_, w :: ws =>
    (bar && decide ((at_ : Int) ≤ t) && decide (t < (at_ + m * w : Nat))) ||
      barsCover m t (!bar) (at_ + m * w) ws

/-- The bitmap dot (u, v) that lands on a page dot, relative to the anchor (R84). -/
def placeSource (w h : Nat) (o : Orientation) (dx dy : Int) : Int × Int :=
  match o with
  | .deg0 => (dx, dy)
  | .deg90 => (dy, h - 1 - dx)
  | .deg180 => (w - 1 - dx, h - 1 - dy)
  | .deg270 => (w - 1 - dy, dx)

/-- The dot of a bitmap that lands on a page dot, none outside the placed rectangle (R84). -/
def placedDot (a : Asset) (x y : Int) (o : Orientation) (px py : Int) : Option Bool :=
  let uv := placeSource a.width a.height o (px - x) (py - y)
  if 0 ≤ uv.1 ∧ uv.1 < a.width ∧ 0 ≤ uv.2 ∧ uv.2 < a.height then
    some (imageDot a.data 0 a.width uv.1.toNat uv.2.toNat)
  else none

/-- The text-frame offset (a, b) that lands on a page dot (R48, R87). -/
def frameSource (o : Orientation) (x y px py : Int) : Int × Int :=
  match o with
  | .deg0 => (px - x, py - y)
  | .deg90 => (py - y, x - 1 - px)
  | .deg180 => (x - 1 - px, y - 1 - py)
  | .deg270 => (y - 1 - py, px - x)

/-- A glyph drawn at a pen position has a 1-dot at a frame offset (R87). -/
def glyphDot (data : List Byte) (pen : Int) (g : Glyph) (ab : Int × Int) : Bool :=
  let u := ab.1 - pen - g.bearing
  let v := ab.2 + g.ascent
  decide (0 ≤ u) && decide (u < g.width) && decide (0 ≤ v) && decide (v < g.height) &&
    imageDot data g.offset g.width u.toNat v.toNat

/-- A run of text covers the page dots on which 1-dots of its glyphs land (R87). -/
def textCovers (a : Asset) (f : FontInfo) (x y : Int) (o : Orientation) (spacing : Int)
    (codes : List Byte) (px py : Int) : Bool :=
  (placeGlyphs f spacing 0 codes).any fun d => glyphDot a.data d.1 d.2 (frameSource o x y px py)

/-- The value a counter shows on a copy (R36, R88): reduced modulo 10 to the power of its digits to a
value that is never negative. -/
def counterValue (start : Nat) (step : Int) (digits copy : Nat) : Nat :=
  (((start : Int) + step * copy) % (10 ^ digits : Nat)).toNat

/-- A value in exactly `digits` decimal digits, most significant first, as the codes 0x30 to 0x39
(R88). -/
def decimalCodes : Nat → Nat → List Byte
  | 0, _ => []
  | digits + 1, value => decimalCodes digits (value / 10) ++ [byteOf (0x30 + value % 10)]

/-- The codes a counter draws on a copy (R88). -/
def counterCodes (start : Nat) (step : Int) (digits copy : Nat) : List Byte :=
  decimalCodes digits (counterValue start step digits copy)

/-- The shape of an object covers a page dot on a copy (R78 to R89). For PLACE these are the dots on
which 1-dots land. -/
def Shape.covers (asset : Option Asset) (copy : Nat) (px py : Int) : Shape → Bool
  | .rule x y w h => ({ c0 := x, c1 := x + w, r0 := y, r1 := y + h } : Box).has px py
  | .stroke x0 y0 x1 y1 t ends => strokeCovers x0 y0 x1 y1 t ends px py
  | .fill vs => fillCovers vs px py
  | .place _ x y o _ =>
    match asset with
    | some a => (placedDot a x y o px py).getD false
    | none => false
  | .text _ x y o sp codes =>
    match asset, asset.bind Asset.font with
    | some a, some f => textCovers a f x y o sp codes px py
    | _, _ => false
  | .counter _ x y o sp start step digits =>
    match asset, asset.bind Asset.font with
    | some a, some f => textCovers a f x y o sp (counterCodes start step digits copy) px py
    | _, _ => false
  | .bars x y height m along widths =>
    if along then
      decide (x ≤ px) && decide (px < x + height) && barsCover m (py - y) true 0 widths
    else
      decide (y ≤ py) && decide (py < y + height) && barsCover m (px - x) true 0 widths

/-- The source of an object is a pattern (R27): PLACE and TEXT have none. -/
def Shape.patterned (source : Nat) : Shape → Bool
  | .place _ _ _ _ _ => false
  | .text _ _ _ _ _ _ => false
  | .counter _ _ _ _ _ _ _ _ => false
  | .rule _ _ _ _ => decide (source ≠ 0)
  | .stroke _ _ _ _ _ _ => decide (source ≠ 0)
  | .fill _ => decide (source ≠ 0)
  | .bars _ _ _ _ _ _ => decide (source ≠ 0)

/-- The pattern's bit at a page dot, anchored at the page origin (R76). -/
def patternDot (asset : Option Asset) (px py : Int) : Bool :=
  match asset with
  | some a => imageDot a.data 0 a.width (px % a.width).toNat (py % a.width).toNat
  | none => false

/-- The object selects a page dot (R75, R76): its shape through its source. -/
def StoredObject.selects (o : StoredObject) (asset : Option Asset) (copy : Nat) (px py : Int) : Bool :=
  o.shape.covers asset copy px py && (!o.shape.patterned o.source || patternDot asset px py)

/-- The opaque flag of a PLACE whitens a page dot (R85): a 0-dot lands on it. -/
def StoredObject.whitens (o : StoredObject) (asset : Option Asset) (px py : Int) : Bool :=
  match o.shape, asset with
  | .place _ x y turn true, some a => decide (placedDot a x y turn px py = some false)
  | _, _ => false

/-- What the mix makes of a selected dot; `true` is black (R75). -/
def Mix.apply : Mix → Bool → Bool
  | .set, _ => true
  | .clear, _ => false
  | .invert, before => !before

/-- A page dot after an object has been drawn over it (R75, R85). -/
def StoredObject.dotAfter (o : StoredObject) (asset : Option Asset) (copy : Nat) (px py : Int)
    (before : Bool) : Bool :=
  if o.selects asset copy px py then o.mix.apply before
  else if o.whitens asset px py then false
  else before

/-! ### Rasters -/

/-- The dot of a raster at a buffer row and column. -/
def Raster.dot (r : Raster) (row col : Nat) : Bool := (r.toArray.getD row 0).getLsbD col

/-- A raster made dot by dot. -/
def Raster.ofDots (f : Nat → Nat → Bool) : Raster :=
  Vector.ofFn fun row => BitVec.ofFnLE fun col => f row col

/-- The buffer row and column lie in the band window: the page's width and the band's height (R74). -/
def inWindow (width length band row col : Nat) : Bool :=
  decide (col < width) && decide (Config.bandHeight * band + row < length)

/-- One object drawn into the raster of a band, inside the band window (R74, R75). -/
def drawObject (o : StoredObject) (asset : Option Asset) (page : Page) (tag : Tag) (r : Raster) :
    Raster :=
  Raster.ofDots fun row col =>
    if inWindow page.width page.length tag.band row col then
      o.dotAfter asset tag.copy col (Config.bandHeight * tag.band + row : Nat) (r.dot row col)
    else r.dot row col

/-- The objects of a page's band list, in list order (R57, R90). -/
def Page.bandObjects (p : Page) (band : Nat) : List StoredObject :=
  (p.bandLists.getD band []).filterMap fun n => p.objects.find? (fun o => o.number = n)

end Sys2Proof.Machine
end

