-- ==== Sys2Proof/Machine/Ring.lean ====
section
/-! DEFINITION. The band ring (chapter 5): the print order, assignment, voiding, band requests and
grants. -/

namespace Sys2Proof.Machine

/-! ### Buffers -/

/-- The tag of a buffer, present when it is not FREE (R94). -/
def BufferState.tag? : BufferState → Option Tag
  | .free => none
  | .filling t _ => some t
  | .ready t => some t
  | .draining t => some t

/-- The buffer is neither FREE nor void (R96). -/
def BufferState.live : BufferState → Bool
  | .free => false
  | .filling _ void => !void
  | .ready _ => true
  | .draining _ => true

/-- The buffer is DRAINING. -/
def BufferState.isDraining : BufferState → Bool
  | .free => false
  | .filling _ _ => false
  | .ready _ => false
  | .draining _ => true

/-- The state of a buffer of the ring. -/
def BandRing.stateOf (r : BandRing) (i : Fin 4) : BufferState := (r.buffers.get i).state

/-- A ring with one buffer in another state; its raster is not touched. -/
def BandRing.setState (r : BandRing) (i : Fin 4) (st : BufferState) : BandRing :=
  { r with buffers := r.buffers.set i { r.buffers.get i with state := st } }

/-- A buffer becomes FREE and leaves the assignment order (R96). -/
def BandRing.freeBuffer (r : BandRing) (i : Fin 4) : BandRing :=
  { (r.setState i .free) with order := r.order.filter (fun j => j ≠ i) }

/-- The non-void buffers in assignment order (R96). -/
def BandRing.liveOrder (r : BandRing) : List (Fin 4) := r.order.filter (fun i => (r.stateOf i).live)

/-- The buffer the feed controller is reading (R103). -/
def BandRing.draining? (r : BandRing) : Option (Fin 4) :=
  [0, 1, 2, 3].find? (fun i => (r.stateOf i).isDraining)

/-- The lowest-numbered FREE buffer (R100). -/
def BandRing.lowestFree? (r : BandRing) : Option (Fin 4) :=
  [0, 1, 2, 3].find? (fun i => decide (r.stateOf i = .free))

/-! ### The print order (R97) -/

/-- The positions of one copy. -/
def copyPositions (p : Page) (copy : Nat) : List Tag :=
  (List.range p.bandCount).map fun b => { page := p.id, copy := copy, band := b }

/-- The positions of a page: its copies from copies done on, each copy's bands from 0 (R97). -/
def pagePositions (p : Page) : List Tag :=
  (List.range (p.copiesOrdered - p.copiesDone)).flatMap fun c => copyPositions p (p.copiesDone + c)

/-- The print order: the pages of the print queue in queue order (R97). -/
def State.printOrder (s : State) : List Tag :=
  s.composer.queue.flatMap fun id =>
    match s.page? id with
    | some p => pagePositions p
    | none => []

/-- The page behind another in the print queue. -/
def pageBehind : List Nat → Nat → Option Nat
  | a :: b :: rest, id => if a = id then some b else pageBehind (b :: rest) id
  | [_], _ => none
  | [], _ => none

/-- The first position of a queued page (R97). -/
def State.firstPosition? (s : State) (id : Nat) : Option Tag :=
  (s.page? id).map fun p => { page := id, copy := p.copiesDone, band := 0 }

/-- The position of the print order that follows a position: the next band, the next copy, or the next
page of the queue (R97, R104). -/
def State.positionAfter? (s : State) (t : Tag) : Option Tag :=
  match s.page? t.page with
  | none => none
  | some p =>
    if t.band + 1 < p.bandCount then some { t with band := t.band + 1 }
    else if t.copy + 1 < p.copiesOrdered then some { t with copy := t.copy + 1, band := 0 }
    else (pageBehind s.composer.queue t.page).bind s.firstPosition?

/-- The next band to render (R100): the position after the newest non-void buffer, and the cursor's
position when no non-void buffer is assigned. -/
def State.nextBand? (s : State) : Option Tag :=
  match s.ring.liveOrder.getLast? with
  | some i => (s.ring.stateOf i).tag?.bind s.positionAfter?
  | none => s.cursorTag?

/-! ### Assignment (R100) and the beginning of a render (R69, R70) -/

/-- A buffer becomes FILLING with a tag and a clear void mark, joins the assignment order, is cleared
and handed to the raster engine (R70, R100). -/
def BandRing.assign (r : BandRing) (i : Fin 4) (t : Tag) : BandRing :=
  { r with buffers := r.buffers.set i { state := .filling t false, raster := Raster.white },
           order := r.order ++ [i] }

/-- The ring tests its three conditions and assigns at most one buffer (R100). -/
def assignBand (s : State) : State :=
  match s.engine, s.ring.lowestFree?, s.nextBand? with
  | none, some i, some t =>
    (s.withRing (s.ring.assign i t)).withEngine (some { buffer := i, tag := t, progress := 0 })
  | _, _, _ => s

/-! ### Voiding (R105) -/

/-- Voiding by the state of a buffer whose tag is picked. -/
def BufferState.void (pick : Tag → Bool) : BufferState → BufferState
  | .free => .free
  | .filling t v => .filling t (v || pick t)
  | .ready t => if pick t then .free else .ready t
  | .draining t => if pick t then .free else .draining t

/-- Void the buffers whose tags are picked, and withdraw a waiting request whose tag is (R105). -/
def BandRing.void (r : BandRing) (pick : Tag → Bool) : BandRing :=
  { buffers := r.buffers.map (fun b => { b with state := b.state.void pick }),
    order := r.order.filter (fun i => decide ((r.stateOf i).void pick ≠ .free)),
    waiting := r.waiting.filter (fun t => !pick t) }

/-- Void the buffers tagged with a page (R106). -/
def voidPage (id : Nat) (s : State) : State := s.withRing (s.ring.void (fun t => decide (t.page = id)))

/-- Void every buffer, whatever its tag (R108, R109). -/
def voidAll (s : State) : State := s.withRing (s.ring.void (fun _ => true))

/-! ### Band requests (R102) and draining (R103) -/

/-- The oldest non-void buffer when it is READY with a tag. -/
def BandRing.oldestReady? (r : BandRing) (t : Tag) : Option (Fin 4) :=
  match r.liveOrder.head? with
  | some i => if r.stateOf i = .ready t then some i else none
  | none => none

/-- The request for a position is withdrawn. -/
def withdrawRequest (s : State) : State := s.withRing { s.ring with waiting := none }

/-- The DRAINING buffer becomes FREE at the burn of its band's last line (R103); when voiding has taken
it, nothing is freed (R105). -/
def freeDraining (s : State) : State :=
  match s.ring.draining? with
  | some i => s.withRing (s.ring.freeBuffer i)
  | none => s

/-- The row of the DRAINING buffer that a page line is read from (R103): row line - 64b. -/
def State.drainingRow (s : State) (line : Nat) : DotLine :=
  match s.ring.draining? with
  | some i => (s.ring.buffers.get i).raster.toArray.getD (line % Config.bandHeight) 0
  | none => 0

end Sys2Proof.Machine
end

