-- ==== Sys2Proof/Machine/Notices.lean ====
section
/-! DEFINITION. The notice queue (chapter 10): numbers, creation, revision, the choice of the next
notice to send, and NOTICE_ACK. -/

namespace Sys2Proof.Machine

/-- The kind of a notice is that of its content (R193). -/
def NoticeContent.kind : NoticeContent → NoticeKind
  | .ready _ _ => .ready
  | .pageEnded _ => .pageEnded
  | .feedState _ => .feedState

/-- The kind code of byte 3 (R193). -/
def NoticeKind.code : NoticeKind → Byte
  | .ready => 0x81
  | .pageEnded => 0x82
  | .feedState => 0x83

/-- The first number from the candidate on that is not held; after 255 comes 0 (R194). -/
def searchNumber : Nat → Byte → List Byte → Byte
  | 0, candidate, _ => candidate
  | fuel + 1, candidate, held =>
    if held.contains candidate then searchNumber fuel (candidate + 1) held else candidate

/-- The number of the next created entry (R194), with numbers that are skipped besides (R195). -/
def NoticeQueue.nextNumber (q : NoticeQueue) (skipped : List Byte) : Byte :=
  searchNumber 255 (q.lastNumber + 1) (q.entries.map Notice.number ++ skipped)

/-- A new entry at the tail, revision 0, unsent, never sent (R193, R194, R197). -/
def NoticeQueue.create (q : NoticeQueue) (skipped : List Byte) (content : NoticeContent) : NoticeQueue :=
  { entries := q.entries ++
      [{ number := q.nextNumber skipped, revision := 0, content := content, sent := false,
         lastSending := none }],
    lastNumber := q.nextNumber skipped }

/-- The entry is a FEED_STATE notice. -/
def Notice.isFeedState (n : Notice) : Bool := decide (n.content.kind = .feedState)

/-- The entry is a PAGE_ENDED notice. -/
def Notice.isPageEnded (n : Notice) : Bool := decide (n.content.kind = .pageEnded)

/-- A FEED_STATE entry takes the newest content and one revision more (R197). -/
def Notice.revise (n : Notice) (report : FeedReport) : Notice :=
  { n with revision := n.revision + 1, content := .feedState report, sent := false }

/-- A FEED_STATE content handed to the queue creates an entry or revises the one held (R197). -/
def NoticeQueue.feedState (q : NoticeQueue) (report : FeedReport) : NoticeQueue :=
  if q.entries.any Notice.isFeedState then
    { q with entries := q.entries.map (fun n => if n.isFeedState then n.revise report else n) }
  else q.create [] (.feedState report)

/-- The triggers of R152 between two states: entry to PAUSED, leaving PAUSED, or a change of the
condition set. -/
def feedStateTriggered (before after : State) : Bool :=
  (before.feed.state.paused?.isSome != after.feed.state.paused?.isSome) ||
    decide (before.conditions ≠ after.conditions)

/-- The feed controller hands over its content when the event that led from `before` to `after` was a
trigger, once (R152, R197). -/
def reportFeed (before after : State) : State :=
  if feedStateTriggered before after then
    after.withNotices (after.notices.feedState after.feedReport)
  else after

/-- HELLO's resend flag marks every entry unsent (R202). -/
def NoticeQueue.resendAll (q : NoticeQueue) : NoticeQueue :=
  { q with entries := q.entries.map (fun n => { n with sent := false }) }

/-- RESET(PAGES) removes the PAGE_ENDED entries (R203). -/
def NoticeQueue.dropPageEnded (q : NoticeQueue) : NoticeQueue :=
  { q with entries := q.entries.filter (fun n => !n.isPageEnded) }

/-- RESET(ALL) empties the queue and creates READY, numbered past the numbers that the reset removed
(R195, R203): those still held and those it has removed before. -/
def NoticeQueue.restart (q : NoticeQueue) (removed : List Byte) (content : NoticeContent) : NoticeQueue :=
  NoticeQueue.create { q with entries := [] } (removed ++ q.entries.map Notice.number) content

/-- The entry's resend interval has elapsed at the clock (R198). -/
def Notice.due (clock interval : Nat) (n : Notice) : Bool :=
  match n.lastSending with
  | some t => decide (t + interval ≤ clock)
  | none => false

/-- The entry the queue offers (R198): the first unsent one, else the first one due. -/
def NoticeQueue.offer (q : NoticeQueue) (clock interval : Nat) : Option Notice :=
  match q.entries.find? (fun n => !n.sent) with
  | some n => some n
  | none => q.entries.find? (Notice.due clock interval)

/-- The transmitter begins to send the entry with this number (R198). -/
def NoticeQueue.beginSending (q : NoticeQueue) (number : Byte) (clock : Nat) : NoticeQueue :=
  { q with entries := q.entries.map (fun n =>
      if n.number = number then { n with sent := true, lastSending := some clock } else n) }

/-- The earliest moment at which a sent entry falls due (R198). -/
def NoticeQueue.nextDue? (q : NoticeQueue) (interval : Nat) : Option Nat :=
  q.entries.foldl (fun best n =>
    match n.sent, n.lastSending, best with
    | true, some t, some b => some (min b (t + interval))
    | true, some t, none => some (t + interval)
    | _, _, b => b) none

/-- The page whose report an entry carries. -/
def Notice.pageEndedId? (n : Notice) : Option Nat :=
  match n.content with
  | .pageEnded report => some report.page
  | .ready _ _ => none
  | .feedState _ => none

/-- The entry of an acknowledged page report is freed (R21). -/
def freePageEntry (id : Nat) (s : State) : State :=
  s.withComposer { s.composer with
    pages := s.composer.pages.filter (fun p => !(decide (p.id = id) && decide (p.state = .ended))) }

/-- NOTICE_ACK (R200). The page entry of a removed PAGE_ENDED notice is freed in the same event (R21). -/
def ackNotice (rq : Request) (s : State) : State × Status × Results :=
  match rq.payload with
  | [number, lo, hi] =>
    let revision : Word16 := hi ++ lo
    match s.notices.entries.find? (fun n => n.number = number) with
    | none => (s, .ok, .noticeAck number .notFound none 0 none)
    | some n =>
      if n.revision = revision then
        let removed := s.withNotices
          { s.notices with entries := s.notices.entries.filter (fun m => m.number ≠ number) }
        match n.pageEndedId? with
        | some id =>
          (freePageEntry id removed, .ok,
            .noticeAck number .removed (some n.content.kind) n.revision (some id))
        | none => (removed, .ok, .noticeAck number .removed (some n.content.kind) n.revision none)
      else (s, .ok, .noticeAck number .stale (some n.content.kind) n.revision none)
  | _ => (s, .badLength, .unstated)

end Sys2Proof.Machine
end

