-- ==== Sys2Proof/Machine/Transmit.lean ====
section
/-! DEFINITION. The transmitter and the reply side of the host link (sections 9.5 and 9.6): a reply
completes, the arbiter chooses, a frame begins. -/

namespace Sys2Proof.Machine

/-! ### Completing a reply -/

/-- A reply enters the cache (R186): it replaces an entry of its seq, else the oldest of four. -/
def cacheReply (cache : List CacheEntry) (entry : CacheEntry) : List CacheEntry :=
  let others := cache.filter (fun e => e.key.seq ≠ entry.key.seq)
  (if others.length = cache.length ∧ Config.cacheEntries ≤ cache.length then others.drop 1 else others)
    ++ [entry]

/-- The slot of a request takes its complete reply (R183). -/
def fillSlot (slots : List Slot) (key : RequestKey) (frame : ReplyFrame) : List Slot :=
  slots.map (fun slot => if slot.key = key then { slot with reply := some frame } else slot)

/-- The reply of the request held under `key` is complete: it enters its slot, the reply list and the
cache in one event (R184, R186, R188). -/
def Link.complete (l : Link) (key : RequestKey) (kind : Byte) (status : Status) (results : Results) :
    Link :=
  let frame : ReplyFrame :=
    { seq := key.seq, kind := kind, status := status, results := results, serial := l.serial }
  { l with slots := fillSlot l.slots key frame, replies := l.replies ++ [.ofSlot key],
           cache := cacheReply l.cache { key := key, frame := frame }, serial := l.serial + 1 }

/-- `Link.complete` on the state. -/
def completeReply (key : RequestKey) (kind : Byte) (status : Status) (results : Results) (s : State) :
    State :=
  s.withLink (s.link.complete key kind status results)

/-! ### The arbiter -/

/-- The reply of a held slot. -/
def slotReply? (slots : List Slot) (key : RequestKey) : Option ReplyFrame :=
  (slots.find? (fun slot => slot.key = key)).bind Slot.reply

/-- The frame of an entry of the reply list. -/
def WaitingReply.frame? (slots : List Slot) : WaitingReply → Option ReplyFrame
  | .ofSlot key => slotReply? slots key
  | .resend _ frame => some frame
  | .refusal frame => some frame

/-- The slots once the transmitter has begun to send an entry: a slot reply frees its slot (R183). -/
def freeSlot (slots : List Slot) : WaitingReply → List Slot
  | .ofSlot key => slots.filter (fun slot => slot.key ≠ key)
  | .resend _ _ => slots
  | .refusal _ => slots

/-- An unslotted reply (R188). -/
def WaitingReply.unslotted : WaitingReply → Bool
  | .ofSlot _ => false
  | .resend _ _ => true
  | .refusal _ => true

/-- The choice of a free transmitter (R188): the first reply of the list, else the notice offered, else
nothing. A busy transmitter chooses nothing, and neither does a part that does not run (R204). -/
def choose (s : State) : State :=
  if s.power ≠ .running then s else
  match s.link.tx with
  | some _ => s
  | none =>
    match s.link.replies with
    | entry :: rest =>
      s.withLink { s.link with replies := rest, slots := freeSlot s.link.slots entry,
                               tx := (entry.frame? s.link.slots).map TxFrame.reply }
    | [] =>
      match s.notices.offer s.clock (resendMicros s.settings) with
      | some n =>
        (s.withLink { s.link with
            tx := some (.notice { number := n.number, revision := n.revision, content := n.content }) }
          ).withNotices (s.notices.beginSending n.number s.clock)
      | none => s

/-! ### The bytes of a frame on HTX -/

/-- The payload of a reply (R175, R189): status code, qualifier, results. NO_SLOT and UNKNOWN_KIND carry
the first two bytes alone. The results' bytes are a free value, kept to the payload's size (R174). -/
def ReplyFrame.payload (f : ReplyFrame) : List Byte :=
  [f.status.code, f.status.qualifier] ++
    (if f.status = .noSlot ∨ f.status = .unknownKind then []
     else (Config.resultBytes f.serial f.kind f.status f.results).take (maxPayload - 2))

/-- The payload of a notice (R175): the revision, least significant byte first, then the content. -/
def NoticeFrame.payload (f : NoticeFrame) : List Byte :=
  le16 f.revision.toNat ++ (Config.contentBytes f.content).take (maxPayload - 2)

/-- The bytes the transmitter sends for a frame (R174, R175, R189). -/
def TxFrame.bytes : TxFrame → List Byte
  | .reply f => frameBytes 0x02 f.seq f.kind f.payload
  | .notice f => frameBytes 0x03 f.number f.content.kind.code f.payload

/-- TRANSMIT_FRAME_END (R188): the frame is finished and the transmitter chooses again. -/
def endFrame (s : State) : State := choose (s.withLink { s.link with tx := none })

/-- NOTICE_RESEND_DUE (R198): time passes to the moment at which the first entry falls due, and a free
transmitter chooses at once. -/
def resendDue (s : State) : State :=
  match s.notices.nextDue? (resendMicros s.settings) with
  | some t => choose (s.advanceTo t)
  | none => choose s

end Sys2Proof.Machine
end

