-- ==== Sys2Proof/Machine/Pages.lean ====
section
/-! DEFINITION. The page table and the print queue (chapter 1): the reports of the feed controller, the
end of a page, and the return of its records (section 3.6). -/

namespace Sys2Proof.Machine

/-! ### Reports on the ACTIVE page (R11, R12) -/

/-- A report acts on the named page if that page is ACTIVE, and otherwise has no effect (section 1.8). -/
def onActive (id : Nat) (f : Page → Page) (s : State) : State :=
  s.changePage id (fun p => if p.state = .active then f p else p)

/-- A stall report (R12). -/
def reportStall (id : Nat) (s : State) : State :=
  onActive id (fun p => { p with stalls := saturate p.stalls 1 }) s

/-- An edge report (R12). -/
def reportEdge (id : Nat) (s : State) : State :=
  onActive id (fun p => { p with edges := saturate p.edges 1 }) s

/-- A reprint report (R12). -/
def reportReprint (id : Nat) (s : State) : State :=
  onActive id (fun p => { p with reprints := saturate p.reprints 1 }) s

/-- The head page is begun: QUEUED becomes ACTIVE, and no counter changes (R10). -/
def beginHead (s : State) : State :=
  match s.composer.queue.head? with
  | some id => s.changePage id (fun p => if p.state = .queued then { p with state := .active } else p)
  | none => s

/-! ### The end of a page (R13) -/

/-- The page report, taken from the entry as it enters ENDED (R18). -/
def Page.report (p : Page) (outcome : PageOutcome) : PageReport :=
  { page := p.id, outcome := outcome, stateAtCancel := p.state, width := p.width, length := p.length,
    bandCount := p.bandCount, copiesOrdered := p.copiesOrdered, copiesDone := p.copiesDone,
    reprints := p.reprints, stalls := p.stalls, edges := p.edges, culled := p.culled,
    substitutions := p.substitutions, skipped := p.skipped, storedCount := p.storedCount }

/-- The entry in ENDED: its report values stay, its objects and band lists cease to exist (R13). -/
def Page.endWith (p : Page) (outcome : PageOutcome) (notice : Byte) : Page :=
  { p with state := .ended, objects := [], bandLists := [],
           ended := some { outcome := outcome, stateAtCancel := p.state, noticeNumber := notice } }

/-- The elements held by a list of objects (R65). -/
def elementsHeld (objects : List StoredObject) : Nat := (objects.map (fun o => o.shape.elements)).sum

/-- The band links held by a list of objects (R65). -/
def linksHeld (objects : List StoredObject) : Nat := (objects.map StoredObject.bandsTouched).sum

/-- The records of a page return to their pools, with the entry ended and out of the queue (R5, R65). -/
def Composer.endPage (c : Composer) (p : Page) (outcome : PageOutcome) (notice : Byte) : Composer :=
  { c with pages := changePage p.id (fun q => q.endWith outcome notice) c.pages,
           queue := c.queue.filter (fun id => id ≠ p.id),
           freeObjects := c.freeObjects + p.objects.length,
           freeElements := c.freeElements + elementsHeld p.objects,
           freeLinks := c.freeLinks + linksHeld p.objects }

/-- A page enters ENDED, in one event (R13): its entry, the queue, its records and asset references,
its buffers, and its PAGE_ENDED notice. -/
def endPage (p : Page) (outcome : PageOutcome) (s : State) : State :=
  let number := s.notices.nextNumber []
  voidPage p.id
    (((s.withComposer (s.composer.endPage p outcome number)).withAssets (s.assets.release p.objects)
      ).withNotices (s.notices.create [] (.pageEnded (p.report outcome))))

/-- The end of a copy (R11): copies done rises, and after the last copy the page ends DONE. -/
def endCopy (id : Nat) (s : State) : State :=
  match s.page? id with
  | none => s
  | some p =>
    let counted := s.changePage id (fun q => { q with copiesDone := q.copiesDone + 1 })
    if p.copiesDone + 1 = p.copiesOrdered then
      endPage { p with copiesDone := p.copiesDone + 1 } .done counted
    else counted

/-- The page with this id is ACTIVE. -/
def State.isActive (s : State) (id : Nat) : Bool :=
  (s.page? id).any (fun p => decide (p.state = .active))

end Sys2Proof.Machine
end

