-- ==== Sys2Proof/Machine/Feed.lean ====
section
/-! DEFINITION. The feed controller (chapters 6 and 7): steps and burns, the start of a copy, seeking,
printing, trailing, pausing, and what it does at a line boundary.

An operation here takes the state at a line boundary to the state after the feed has decided, except
where its name says otherwise. -/

namespace Sys2Proof.Machine

/-- The feed controller changed. -/
def State.onFeed (s : State) (f : Feed → Feed) : State := s.withFeed (f s.feed)

/-- The feed enters a state. -/
def State.enter (s : State) (st : FeedState) : State := s.onFeed fun f => { f with state := st }

/-! ### Steps and burns (R112) -/

/-- A line step starts; its line period runs from now. -/
def startStep (dir : Direction) (s : State) : State :=
  s.onFeed fun f =>
    { f with inFlight := .step dir, called := none, stepStarted := some s.clock }

/-- A step is called for: it starts at once, or waits for the line period of the previous step. -/
def callStep (dir : Direction) (s : State) : State :=
  if s.feed.stepStarted.isNone then startStep dir s
  else s.onFeed fun f => { f with called := some (.step dir) }

/-- A line's burn begins (R103, R119): the row of the DRAINING buffer is latched in the head. -/
def startBurn (s : State) : State :=
  s.onFeed fun f =>
    { f with inFlight := .burn, called := none, burnStarted := some s.clock,
             headLatch := s.drainingRow f.line,
             openLine := s.cursor?.map fun c => { page := c.page, line := c.line, copyEnded := false } }

/-- The burn of the cursor's line is called for. -/
def callBurn (s : State) : State :=
  if s.feed.burnStarted.isNone then startBurn s
  else s.onFeed fun f => { f with called := some .burn }

/-- A line period runs out (R112): the clock stands at that moment, and a step or a burn that waited
for it starts. -/
def periodElapsed (which : PeriodOf) (s : State) : State :=
  match which with
  | .step =>
    match s.feed.stepStarted with
    | none => s
    | some t =>
      let s' := (s.advanceTo (t + linePeriod s.settings)).onFeed fun f => { f with stepStarted := none }
      match s.feed.called with
      | some (.step dir) => startStep dir s'
      | some .burn => s'
      | none => s'
  | .burn =>
    match s.feed.burnStarted with
    | none => s
    | some t =>
      let s' := (s.advanceTo (t + linePeriod s.settings)).onFeed fun f => { f with burnStarted := none }
      match s.feed.called with
      | some .burn => startBurn s'
      | some (.step _) => s'
      | none => s'

/-! ### The edge sense (R113) -/

/-- The sample detects a top edge. -/
def topEdge (history : Option EdgeLevel) (sample : EdgeLevel) : Bool :=
  decide (history = some .gapOrMark) && decide (sample = .labelOrNoMark)

/-! ### Printing (R119, R120) -/

/-- A band request (R102): granted at once when the oldest non-void buffer is READY with the cursor's
position, and otherwise it waits and the feed stalls (R120). -/
def requestBand (t : Tag) (s : State) : State :=
  match s.ring.oldestReady? t with
  | some i => callBurn ((s.withRing (s.ring.setState i (.draining t))).enter .printing)
  | none => reportStall t.page ((s.withRing { s.ring with waiting := some t }).enter .stalled)

/-- PRINTING at a boundary: the feed burns the cursor's line from the buffer it holds, and makes a band
request when it holds none (R119). -/
def printLine (s : State) : State :=
  match s.ring.draining? with
  | some _ => callBurn (s.enter .printing)
  | none =>
    match s.cursorTag? with
    | some t => requestBand t (s.enter .printing)
    | none => s.enter .printing

/-- A waiting request is granted at the completion that makes its band READY (R102): the feed leaves
STALLED and burns the line (R120). -/
def grantWaiting (i : Fin 4) (t : Tag) (s : State) : State :=
  if s.ring.waiting = some t then
    let granted := s.withRing { s.ring.setState i (.draining t) with waiting := none }
    if s.feed.state = .stalled then callBurn (granted.enter .printing) else granted
  else s

/-! ### Seeking (R117, R118) -/

/-- The offset phase (R118): the top offset read now; with 0 the feed prints at once. -/
def enterOffset (s : State) : State :=
  if s.settings.topOffset = 0 then printLine s
  else callStep .forward (s.enter (.seekOffset s.settings.topOffset))

/-- SEEK entered afresh (R117); in CONTINUOUS mode it is empty (R118). -/
def enterSeek (s : State) : State :=
  if s.settings.mediaMode = .continuous then printLine s
  else callStep .forward (s.enter (.seekSearch 0 s.settings.searchLimit))

/-! ### Pausing (R138 to R143) -/

/-- A position is valid when neither the cause nor the condition set is MEDIA_OUT (R143), and no MEDIA_OUT
has joined the set while the pending condition waited for its boundary (`joined`, R137; log 20). -/
def positionValid (joined : Bool) (cause : PauseCause) (s : State) : Bool :=
  !joined && !decide (cause = .mediaOut) && !s.conditions.mediaOut

/-- The pause cause of a pending condition (R137, R138). -/
def PendingCondition.pauseCause (c : PendingCondition) : PauseCause := causeOf c.cause

/-- The feed enters PAUSED; the edge history becomes unknown (R113, R144). -/
def pause (cause : PauseCause) (context : PausedContext) (s : State) : State :=
  s.onFeed fun f => { f with state := .paused cause context, edge := none, called := none }

/-- PAUSED with context PRINT at the cursor's line (R140). -/
def pausePrint (joined : Bool) (cause : PauseCause) (s : State) : State :=
  match s.cursor? with
  | some c => pause cause (.print c.page c.copy c.line (positionValid joined cause s)) s
  | none => pause cause .none s

/-- PAUSED with context SEEK for the head page and its copy (R141). -/
def pauseSeek (cause : PauseCause) (s : State) : State :=
  match s.cursor? with
  | some c => pause cause (.seek c.page c.copy) s
  | none => pause cause .none s

/-- A parked distance that an invalid position no longer measures becomes 0 (R143). -/
def keepParked (valid : Bool) (s : State) : State :=
  if valid then s else s.onFeed fun f => { f with parked := 0 }

/-- PAUSED with context BACKFEED for the parked distance, or with context SEEK once nothing is parked
(R115, R141; log 12). -/
def pauseBackfeed (joined : Bool) (cause : PauseCause) (s : State) : State :=
  if s.feed.parked = 0 then pauseSeek cause s
  else
    keepParked (positionValid joined cause s)
      (pause cause (.backfeed s.feed.parked (positionValid joined cause s)) s)

/-- PAUSED with context TRAIL (R142). -/
def pauseTrail (joined : Bool) (cause : PauseCause) (remaining : Nat) (s : State) : State :=
  keepParked (positionValid joined cause s)
    (pause cause (.trail remaining (positionValid joined cause s)) s)

/-! ### Starting a copy (R114, R115) -/

/-- The feed begins the head page and goes to BACKFEED, SEEK or PRINTING; with a condition in the set
it pauses at once (R114, R115). -/
def start (s : State) : State :=
  let begun := beginHead s
  match begun.conditions.cause? with
  | some cause => pauseBackfeed false cause begun
  | none =>
    if begun.feed.parked = 0 then enterSeek begun else callStep .reverse (begun.enter .backfeed)

/-- A start would happen but for the feed state (R114): the hold flag is clear and the queue is not
empty. -/
def mayStart (s : State) : Bool := !s.feed.hold && !s.composer.queue.isEmpty

/-- The start decision of an IDLE feed (R114). -/
def startDecision (s : State) : State :=
  if s.feed.state = .idle ∧ mayStart s = true then start s else s

/-- IDLE with the edge history unknown (R113) and nothing called for. -/
def goIdle (s : State) : State :=
  s.onFeed fun f => { f with state := .idle, edge := none, called := none }

/-- The feed enters IDLE and takes the start decision (R114). -/
def enterIdle (s : State) : State := startDecision (goIdle s)

/-- The start decision at the stopping boundary of a cancelled start, without passing through IDLE: the
edge history is kept (R131). It reads the condition set alone (R141; log 20). -/
def startOrIdle (s : State) : State := if mayStart s then start s else goIdle s

/-! ### Trailing (R124) -/

/-- TRAILING for the tear offset; with 0 the feed passes to IDLE at once. -/
def enterTrailing (s : State) : State :=
  if s.settings.tearOffset = 0 then enterIdle s
  else callStep .forward (s.enter (.trailing s.settings.tearOffset))

/-! ### The end-of-copy decision (R123) -/

/-- The boundary after the step that follows a copy's last line. A pending condition keeps its cause;
without one the condition set is read. -/
def endOfCopyDecision (pending : Option PendingCondition) (edge : Bool) (s : State) : State :=
  if mayStart s then
    let begun := beginHead s
    match (pending.map PendingCondition.pauseCause).or begun.conditions.cause? with
    | some c => pauseSeek c begun
    | none =>
      if edge && decide (begun.settings.mediaMode ≠ .continuous) then enterOffset begun
      else enterSeek begun
  else
    match (pending.map PendingCondition.pauseCause).or s.conditions.cause? with
    | some c => pauseTrail (pending.any PendingCondition.mediaOutJoined) c s.settings.tearOffset s
    | none => enterTrailing s

/-! ### Host motions (R127, R129) -/

/-- A running FEED ends: its reply is complete, and the feed enters IDLE (R127). -/
def endFeed (key : RequestKey) (status : Status) (moved : Nat) (s : State) : State :=
  enterIdle (completeReply key 0x30 status (.feed moved) s)

/-- A running CALIBRATE ends, its reply reporting the stored pitch (R129, R130). -/
def endCalibrate (key : RequestKey) (status : Status) (moved : Nat) (s : State) : State :=
  enterIdle (completeReply key 0x31 status (.calibrate s.feed.pitch (some moved)) s)

/-- The status by which pending stops end a host motion (R127, R129). -/
def PendingStops.motionEnd? (p : PendingStops) : Option Status :=
  if p.reset.isSome || p.stop then some .stopped else p.condition.map fun c => faultedWith c.cause

/-! ### The line boundary (R112) -/

/-- The reset's part at the boundary (R134): a running host motion is answered STOPPED, RESET(ALL)
clears the parked distance, and the feed enters IDLE. When the RESET itself finds the feed at a boundary,
the STOPPED reply is complete before the RESET's own, whose order the manual leaves open (log 14). -/
def stopForReset (scope : ResetScope) (s : State) : State :=
  let cleared :=
    if scope = .all then s.onFeed fun f => { f with parked := 0 } else s
  match s.feed.state with
  | .moving key _ done => endFeed key .stopped done cleared
  | .calibrating key _ _ moved _ => endCalibrate key .stopped moved cleared
  | .idle => enterIdle cleared
  | .backfeed => enterIdle cleared
  | .seekSearch _ _ => enterIdle cleared
  | .seekOffset _ => enterIdle cleared
  | .printing => enterIdle cleared
  | .stalled => enterIdle cleared
  | .trailing _ => enterIdle cleared
  | .paused _ _ => enterIdle cleared

/-- The boundary of BACKFEED (R116, R131, R141). -/
def boundaryBackfeed (p : PendingStops) (s : State) : State :=
  if p.cancel then startOrIdle s
  else
    match p.condition with
    | some c => pauseBackfeed c.mediaOutJoined c.pauseCause s
    | none => if s.feed.parked = 0 then enterSeek s else callStep .reverse s

/-- The boundary of the search phase of SEEK (R117, R131, R137, R141). -/
def boundarySearch (p : PendingStops) (edge : Bool) (count limit : Nat) (s : State) : State :=
  if p.cancel then startOrIdle s
  else
    match p.condition with
    | some c => pauseSeek c.pauseCause s
    | none =>
      if edge then enterOffset s
      else if limit ≤ count then pauseSeek .mediaLost s
      else callStep .forward s

/-- The boundary of the offset phase of SEEK (R118, R131, R141). -/
def boundaryOffset (p : PendingStops) (remaining : Nat) (s : State) : State :=
  if p.cancel then startOrIdle s
  else
    match p.condition with
    | some c => pauseSeek c.pauseCause s
    | none => if remaining = 0 then printLine s else callStep .forward s

/-- The boundary of PRINTING (R119, R123, R131, R140, R142). `ended` says that the line stepped over
was the copy's last. -/
def boundaryPrinting (p : PendingStops) (edge ended : Bool) (s : State) : State :=
  if p.cancel then
    match p.condition with
    | some c => pauseTrail c.mediaOutJoined c.pauseCause s.settings.tearOffset s
    | none => enterTrailing s
  else if ended then endOfCopyDecision p.condition edge s
  else
    match p.condition with
    | some c => pausePrint c.mediaOutJoined c.pauseCause s
    | none => printLine s

/-- The boundary of TRAILING (R124, R142). -/
def boundaryTrailing (p : PendingStops) (remaining : Nat) (s : State) : State :=
  match p.condition with
  | some c => pauseTrail c.mediaOutJoined c.pauseCause remaining s
  | none => if remaining = 0 then enterIdle s else callStep .forward s

/-- The boundary of MOVING (R127). -/
def boundaryMoving (p : PendingStops) (key : RequestKey) (lines done : Nat) (s : State) : State :=
  match p.motionEnd? with
  | some status => endFeed key status done s
  | none => if done = lines then endFeed key .ok done s else callStep .forward s

/-- The boundary of CALIBRATING (R129). An edge found by the step that brings the search to its limit
counts (log 13). -/
def boundaryCalibrating (p : PendingStops) (edge : Bool) (key : RequestKey)
    (limit count moved : Nat) (firstFound : Bool) (s : State) : State :=
  match p.motionEnd? with
  | some status => endCalibrate key status moved s
  | none =>
    if edge && firstFound then
      endCalibrate key .ok moved (s.onFeed fun f => { f with pitch := count })
    else if edge then callStep .forward (s.enter (.calibrating key limit 0 moved true))
    else if limit ≤ count then endCalibrate key .faultedMediaLost moved s
    else callStep .forward s

/-- What the feed does at a line boundary by its state and its pending stops, which are spent there. A
pending reset overrides every other cause (R134). -/
def atBoundary (edge ended : Bool) (s : State) : State :=
  let p := s.feed.pending
  let t := s.onFeed fun f => { f with pending := PendingStops.none, called := none }
  match p.reset with
  | some scope => stopForReset scope t
  | none =>
    match s.feed.state with
    | .idle => t
    | .backfeed => boundaryBackfeed p t
    | .seekSearch count limit => boundarySearch p edge count limit t
    | .seekOffset remaining => boundaryOffset p remaining t
    | .printing => boundaryPrinting p edge ended t
    | .stalled => t
    | .trailing remaining => boundaryTrailing p remaining t
    | .moving key lines done => boundaryMoving p key lines done t
    | .calibrating key limit count moved firstFound =>
      boundaryCalibrating p edge key limit count moved firstFound t
    | .paused _ _ => t

/-- The feed stands at a line boundary: no step and no burn is in flight, and no line is burned whose
step is still to come (R112). -/
def Feed.standing (f : Feed) : Bool := decide (f.inFlight = .none) && f.openLine.isNone

/-- A stop taken while the feed stands is acted on at once (R112). -/
def actIfStanding (s : State) : State :=
  if s.feed.standing && s.feed.pending.any then atBoundary false false s else s

/-! ### STEP_COMPLETION (R112) -/

/-- The feed samples the edge sense at this step (R113): in the search of SEEK, in PRINTING and in
CALIBRATING, and never in CONTINUOUS mode. -/
def samplesEdge (s : State) : Bool :=
  decide (s.settings.mediaMode ≠ .continuous) &&
    match s.feed.state with
    | .seekSearch _ _ => true
    | .printing => true
    | .calibrating _ _ _ _ _ => true
    | .idle | .backfeed | .seekOffset _ | .stalled | .trailing _ | .moving _ _ _ | .paused _ _ => false

/-- The edge history after a step (R113): the sample, unknown after a reverse step, else as it was. -/
def historyAfter (dir : Direction) (sampled : Bool) (sample : EdgeLevel) (history : Option EdgeLevel) :
    Option EdgeLevel :=
  if dir = .reverse then none else if sampled then some sample else history

/-- The feed state once a step has been counted (R116, R117, R118, R124, R127, R129). -/
def FeedState.stepped : FeedState → FeedState
  | .seekSearch count limit => .seekSearch (count + 1) limit
  | .seekOffset remaining => .seekOffset (remaining - 1)
  | .trailing remaining => .trailing (remaining - 1)
  | .moving key lines done => .moving key lines (done + 1)
  | .calibrating key limit count moved firstFound =>
    .calibrating key limit (count + 1) (moved + 1) firstFound
  | .idle => .idle
  | .backfeed => .backfeed
  | .printing => .printing
  | .stalled => .stalled
  | .paused cause context => .paused cause context

/-- The parked distance after a step (R116, R124). -/
def parkedAfter : FeedState → Nat → Nat
  | .backfeed, n => n - 1
  | .trailing _, n => n + 1
  | .idle, n | .seekSearch _ _, n | .seekOffset _, n | .printing, n | .stalled, n | .moving _ _ _, n
  | .calibrating _ _ _ _ _, n | .paused _ _, n => n

/-- The counts that a step completion changes before the feed decides. -/
def countStep (dir : Direction) (sample : EdgeLevel) (s : State) : State :=
  s.onFeed fun f =>
    { f with state := f.state.stepped, inFlight := .none, openLine := none,
             parked := parkedAfter f.state f.parked,
             edge := historyAfter dir (samplesEdge s) sample f.edge }

/-- A top edge met inside a copy is reported for the page of the line stepped over (R121). -/
def reportCrossing (edge : Bool) (line : Option OpenLine) (s : State) : State :=
  match line with
  | some l => if edge && !l.copyEnded then reportEdge l.page s else s
  | none => s

/-- STEP_COMPLETION (R112): the step is counted, the edge is sampled, and the feed acts at the boundary
it has reached. -/
def completeStep (sample : EdgeLevel) (s : State) : State :=
  match s.feed.inFlight with
  | .none => s
  | .burn => s
  | .step dir =>
    let edge := samplesEdge s && topEdge s.feed.edge sample
    let line := if s.feed.state = .printing then s.feed.openLine else none
    let ended := line.any OpenLine.copyEnded
    reportFeed s (atBoundary edge ended (reportCrossing edge line (countStep dir sample s)))

/-! ### BURN_COMPLETION (R119, R122) -/

/-- The line is the last of its band or of its page (R103). -/
def lastOfBand (line length : Nat) : Bool :=
  decide (line % Config.bandHeight = Config.bandHeight - 1) || decide (line + 1 = length)

/-- The burn of a line of the ACTIVE page (R119, R122): the buffer is freed at the end of its band, the
cursor moves on, and the last line ends the copy. -/
def burnActive (p : Page) (l : OpenLine) (s : State) : State :=
  let freed := if lastOfBand l.line p.length then freeDraining s else s
  if l.line + 1 = p.length then
    (endCopy p.id freed).onFeed fun f =>
      { f with line := 0, openLine := some { l with copyEnded := true } }
  else freed.onFeed fun f => { f with line := l.line + 1 }

/-- BURN_COMPLETION (R119): the line's step is called for. A burned line whose page is no longer ACTIVE
moves no cursor and ends no copy (R119). -/
def completeBurn (s : State) : State :=
  match s.feed.inFlight with
  | .none => s
  | .step _ => s
  | .burn =>
    let landed := s.onFeed fun f => { f with inFlight := .none }
    let counted :=
      match s.feed.openLine with
      | none => landed
      | some l =>
        match s.page? l.page with
        | none => landed
        | some p => if p.state = .active then assignBand (burnActive p l landed) else landed
    callStep .forward counted

/-! ### Conditions (R136, R137) -/

/-- A condition is recorded as a pending stop; the first cause stays, with a MEDIA_OUT that joins after it
kept in mind (R137), and in MOVING and CALIBRATING the first stop of any cause does (R128). -/
def PendingStops.addCondition (p : PendingStops) (hostMotion : Bool) (c : Condition) : PendingStops :=
  match p.condition with
  | some first =>
    { p with
      condition :=
        some { first with mediaOutJoined := first.mediaOutJoined || decide (c = .mediaOut) } }
  | .none =>
    if hostMotion && p.stop then p
    else { p with condition := some { cause := c, mediaOutJoined := false } }

/-- The condition is recorded with the feed in a moving state. -/
def recordCondition (hostMotion : Bool) (c : Condition) (s : State) : State :=
  actIfStanding (s.onFeed fun f => { f with pending := f.pending.addCondition hostMotion c })

/-- A context whose position MEDIA_OUT makes invalid (R143). -/
def PausedContext.invalidated : PausedContext → PausedContext
  | .print page copy line _ => .print page copy line false
  | .backfeed remaining _ => .backfeed remaining false
  | .trail remaining _ => .trail remaining false
  | .seek page copy => .seek page copy
  | .none => .none

/-- The context measures a park (R143). -/
def PausedContext.measuresPark : PausedContext → Bool
  | .backfeed _ _ => true
  | .trail _ _ => true
  | .print _ _ _ _ => false
  | .seek _ _ => false
  | .none => false

/-- MEDIA_OUT joins while PAUSED (R143). -/
def invalidatePosition (cause : PauseCause) (context : PausedContext) (s : State) : State :=
  s.onFeed fun f =>
    { f with state := .paused cause context.invalidated,
             parked := if context.measuresPark then 0 else f.parked }

/-- What a condition that has joined the set does, by the feed state (R136). -/
def conditionActs (c : Condition) (s : State) : State :=
  match s.feed.state with
  | .idle => s
  | .backfeed => recordCondition false c s
  | .seekSearch _ _ => recordCondition false c s
  | .seekOffset _ => recordCondition false c s
  | .printing => recordCondition false c s
  | .trailing _ => recordCondition false c s
  | .stalled => pausePrint false (causeOf c) (withdrawRequest s)
  | .moving _ _ _ => recordCondition true c s
  | .calibrating _ _ _ _ _ => recordCondition true c s
  | .paused cause context => if c = .mediaOut then invalidatePosition cause context s else s

/-! ### Cancel of the head page (R131, R150) -/

/-- The context after a cancel of the head page (R150). -/
def PausedContext.afterCancel (id : Nat) : PausedContext → PausedContext
  | .print page copy line valid => if page = id then .none else .print page copy line valid
  | .seek page copy => if page = id then .none else .seek page copy
  | .backfeed _ _ => .none
  | .trail remaining valid => .trail remaining valid
  | .none => .none

/-- A cancel is recorded as a pending stop, and acted on at once by a feed that stands (R112, R131). -/
def recordCancel (s : State) : State :=
  actIfStanding (s.onFeed fun f => { f with pending := { f.pending with cancel := true } })

/-- The feed's reaction to an accepted PAGE_CANCEL of the ACTIVE page (R131, R150). -/
def cancelActs (id : Nat) (s : State) : State :=
  match s.feed.state with
  | .backfeed => recordCancel s
  | .seekSearch _ _ => recordCancel s
  | .seekOffset _ => recordCancel s
  | .printing => recordCancel s
  | .stalled => enterTrailing s
  | .idle => s
  | .trailing _ => s
  | .moving _ _ _ => s
  | .calibrating _ _ _ _ _ => s
  | .paused cause context => s.enter (.paused cause (context.afterCancel id))

/-! ### Resets (R134, R151) -/

/-- The scope of a pending reset once another is taken (R214): ALL once taken stays. -/
def PendingStops.addReset (p : PendingStops) (scope : ResetScope) : PendingStops :=
  { p with reset := if p.reset = some .all then some .all else some scope }

/-- RESET stops the feed (R134): at once in IDLE, STALLED and PAUSED, and in a moving state at the line
boundary. The hold flag is cleared, and the cursor goes; the measured pitch of RESET(ALL) becomes 0 in a later
step of the same event (R212), so a CALIBRATE that ends here reports the stored one (R129). A
host motion with no step in flight ends here, in the RESET's own event, so that its STOPPED reply is
complete before that of the RESET (log 14). -/
def resetFeed (scope : ResetScope) (s : State) : State :=
  let cleared := s.onFeed fun f =>
    { f with hold := false, line := 0, edge := none }
  match s.feed.state with
  | .idle => stopForReset scope cleared
  | .stalled => stopForReset scope cleared
  | .paused _ _ => stopForReset scope cleared
  | .backfeed | .seekSearch _ _ | .seekOffset _ | .printing | .trailing _ | .moving _ _ _
  | .calibrating _ _ _ _ _ =>
    actIfStanding (cleared.onFeed fun f => { f with pending := f.pending.addReset scope })

end Sys2Proof.Machine
end

