-- ==== Sys2Proof/Machine/PageRequests.lean ====
section
/-! DEFINITION. The page composer's requests (chapters 1 to 3): PAGE_OPEN, OBJECT_ADD, PAGE_CLOSE,
PAGE_CANCEL and PAGE_QUERY. -/

namespace Sys2Proof.Machine

/-! ### PAGE_OPEN (R1, R2, R6) -/

/-- The candidate after an id: 65535 is followed by 1 (R2). -/
def nextId (id : Nat) : Nat := if 65535 ≤ id then 1 else id + 1

/-- The first candidate that is not the id of an entry (R2). -/
def searchId : Nat → Nat → List Nat → Nat
  | 0, candidate, _ => candidate
  | fuel + 1, candidate, held =>
    if held.contains candidate then searchId fuel (nextId candidate) held else candidate

/-- The id of the next created page (R2): one of at most 9 candidates. -/
def Composer.newId (c : Composer) : Nat := searchId 8 (nextId c.lastId) (c.pages.map Page.id)

/-- Bands of a page (R1). -/
def bandCountOf (length : Nat) : Nat := (length + Config.bandHeight - 1) / Config.bandHeight

/-- The entry of a new page (R1). -/
def newPage (id width length copies : Nat) : Page :=
  { id := id, state := .opened, width := width, length := length, bandCount := bandCountOf length,
    copiesOrdered := copies, copiesDone := 0, reprints := 0, stalls := 0, edges := 0, culled := 0,
    substitutions := 0, skipped := 0, storedCount := 0, objects := [],
    bandLists := List.replicate (bandCountOf length) [], ended := none }

/-- PAGE_OPEN: the checks of R6 in order, then R1 and R2. -/
def openPage (rq : Request) (s : State) : State × Status × Results :=
  let p := rq.payload
  let length := u16At p 0
  let copies := u16At p 2
  if p.length ≠ 4 then (s, .badLength, .pageOpen 0 0 0)
  else if !inRange 16 16384 length || !inRange 1 9999 copies then (s, .badValue, .pageOpen 0 0 0)
  else if s.composer.pages.any (fun q => decide (q.state = .opened)) then
    (s, .wrongState, .pageOpen 0 0 0)
  else if Config.pageEntries ≤ s.composer.pages.length then (s, .noRoomPageEntries, .pageOpen 0 0 0)
  else
    let id := s.composer.newId
    (s.withComposer
        { s.composer with
          pages := s.composer.pages ++ [newPage id s.settings.printWidth length copies], lastId := id },
      .ok, .pageOpen id s.settings.printWidth (bandCountOf length))

/-! ### OBJECT_ADD (R25, R26) -/

/-- The reply of a refusal at a check (R26, R60). -/
def refusedObject (check : Nat) : Results :=
  .objectAdd
    { failedCheck := check, number := 0, clippedFlag := false, culledFlag := false, firstBand := 0,
      bandsTouched := 0, substitutions := 0, skipped := 0 }

/-- The kind of asset an object needs (R40). -/
def Shape.needs : Shape → AssetKind
  | .place _ _ _ _ _ => .bitmap
  | .text _ _ _ _ _ _ => .font
  | .counter _ _ _ _ _ _ _ _ => .font
  | .rule _ _ _ _ => .pattern
  | .stroke _ _ _ _ _ _ => .pattern
  | .fill _ => .pattern
  | .bars _ _ _ _ _ _ => .pattern

/-- Check 4 (R40): the named asset is present, READY and of the required kind. -/
def checkAsset (o : CheckedObject) (s : State) : Except Status (Option Asset) :=
  match o.shape.assetId? o.source with
  | none => .ok none
  | some id =>
    match s.asset? id with
    | none => .error .notFound
    | some a =>
      match a.state with
      | .loading => .error .assetNotReady
      | .doomed => .error .assetGone
      | .ready => if a.kind = o.shape.needs then .ok (some a) else .error .badValue

/-- Check 6 (R59): the first pool that falls short. -/
def poolShortfall (c : Composer) (elements links : Nat) : Option Status :=
  if c.freeObjects < 1 then some .noRoomObjects
  else if c.freeElements < elements then some .noRoomElements
  else if c.freeLinks < links then some .noRoomBandLinks
  else none

/-- One link at the tail of each list of a run of bands (R62). -/
def appendLinks (lists : List (List Nat)) (first count number : Nat) : List (List Nat) :=
  lists.mapIdx fun b l => if first ≤ b ∧ b < first + count then l ++ [number] else l

/-- The page entry once an object has been stored on it (R61, R62). -/
def Page.store (p : Page) (o : StoredObject) (warnings : Nat × Nat) : Page :=
  { p with storedCount := p.storedCount + 1, objects := p.objects ++ [o],
           bandLists := appendLinks p.bandLists o.firstBand o.bandsTouched o.number,
           substitutions := saturate p.substitutions warnings.1,
           skipped := saturate p.skipped warnings.2 }

/-- The asset store once the object's asset, if any, has been lent to it (R63). -/
def AssetStore.lendTo (st : AssetStore) (o : StoredObject) : AssetStore :=
  match o.assetId? with
  | some id => st.lend id
  | none => st

/-- The object record that the store fills (R55, R61). -/
def recordOf (o : CheckedObject) (page : Page) (box : Box) : StoredObject :=
  { number := page.storedCount + 1, mix := o.mix, source := o.source, shape := o.shape, box := box,
    firstBand := box.firstBand, bandsTouched := box.bandsTouched }

/-- Check 7 (R62): the effects of a store, together. -/
def storeObject (o : StoredObject) (page : Page) (warnings : Nat × Nat) (s : State) : State :=
  (s.withComposer
    { s.composer with
      pages := Machine.changePage page.id (fun p => p.store o warnings) s.composer.pages,
      freeObjects := s.composer.freeObjects - 1,
      freeElements := s.composer.freeElements - o.shape.elements,
      freeLinks := s.composer.freeLinks - o.bandsTouched }).withAssets (s.assets.lendTo o)

/-- A culled object is counted and nothing is stored (R51). -/
def cullObject (page : Page) (s : State) : State :=
  s.changePage page.id fun p => { p with culled := saturate p.culled 1 }

/-- Checks 5 to 7 of an object whose page is OPEN and whose asset is READY (R42, R51, R59, R62). -/
def placeObject (o : CheckedObject) (page : Page) (asset : Option Asset) (s : State) :
    State × Status × Results :=
  let whole := o.shape.box asset
  let box := whole.clip page.width page.length
  let warnings := o.shape.warnings asset
  let clipped := clippedFlag whole page.width page.length
  if box.isEmpty then
    (cullObject page s, .ok,
      .objectAdd
        { failedCheck := 0, number := 0, clippedFlag := clipped, culledFlag := true, firstBand := 0,
          bandsTouched := 0, substitutions := warnings.1, skipped := warnings.2 })
  else
    match poolShortfall s.composer o.shape.elements box.bandsTouched with
    | some status => (s, status, refusedObject 6)
    | none =>
      let record := recordOf o page box
      (storeObject record page warnings s, .ok,
        .objectAdd
          { failedCheck := 0, number := record.number, clippedFlag := clipped, culledFlag := false,
            firstBand := record.firstBand, bandsTouched := record.bandsTouched,
            substitutions := warnings.1, skipped := warnings.2 })

/-- OBJECT_ADD: the seven checks of R25 in order. -/
def addObject (rq : Request) (s : State) : State × Status × Results :=
  match parseObject rq.payload with
  | .error status => (s, status, refusedObject 1)
  | .ok raw =>
    match raw.check with
    | none => (s, .badValue, refusedObject 2)
    | some o =>
      match s.page? o.page with
      | none => (s, .notFound, refusedObject 3)
      | some page =>
        if page.state ≠ .opened then (s, .wrongState, refusedObject 3)
        else
          match checkAsset o s with
          | .error status => (s, status, refusedObject 4)
          | .ok asset => placeObject o page asset s

/-! ### PAGE_CLOSE (R8, R9) -/

/-- The page joins the print queue at its tail (R5, R8). -/
def enqueuePage (id : Nat) (s : State) : State :=
  s.withComposer
    { s.composer with
      pages := Machine.changePage id (fun p => { p with state := .queued }) s.composer.pages,
      queue := s.composer.queue ++ [id] }

/-- PAGE_CLOSE (R8): the start decision is taken (R114) and the ring tests for an assignment (R100). -/
def closePage (rq : Request) (s : State) : State × Status × Results :=
  let p := rq.payload
  if p.length ≠ 2 then (s, .badLength, .pageClose 0 none none false)
  else
    match s.page? (u16At p 0) with
    | none => (s, .notFound, .pageClose 0 none none false)
    | some page =>
      if page.state ≠ .opened then (s, .wrongState, .pageClose 0 none none false)
      else
        (reportFeed s (assignBand (startDecision (enqueuePage page.id s))), .ok,
          .pageClose (s.composer.queue.length + 1) (some page.bandCount) (some page.storedCount)
            (longerThanPitch s.feed.pitch page.length s.settings.topOffset))

/-! ### PAGE_CANCEL (R14, R15) -/

/-- The cursor moves to the new head page at line 0 when the cancelled page was the head (R131). -/
def dropCursor (wasHead : Bool) (s : State) : State :=
  if wasHead then s.onFeed fun f => { f with line := 0 } else s

/-- PAGE_CANCEL (R14, R15): the page ends, its buffers are voided with it (R106), the feed reacts when
the page was ACTIVE (R131, R150), and the ring assigns what it freed. -/
def cancelPage (rq : Request) (s : State) : State × Status × Results :=
  let p := rq.payload
  if p.length ≠ 2 then (s, .badLength, .pageCancel none none)
  else
    match s.page? (u16At p 0) with
    | none => (s, .notFound, .pageCancel none (some 0))
    | some page =>
      if page.state = .ended then (s, .wrongState, .pageCancel (some .ended) (some page.copiesDone))
      else
        let gone := dropCursor (decide (s.composer.queue.head? = some page.id))
          (endPage page .cancelled s)
        let reacted := if page.state = .active then cancelActs page.id gone else gone
        (reportFeed s (assignBand reacted), .ok,
          .pageCancel (some page.state) (some page.copiesDone))

/-! ### PAGE_QUERY (R19, R20) -/

/-- The position of a page in the print queue, counted from 1. -/
def queuePosition? : List Nat → Nat → Option Nat
  | [], _ => none
  | a :: rest, id => if a = id then some 1 else (queuePosition? rest id).map (· + 1)

/-- The summary of a page (R20): the cursor's copy and line are given for the page at position 1. -/
def Page.summary (p : Page) (s : State) : PageSummary :=
  let position := if p.state = .queued ∨ p.state = .active then queuePosition? s.composer.queue p.id else none
  { id := p.id, state := p.state, width := p.width, length := p.length, bandCount := p.bandCount,
    copiesOrdered := p.copiesOrdered, copiesDone := p.copiesDone, reprints := p.reprints,
    stalls := p.stalls, edges := p.edges, culled := p.culled, substitutions := p.substitutions,
    skipped := p.skipped, storedCount := p.storedCount, position := position,
    cursor := if position = some 1 then some (p.copiesDone, s.feed.line) else none,
    ended := p.ended.map fun e => (e.outcome, e.noticeNumber) }

/-- PAGE_QUERY (R19). -/
def queryPage (rq : Request) (s : State) : State × Status × Results :=
  if rq.payload.length ≠ 2 then (s, .badLength, .unstated)
  else
    match s.page? (u16At rq.payload 0) with
    | none => (s, .notFound, .unstated)
    | some p => (s, .ok, .pageQuery (p.summary s))

end Sys2Proof.Machine
end

