-- ==== Sys2Proof/Machine/FeedRequests.lean ====
section
/-! DEFINITION. The feed controller's requests (chapters 6 and 7): FEED, CALIBRATE, STOP, HOLD, RELEASE
and RESUME. FEED and CALIBRATE answer none when they are accepted: their reply comes at the end of the
motion (R184). -/

namespace Sys2Proof.Machine

/-- FEED (R127). -/
def feedLines (rq : Request) (s : State) : State × Option (Status × Results) :=
  let p := rq.payload
  let n := u16At p 0
  if p.length ≠ 2 then (s, some (.badLength, .feed 0))
  else if !inRange 1 32767 n then (s, some (.badValue, .feed 0))
  else if s.feed.state ≠ .idle then (s, some (.wrongState, .feed 0))
  else if !s.conditions.isEmpty then (s, some (.conditionActive, .feed 0))
  else
    (callStep .forward
      (s.onFeed fun f => { f with state := .moving rq.key n 0, parked := 0, edge := none }), none)

/-- CALIBRATE (R129); the search limit is read at acceptance. A refusal reports the stored pitch, as every
reply of CALIBRATE does (R130). -/
def calibratePitch (rq : Request) (s : State) : State × Option (Status × Results) :=
  if rq.payload.length ≠ 0 then (s, some (.badLength, .calibrate s.feed.pitch none))
  else if s.feed.state ≠ .idle ∨ s.settings.mediaMode = .continuous then
    (s, some (.wrongState, .calibrate s.feed.pitch none))
  else if !s.conditions.isEmpty then (s, some (.conditionActive, .calibrate s.feed.pitch none))
  else
    (callStep .forward
      (s.onFeed fun f =>
        { f with state := .calibrating rq.key s.settings.searchLimit 0 0 false, parked := 0,
                 edge := none }), none)

/-- The host motion that runs (R128). -/
def FeedState.hostMotion? : FeedState → Option HostMotion
  | .moving _ _ _ => some .feed
  | .calibrating _ _ _ _ _ => some .calibrate
  | .idle | .backfeed | .seekSearch _ _ | .seekOffset _ | .printing | .stalled | .trailing _
  | .paused _ _ => none

/-- STOP (R128): a pending stop on the running motion. What the feed then does at the boundary is
`stopAct`, once STOP has been answered. -/
def stopMotion (rq : Request) (s : State) : State × Status × Results :=
  if rq.payload.length ≠ 0 then (s, .badLength, .unstated)
  else
    match s.feed.state.hostMotion? with
    | none => (s, .wrongState, .unstated)
    | some motion =>
      if s.feed.pending.any then (s, .wrongState, .unstated)
      else
        (s.onFeed fun f => { f with pending := { f.pending with stop := true } }, .ok, .stop motion)

/-- A pending stop acts at once when the feed stands at a boundary (R112). -/
def stopAct (s : State) : State := reportFeed s (actIfStanding s)

/-- HOLD (R125). -/
def holdQueue (rq : Request) (s : State) : State × Status × Results :=
  if rq.payload.length ≠ 0 then (s, .badLength, .unstated)
  else
    (s.onFeed fun f => { f with hold := true }, .ok, .hold s.feed.hold s.feed.state.name)

/-- RELEASE (R126): the flag is cleared, and an IDLE feed takes the start decision. With the flag
already clear nothing changes. -/
def releaseQueue (rq : Request) (s : State) : State × Status × Results :=
  if rq.payload.length ≠ 0 then (s, .badLength, .unstated)
  else if s.feed.hold then
    let cleared := s.onFeed fun f => { f with hold := false }
    (reportFeed s (startDecision cleared), .ok,
      .release true (decide (s.feed.state = .idle) && mayStart cleared))
  else (s, .ok, .release false false)

/-! ### RESUME (R145 to R149) -/

/-- CONTINUE by the context (R146, R147, R148). -/
def continueFrom (context : PausedContext) (s : State) : State :=
  match context with
  | .print _ _ _ _ => printLine s
  | .seek _ _ => enterSeek s
  | .none => enterIdle s
  | .trail remaining valid =>
    if valid then
      if remaining = 0 then enterIdle s else callStep .forward (s.enter (.trailing remaining))
    else enterIdle (s.onFeed fun f => { f with parked := 0 })
  | .backfeed _ valid =>
    if valid then
      if s.feed.parked = 0 then enterSeek s else callStep .reverse (s.enter .backfeed)
    else enterSeek (s.onFeed fun f => { f with parked := 0 })

/-- REPRINT (R149, R108): every buffer is voided, the cursor goes back to line 0, the reprint is
counted, and the feed seeks the copy again. -/
def reprintFrom (page : Nat) (s : State) : State :=
  assignBand
    (enterSeek (reportReprint page ((voidAll s).onFeed fun f => { f with line := 0, edge := none })))

/-- The reply of RESUME (R145). -/
def resumeReply (action : Option Byte) (before after : State) : Results :=
  .resume action (before.feed.state.paused?.map fun x => x.2.kind) after.feed.state.name

/-- RESUME's action CONTINUE, once the feed is PAUSED and the condition set is empty (R145). -/
def resumeWithContinue (context : PausedContext) (s : State) : State × Status :=
  match context with
  | .print _ _ _ false => (s, .positionLost)
  | .print _ _ _ true | .seek _ _ | .backfeed _ _ | .trail _ _ | .none =>
    (reportFeed s (continueFrom context s), .ok)

/-- RESUME's action REPRINT, once the feed is PAUSED and the condition set is empty (R145, R149). -/
def resumeWithReprint (context : PausedContext) (s : State) : State × Status :=
  match context with
  | .print page _ _ _ => (reportFeed s (reprintFrom page s), .ok)
  | .seek _ _ | .backfeed _ _ | .trail _ _ | .none => (s, .wrongState)

/-- RESUME (R145): the checks in order, then the action. -/
def resumeFeed (rq : Request) (s : State) : State × Status × Results :=
  match rq.payload with
  | [action] =>
    if 1 < action.toNat then (s, .badValue, resumeReply (some action) s s)
    else
      match s.feed.state.paused? with
      | none => (s, .wrongState, resumeReply (some action) s s)
      | some (_, context) =>
        if !s.conditions.isEmpty then (s, .conditionActive, resumeReply (some action) s s)
        else
          let (t, status) :=
            if action = 0 then resumeWithContinue context s else resumeWithReprint context s
          (t, status, resumeReply (some action) s t)
  | _ => (s, .badLength, resumeReply none s s)

end Sys2Proof.Machine
end

