-- ==== Sys2Proof/Machine/LinkRequests.lean ====
section
/-! DEFINITION. The host link's own requests (chapter 11): HELLO, STATUS, CONFIG and RESET. -/

namespace Sys2Proof.Machine

/-! ### HELLO (R205) -/

/-- HELLO: with the resend flag every notice is marked unsent (R202). -/
def helloRequest (rq : Request) (s : State) : State × Status × Results :=
  match rq.payload with
  | [flags] =>
    if 1 < flags.toNat then (s, .badValue, .unstated)
    else
      (if flags = 1 then s.withNotices s.notices.resendAll else s, .ok,
        .hello flags (Config.identity s.link.rate))
  | _ => (s, .badLength, .unstated)

/-! ### STATUS (R206) -/

/-- The snapshot of the part, read in one event (R206). -/
def State.snapshot (s : State) : StatusSnapshot :=
  { feed := s.feedReport, parked := s.feed.parked, pitch := s.feed.pitch,
    motionRunning := s.feed.state.hostMotion?.isSome, stopPending := s.feed.pending.any,
    pageEntries := s.composer.pages.length,
    openPage := ((s.composer.pages.find? (fun p => p.state = .opened)).map Page.id).getD 0,
    queue := s.composer.queue, cursor := s.cursor?, freeObjects := s.composer.freeObjects,
    freeElements := s.composer.freeElements, freeLinks := s.composer.freeLinks,
    assetEntries := s.assets.table.length, freeBlocks := s.assets.freeBlocks,
    notices := s.notices.entries.length, crcErrors := s.link.crcErrors,
    headerErrors := s.link.headerErrors, timeouts := s.link.timeouts,
    slotsHeld := s.link.slots.length, settings := s.settings }

/-- STATUS (R206). -/
def statusRequest (rq : Request) (s : State) : State × Status × Results :=
  if rq.payload.length ≠ 0 then (s, .badLength, .unstated) else (s, .ok, .status s.snapshot)

/-! ### CONFIG (R208, R209) -/

/-- The code of a field (R207). -/
def Field.code : Field → Nat
  | .printWidth => 1
  | .mediaMode => 2
  | .topOffset => 3
  | .tearOffset => 4
  | .searchLimit => 5
  | .lineRate => 6
  | .resendInterval => 7

/-- The first named field that is not the resend interval (R208, check 3). -/
def firstFeedField? (fields : List (Field × Nat)) : Option Field :=
  (fields.find? (fun e => decide (e.1 ≠ .resendInterval))).map Prod.fst

/-- The print width is named with a value other than the present one (R208, check 4). -/
def changesWidth (fields : List (Field × Nat)) (c : Settings) : Bool :=
  fields.any fun e => decide (e.1 = .printWidth) && decide (e.2 ≠ c.printWidth)

/-- All the named fields set together (R209). -/
def assignAll (fields : List (Field × Nat)) (c : Settings) : Settings :=
  fields.foldl (fun c e => e.1.assign e.2 c) c

/-- The reply of a refused CONFIG: the failing code and the fields unchanged (R208, R209). -/
def refusedConfig (code : Nat) (s : State) : Results := .config (some code) s.settings none

/-- CONFIG with fields that passed check 2 (R208, checks 3 and 4; R209). A changed media mode sets the
measured pitch to 0 (R130). -/
def configure (fields : List (Field × Nat)) (s : State) : State × Status × Results :=
  match firstFeedField? fields, decide (s.feed.state = .idle) with
  | some f, false => (s, .wrongState, refusedConfig f.code s)
  | _, _ =>
    if changesWidth fields s.settings && !s.composer.pages.isEmpty then
      (s, .wrongState, refusedConfig 1 s)
    else
      let c := assignAll fields s.settings
      let pitch := if c.mediaMode = s.settings.mediaMode then s.feed.pitch else 0
      ((s.withSettings c).onFeed fun f => { f with pitch := pitch }, .ok, .config none c (some pitch))

/-- CONFIG (R208). -/
def configRequest (rq : Request) (s : State) : State × Status × Results :=
  let p := rq.payload
  if p.length = 0 || decide (p.length % 3 ≠ 0) || 21 < p.length then
    (s, .badLength, refusedConfig 0 s)
  else
    match checkEntries [] (configEntries p) with
    | .error code => (s, .badValue, refusedConfig code s)
    | .ok fields => configure fields s

/-! ### RESET (R210 to R214) -/

/-- The page composer and the pools after a page discard (R23, R67): the last id is kept. -/
def Composer.discardPages (c : Composer) : Composer :=
  { pages := [], queue := [], lastId := c.lastId, freeObjects := Config.objectRecords,
    freeElements := Config.elements, freeLinks := Config.bandLinks }

/-- What RESET(PAGES) does, and RESET(ALL) first, block by block (R211). The feed's part follows the
others, and a feed that leaves PAUSED reports it (R151, R203). The PAGE_ENDED entries are gone before a
FEED_STATE entry is created, so that their numbers are free for it: the model's choice (log 18). -/
def discardPages (scope : ResetScope) (s : State) : State :=
  let emptied := voidAll
    (((s.withComposer s.composer.discardPages).withAssets s.assets.releaseAll).withNotices
      s.notices.dropPageEnded)
  reportFeed s (resetFeed scope emptied)

/-- The rest of RESET(ALL), in the order of R212: assets, configuration with the measured pitch and the last
id, counters, notices, reply cache. `removed` are the numbers of the notices that the reset found (R195). -/
def restoreDefaults (removed : List Byte) (s : State) : State :=
  (((((s.withAssets AssetStore.blank).withSettings Config.defaults).onFeed fun f =>
      { f with pitch := 0 }).withComposer { s.composer with lastId := 0 }).withLink
      { s.link with crcErrors := 0, headerErrors := 0, timeouts := 0, cache := [] }).withNotices
    (s.notices.restart removed (.ready .request (Config.identity s.link.rate)))

/-- RESET by its scope: the effect, and the pages discarded (R210). -/
def applyReset (scope : ResetScope) (s : State) : State :=
  match scope with
  | .pages => discardPages .pages s
  | .all => restoreDefaults (s.notices.entries.map Notice.number) (discardPages .all s)

/-- RESET (R210). Its reply is complete after its effect, and so after the STOPPED reply of a host motion
that the effect ends: the model's choice (log 14). -/
def resetRequest (rq : Request) (s : State) : State × Status × Results :=
  match rq.payload with
  | [scope] =>
    if scope = 0 then (applyReset .pages s, .ok, .reset .pages s.composer.pages.length)
    else if scope = 1 then (applyReset .all s, .ok, .reset .all s.composer.pages.length)
    else (s, .badValue, .unstated)
  | _ => (s, .badLength, .unstated)

end Sys2Proof.Machine
end

