-- ==== Sys2Proof/Machine/HostLink.lean ====
section
/-! DEFINITION. Taking requests (section 9.4): a good frame is decided against the reply cache, the
slots and the free slots, and a taken request is handed to its owner. -/

namespace Sys2Proof.Machine

/-! ### Owners -/

/-- What an owner does with a request in the event in which it is taken (R184): the state it leaves,
and its reply, which an accepted FEED or CALIBRATE gives only later. -/
abbrev Owner := Request → State → State × Option (Status × Results)

/-- An owner that always answers at once (R184). -/
def answering (f : Request → State → State × Status × Results) : Owner := fun rq s =>
  let (t, status, results) := f rq s
  (t, some (status, results))

/-- The link answers a request of an unknown kind (R185). -/
def unknownRequest (_rq : Request) (s : State) : State × Status × Results := (s, .unknownKind, .empty)

/-- The owner of a request kind (R185). -/
def ownerOf (kind : Byte) : Owner :=
  if kind = 0x01 then answering helloRequest
  else if kind = 0x02 then answering statusRequest
  else if kind = 0x03 then answering configRequest
  else if kind = 0x04 then answering resetRequest
  else if kind = 0x05 then answering ackNotice
  else if kind = 0x10 then answering beginAsset
  else if kind = 0x11 then answering loadAsset
  else if kind = 0x12 then answering endAsset
  else if kind = 0x13 then answering dropRequest
  else if kind = 0x14 then answering queryAsset
  else if kind = 0x20 then answering openPage
  else if kind = 0x21 then answering addObject
  else if kind = 0x22 then answering closePage
  else if kind = 0x23 then answering cancelPage
  else if kind = 0x24 then answering queryPage
  else if kind = 0x30 then feedLines
  else if kind = 0x31 then calibratePitch
  else if kind = 0x32 then answering stopMotion
  else if kind = 0x33 then answering holdQueue
  else if kind = 0x34 then answering releaseQueue
  else if kind = 0x35 then answering resumeFeed
  else answering unknownRequest

/-- What follows a request's answer in the same event: a STOP acts at once on a feed that stands (R112,
R128; log 14). -/
def followUp (kind : Byte) : State → State := if kind = 0x32 then stopAct else id

/-! ### Deciding a good frame (R182) -/

/-- The request is executed and, when its owner answers, its reply is complete (R184). -/
def execute (owner : Owner) (rq : Request) (s : State) : State :=
  match owner rq s with
  | (t, some (status, results)) => completeReply rq.key rq.kind status results t
  | (t, none) => t

/-- The request enters a slot (R183). -/
def takeSlot (rq : Request) (s : State) : State :=
  s.withLink { s.link with slots := s.link.slots ++ [{ key := rq.key, kind := rq.kind, reply := none }] }

/-- An entry of the reply list is the reply of this request, from its slot or as a resend (R182). -/
def WaitingReply.answers (key : RequestKey) : WaitingReply → Bool
  | .ofSlot k => decide (k = key)
  | .resend k _ => decide (k = key)
  | .refusal _ => false

/-- The reply list holds 4 unslotted replies (R188). -/
def Link.unslottedFull (l : Link) : Bool :=
  decide (Config.unslottedReplies ≤ l.replies.countP WaitingReply.unslotted)

/-- An unslotted reply joins the reply list, or is dropped when four wait already (R182, R188). -/
def Link.addUnslotted (l : Link) (reply : WaitingReply) : Link :=
  if l.unslottedFull then l else { l with replies := l.replies ++ [reply] }

/-- The NO_SLOT answer to a request (R182, R189). -/
def noSlotFrame (rq : Request) (serial : Nat) : ReplyFrame :=
  { seq := rq.key.seq, kind := rq.kind, status := .noSlot, results := .empty, serial := serial }

/-- The cache entry of a request (R182). -/
def Link.cached? (l : Link) (key : RequestKey) : Option CacheEntry := l.cache.find? (fun e => e.key = key)

/-- The request stands in a slot (R182). -/
def Link.inSlot (l : Link) (key : RequestKey) : Bool := l.slots.any (fun slot => decide (slot.key = key))

/-- The decision of R182, in its order. -/
def decideFrame (owner : Owner) (after : State → State) (rq : Request) (s : State) : State :=
  match s.link.cached? rq.key with
  | some e =>
    if s.link.replies.any (WaitingReply.answers rq.key) then s
    else s.withLink (s.link.addUnslotted (.resend rq.key e.frame))
  | none =>
    if s.link.inSlot rq.key then s
    else if s.link.slots.length < Config.requestSlots then
      after (execute owner rq (takeSlot rq s))
    else
      s.withLink
        { s.link.addUnslotted (.refusal (noSlotFrame rq s.link.serial)) with
          serial := s.link.serial + 1 }

/-- A good frame is decided (R182). A free transmitter for which a frame waits has begun it before, and
one that is free afterwards chooses at once (R188). -/
def goodFrame (owner : Owner) (after : State → State) (rq : Request) (s : State) : State :=
  choose (decideFrame owner after rq (choose s))

/-- The link receives: the part runs and the receiver is not CLOSED (R191, R204). -/
def State.receives (s : State) : Bool :=
  decide (s.power = .running) && decide (s.link.receiver.phase ≠ .closed)

/-- A request frame arrives whole: it has an effect when the link receives (R191). -/
def request (owner : Owner) (after : State → State) (rq : Request) (s : State) : State :=
  if s.receives then goodFrame owner after rq s else s

end Sys2Proof.Machine
end

