-- ==== Sys2Proof/Machine/HostRequests.lean ====
section
/-! DEFINITION. The meanings of the host's requests. Each is a good frame of the request's kind that
completes (R182): it is decided against the reply cache, the slots and the free slots, and a taken
request is executed by its owner (R184). The byte receiver is not touched (log 1). -/

namespace Sys2Proof.Machine

/-- UNKNOWN_KIND (R185): answered by the link. -/
def execUnknownKind (seq kind : Byte) (payload : List Byte) (s : State) : Host.Outcome State Fault Refusal :=
  .next (request (ownerOf kind) (followUp kind) (requestOf seq kind payload) s)

/-- RESET with scope PAGES (R210, R211). -/
def execResetPages (seq : Byte) (s : State) : Host.Outcome State Fault Refusal :=
  .next (request (answering resetRequest) id (requestOf seq 0x04 [0]) s)

/-- RESET with scope ALL (R210, R212). -/
def execResetAll (seq : Byte) (s : State) : Host.Outcome State Fault Refusal :=
  .next (request (answering resetRequest) id (requestOf seq 0x04 [1]) s)

/-- RESUME with action CONTINUE (R145 to R148). -/
def execResumeContinue (seq : Byte) (s : State) : Host.Outcome State Fault Refusal :=
  .next (request (answering resumeFeed) id (requestOf seq 0x35 [0]) s)

/-- RESUME with action REPRINT (R145, R149). -/
def execResumeReprint (seq : Byte) (s : State) : Host.Outcome State Fault Refusal :=
  .next (request (answering resumeFeed) id (requestOf seq 0x35 [1]) s)

/-- HELLO (R205). -/
def execHello (seq : Byte) (payload : List Byte) (s : State) : Host.Outcome State Fault Refusal :=
  .next (request (answering helloRequest) id (requestOf seq 0x01 payload) s)

/-- STATUS (R206). -/
def execStatus (seq : Byte) (payload : List Byte) (s : State) : Host.Outcome State Fault Refusal :=
  .next (request (answering statusRequest) id (requestOf seq 0x02 payload) s)

/-- CONFIG (R208). -/
def execConfig (seq : Byte) (payload : List Byte) (s : State) : Host.Outcome State Fault Refusal :=
  .next (request (answering configRequest) id (requestOf seq 0x03 payload) s)

/-- NOTICE_ACK (R200). -/
def execNoticeAck (seq : Byte) (payload : List Byte) (s : State) : Host.Outcome State Fault Refusal :=
  .next (request (answering ackNotice) id (requestOf seq 0x05 payload) s)

/-- ASSET_BEGIN (R156). -/
def execAssetBegin (seq : Byte) (payload : List Byte) (s : State) : Host.Outcome State Fault Refusal :=
  .next (request (answering beginAsset) id (requestOf seq 0x10 payload) s)

/-- ASSET_DATA (R158). -/
def execAssetData (seq : Byte) (payload : List Byte) (s : State) : Host.Outcome State Fault Refusal :=
  .next (request (answering loadAsset) id (requestOf seq 0x11 payload) s)

/-- ASSET_END (R160). -/
def execAssetEnd (seq : Byte) (payload : List Byte) (s : State) : Host.Outcome State Fault Refusal :=
  .next (request (answering endAsset) id (requestOf seq 0x12 payload) s)

/-- ASSET_DROP (R165). -/
def execAssetDrop (seq : Byte) (payload : List Byte) (s : State) : Host.Outcome State Fault Refusal :=
  .next (request (answering dropRequest) id (requestOf seq 0x13 payload) s)

/-- ASSET_QUERY (R169). -/
def execAssetQuery (seq : Byte) (payload : List Byte) (s : State) : Host.Outcome State Fault Refusal :=
  .next (request (answering queryAsset) id (requestOf seq 0x14 payload) s)

/-- PAGE_OPEN (R6). -/
def execPageOpen (seq : Byte) (payload : List Byte) (s : State) : Host.Outcome State Fault Refusal :=
  .next (request (answering openPage) id (requestOf seq 0x20 payload) s)

/-- OBJECT_ADD (R25). -/
def execObjectAdd (seq : Byte) (payload : List Byte) (s : State) : Host.Outcome State Fault Refusal :=
  .next (request (answering addObject) id (requestOf seq 0x21 payload) s)

/-- PAGE_CLOSE (R8). -/
def execPageClose (seq : Byte) (payload : List Byte) (s : State) : Host.Outcome State Fault Refusal :=
  .next (request (answering closePage) id (requestOf seq 0x22 payload) s)

/-- PAGE_CANCEL (R14, R15). -/
def execPageCancel (seq : Byte) (payload : List Byte) (s : State) : Host.Outcome State Fault Refusal :=
  .next (request (answering cancelPage) id (requestOf seq 0x23 payload) s)

/-- PAGE_QUERY (R19). -/
def execPageQuery (seq : Byte) (payload : List Byte) (s : State) : Host.Outcome State Fault Refusal :=
  .next (request (answering queryPage) id (requestOf seq 0x24 payload) s)

/-- FEED (R127). -/
def execFeed (seq : Byte) (payload : List Byte) (s : State) : Host.Outcome State Fault Refusal :=
  .next (request feedLines id (requestOf seq 0x30 payload) s)

/-- CALIBRATE (R129). -/
def execCalibrate (seq : Byte) (payload : List Byte) (s : State) : Host.Outcome State Fault Refusal :=
  .next (request calibratePitch id (requestOf seq 0x31 payload) s)

/-- STOP (R128). -/
def execStop (seq : Byte) (payload : List Byte) (s : State) : Host.Outcome State Fault Refusal :=
  .next (request (answering stopMotion) stopAct (requestOf seq 0x32 payload) s)

/-- HOLD (R125). -/
def execHold (seq : Byte) (payload : List Byte) (s : State) : Host.Outcome State Fault Refusal :=
  .next (request (answering holdQueue) id (requestOf seq 0x33 payload) s)

/-- RELEASE (R126). -/
def execRelease (seq : Byte) (payload : List Byte) (s : State) : Host.Outcome State Fault Refusal :=
  .next (request (answering releaseQueue) id (requestOf seq 0x34 payload) s)

end Sys2Proof.Machine
end

