-- ==== Sys2Proof/Machine/Receiver.lean ====
section
/-! DEFINITION. The receiver (section 9.3): bytes become frames, and a complete frame is checked and
decided. -/

namespace Sys2Proof.Machine

/-- The payload length that a header of 6 bytes carries (R174). -/
def headerLength (held : List Byte) : Nat := u16At held 4

/-- A header error among the header bytes held, from the SYNC on (R178): a class other than 0x01, or a
payload length over 1024. -/
def headerBad (held : List Byte) : Bool :=
  (decide (2 ≤ held.length) && decide (held.getD 1 0 ≠ 0x01)) ||
    (decide (6 ≤ held.length) && decide (maxPayload < headerLength held))

/-- Hunt through held bytes for a SYNC that starts a frame (R178): the header errors met on the way, and
the bytes of the new frame, none when no held byte is SYNC. -/
def rescan : List Byte → Nat × List Byte
  | [] => (0, [])
  | b :: rest =>
    if b ≠ syncByte then rescan rest
    else if headerBad (b :: rest) then ((rescan rest).1 + 1, (rescan rest).2)
    else (0, b :: rest)

/-- The receiver's state for the header bytes held (R177). -/
def headerPhase (held : List Byte) : ReceiverPhase :=
  if held = [] then .hunt
  else if held.length < 6 then .header
  else if headerLength held = 0 then .check
  else .payload

/-- The receiver holds these bytes of a frame in progress, the last of them just received. -/
def hold (s : State) (phase : ReceiverPhase) (held : List Byte) : State :=
  s.withLink { s.link with
    receiver := { phase := phase, held := held, lastByteAt := s.clock } }

/-- The receiver enters HUNT with no frame in progress. -/
def hunt (s : State) : State :=
  s.withLink { s.link with receiver := { s.link.receiver with phase := .hunt, held := [] } }

/-- A header byte: kept, or a header error that is counted and followed by a hunt through the held
bytes (R178). -/
def headerByte (b : Byte) (s : State) : State :=
  let held := s.link.receiver.held ++ [b]
  if headerBad held then
    let (errors, rest) := rescan (held.drop 1)
    let t := hold s (headerPhase rest) rest
    t.withLink { t.link with headerErrors := saturate t.link.headerErrors (1 + errors) }
  else hold s (headerPhase held) held

/-- The request of a complete frame, whose CRC-16 is that of its own bytes. -/
def frameRequest (held : List Byte) : Request :=
  { key := { seq := held.getD 2 0, crc := crc16 ((held.drop 1).take (5 + headerLength held)) },
    kind := held.getD 3 0, payload := (held.drop 6).take (headerLength held) }

/-- The two CRC bytes of a complete frame agree with its CRC-16 (R176, R179). -/
def crcMatches (held : List Byte) : Bool :=
  decide (held.drop (6 + headerLength held) = be16 (frameRequest held).key.crc)

/-- A frame is complete (R177, R179, R182): the receiver hunts again, and the frame is decided when its
CRC-16 matches and counted as a CRC error when it does not. -/
def frameEnds (held : List Byte) (s : State) : State :=
  if crcMatches held then
    goodFrame (ownerOf (frameRequest held).kind) (followUp (frameRequest held).kind) (frameRequest held)
      (hunt s)
  else
    let t := hunt s
    t.withLink { t.link with crcErrors := saturate t.link.crcErrors 1 }

/-- A byte by the receiver's state (R177). -/
def receiveByte (b : Byte) (s : State) : State :=
  let held := s.link.receiver.held ++ [b]
  match s.link.receiver.phase with
  | .closed => s
  | .hunt => if b = syncByte then hold s .header [b] else s
  | .header => headerByte b s
  | .payload => hold s (if held.length = 6 + headerLength held then .check else .payload) held
  | .check => if held.length = 8 + headerLength held then frameEnds held s else hold s .check held

/-- A character on HRX (R173): one whose stop bit is low is dropped. -/
def receiveCharacter (b : Byte) (stopBit : Level) (s : State) : State :=
  if s.power = .running ∧ stopBit = .high then receiveByte b s else s

/-- INTER_BYTE_TIMEOUT (R180): 20 ms have passed inside a frame; it is counted and discarded. In HUNT
and CLOSED no timeout runs. -/
def byteTimeout (s : State) : State :=
  if s.power ≠ .running then s
  else
    match s.link.receiver.phase with
    | .closed => s
    | .hunt => s
    | .header | .payload | .check =>
      let t := hunt (s.advanceTo (s.link.receiver.lastByteAt + Config.interByteMicros))
      t.withLink { t.link with timeouts := saturate t.link.timeouts 1 }

end Sys2Proof.Machine
end

