-- ==== Sys2Proof/Machine/StartUp.lean ====
section
/-! DEFINITION. Start-up, the reset line and the loss of the supply (R204, R170), and the levels of the
output pins that R204 names. -/

namespace Sys2Proof.Machine

/-- The rate that the straps RATE1 and RATE0 give (R173). -/
def LinkRate.ofStraps : Level → Level → LinkRate
  | .low, .low => .baud57600
  | .low, .high => .baud115200
  | .high, .low => .baud230400
  | .high, .high => .baud460800

/-- The cause that READY carries (R195, R204). -/
def resetCauseOf : StartCause → ResetCause
  | .power => .power
  | .line => .line

/-- Every block at its power-on values; the commands that wait and the model's count of replies are not
the part's and stay. -/
def State.cleared (s : State) (power : Power) (rate : LinkRate) : State :=
  { State.blank with
    power := power, link := { Link.blank rate with serial := s.link.serial }, pending := s.pending }

/-- START_UP: the five steps of R204 in order. READY is created unsent into the queue of a part whose
transmitter is free (R191, R203), and the transmitter then chooses it (R188, R198): it is the first frame
the part sends (R204; log 21). -/
def startUp (cause : StartCause) (rate1 rate0 : Level) (coverClosed mediaPresent : Bool) (s : State) :
    State :=
  let rate := LinkRate.ofStraps rate1 rate0
  let valued := s.cleared .running rate
  let sensed := valued.withSensors
    { cover := InputFilter.loaded coverClosed, media := InputFilter.loaded mediaPresent }
  let announced := sensed.withNotices
    { entries :=
        [{ number := 0, revision := 0, content := .ready (resetCauseOf cause) (Config.identity rate),
           sent := false, lastSending := none }],
      lastNumber := 0 }
  choose (announced.withLink
    { announced.link with receiver := { announced.link.receiver with phase := .hunt } })

/-- RESET_LINE_ASSERT (R204): the part is held in reset and no state is kept. A part without supply
stays off. -/
def assertReset (s : State) : State :=
  if s.power = .off then s else s.cleared .heldInReset s.link.rate

/-- SUPPLY_LOSS (R170): all state is lost. -/
def loseSupply (s : State) : State := s.cleared .off s.link.rate

/-- Whether the part runs (R204). -/
def State.running (s : State) : Bool := decide (s.power = .running)

/-! ### Output pins (R204) -/

/-- The burn strobe HSTB: in reset it is inactive (R204), and a burn is strobed (R119). How long it is active
within a burn the spec does not say: that it is for the whole time the burn is in flight is the model's
choice (log 22). -/
def State.burnStrobe (s : State) : Bool := s.running && decide (s.feed.inFlight = .burn)

/-- The motor enable MEN: inactive in reset (R204), and while the part runs a free value (log 4). -/
def State.motorEnabled (s : State) : Bool := s.running && Config.motorEnable s.clock

/-- HTX is at the idle level: no frame is being sent (R188, R204). -/
def State.transmitIdle (s : State) : Bool := !s.running || s.link.tx.isNone

end Sys2Proof.Machine
end

