-- ==== Sys2Proof/Machine/LinkEvents.lean ====
section
/-! DEFINITION. The meanings of the start-up commands and of the events of the link's receiver and
transmitter. -/

namespace Sys2Proof.Machine

/-- START_UP (R204). -/
def execStartUp (cause : StartCause) (rate1 rate0 : Level) (coverClosed mediaPresent : Bool)
    (s : State) : Host.Outcome State Fault Refusal :=
  .next (startUp cause rate1 rate0 coverClosed mediaPresent s)

/-- RESET_LINE_ASSERT (R204). -/
def execResetLineAssert (s : State) : Host.Outcome State Fault Refusal := .next (assertReset s)

/-- SUPPLY_LOSS (R170). -/
def execSupplyLoss (s : State) : Host.Outcome State Fault Refusal := .next (loseSupply s)

/-- BYTE_RECEIVED (R173, R177): a character by the receiver's state. -/
def execByteReceived (b : Byte) (stopBit : Level) (s : State) : Host.Outcome State Fault Refusal :=
  .next (receiveCharacter b stopBit s)

/-- HEADER_ERROR (R178): the header byte that makes the error. A byte that makes none is a byte received
(log 2). -/
def execHeaderError (b : Byte) (s : State) : Host.Outcome State Fault Refusal :=
  .next (receiveCharacter b .high s)

/-- INTER_BYTE_TIMEOUT (R180). -/
def execInterByteTimeout (s : State) : Host.Outcome State Fault Refusal := .next (byteTimeout s)

/-- FRAME_COMPLETE (R182): the last CRC byte of a frame. A byte that completes none is a byte received
(log 2). -/
def execFrameComplete (b : Byte) (s : State) : Host.Outcome State Fault Refusal :=
  .next (receiveCharacter b .high s)

/-- TRANSMIT_FRAME_END (R188): a part that does not run, or sends nothing, ends no frame. -/
def execTransmitFrameEnd (s : State) : Host.Outcome State Fault Refusal :=
  .next (if s.running && s.link.tx.isSome then endFrame s else s)

/-- NOTICE_RESEND_DUE (R198): the transmitter is free and the reply list empty. -/
def execNoticeResendDue (s : State) : Host.Outcome State Fault Refusal :=
  .next (if s.running && s.link.tx.isNone && s.link.replies.isEmpty then resendDue s else s)

/-! ### With no command waiting -/

/-- The time that passes in a step with no command waiting, in microseconds: 1 ms (log 8). -/
def idleMicros : Nat := 1000

/-- A step with no command waiting (log 8): time passes while the part runs, and a free transmitter
chooses. DESIGN CHOICE: the timers that have a row of the table fire by their rows alone. -/
def idle (s : State) : State :=
  if s.running then choose (s.withClock (s.clock + idleMicros)) else s

end Sys2Proof.Machine
end

