-- ==== Sys2Proof/Machine/Engine.lean ====
section
/-! DEFINITION. The raster engine (sections 4.1 and 4.2) and the render completion it reports to the
band ring (R101, R102). -/

namespace Sys2Proof.Machine

/-- The buffer that the engine fills is marked void (R72). -/
def BufferState.isVoid : BufferState → Bool
  | .free => false
  | .filling _ void => void
  | .ready _ => false
  | .draining _ => false

/-- The objects of the band that the engine renders, in list order (R70, R90); a page that is no longer
in the table has none. -/
def State.renderList (s : State) (r : Render) : List StoredObject :=
  match s.page? r.tag.page with
  | some p => p.bandObjects r.tag.band
  | none => []

/-- The asset an object names, as the table holds it. -/
def State.objectAsset? (s : State) (o : StoredObject) : Option Asset := o.assetId?.bind s.asset?

/-- One object drawn into the engine's buffer, and progress one further (R71). -/
def drawNext (r : Render) (p : Page) (o : StoredObject) (s : State) : State :=
  (s.withRing
      { s.ring with
        buffers := s.ring.buffers.set r.buffer
          { s.ring.buffers.get r.buffer with
            raster := drawObject o (s.objectAsset? o) p r.tag (s.ring.buffers.get r.buffer).raster } }
    ).withEngine (some { r with progress := r.progress + 1 })

/-- A void render completes: its buffer is FREE, the engine IDLE, and the ring tests for an assignment
(R72, R101). -/
def completeVoid (r : Render) (s : State) : State :=
  assignBand ((s.withRing (s.ring.freeBuffer r.buffer)).withEngine none)

/-- A full render completes: its buffer is READY, a request that waits for it is granted, and the ring
tests for an assignment (R101, R102). -/
def completeFull (r : Render) (s : State) : State :=
  assignBand
    (grantWaiting r.buffer r.tag ((s.withRing (s.ring.setState r.buffer (.ready r.tag))).withEngine none))

/-- An object boundary of a render (R71, R72): the void mark is tested first; then the object at the
engine's progress is drawn whole, or the render is complete. -/
def boundaryOf (r : Render) (s : State) : State :=
  if (s.ring.stateOf r.buffer).isVoid then completeVoid r s
  else
    match s.page? r.tag.page, (s.renderList r)[r.progress]? with
    | some p, some o => drawNext r p o s
    | _, _ => completeFull r s

/-- OBJECT_BOUNDARY (R71): an IDLE engine has none. -/
def objectBoundary (s : State) : State :=
  match s.engine with
  | some r => boundaryOf r s
  | none => s

end Sys2Proof.Machine
end

