-- ==== Sys2Proof/Machine/Sensors.lean ====
section
/-! DEFINITION. The filtered sensor inputs and the changes of the condition set (section 7.1). -/

namespace Sys2Proof.Machine

/-- The input whose filtered level a condition stands for (R135). -/
def inputOf : Condition → SensorInput
  | .coverOpen => .cover
  | .mediaOut => .media

/-- The filter of an input. -/
def Sensors.filter (x : Sensors) : SensorInput → InputFilter
  | .cover => x.cover
  | .media => x.media

/-- One filter replaced. -/
def Sensors.setFilter (x : Sensors) (input : SensorInput) (f : InputFilter) : Sensors :=
  match input with
  | .cover => { x with cover := f }
  | .media => { x with media := f }

/-- A change of an input's level starts its 10 ms again; a level equal to the filtered one leaves
nothing to run out (R135). -/
def InputFilter.change (f : InputFilter) (level : Bool) (clock : Nat) : InputFilter :=
  { f with raw := level, since := if level = f.filtered then none else some clock }

/-- SENSOR_INPUT_CHANGE (R135). The level an input has already is no change. -/
def inputChange (input : SensorInput) (level : Bool) (s : State) : State :=
  if (s.sensors.filter input).raw = level then s
  else
    s.withSensors
      (s.sensors.setFilter input ((s.sensors.filter input).change level s.clock))

/-- The moment at which an input's filter runs out with the filtered level turning to `level` (R135):
there is none unless the input holds that level and its filter runs. -/
def InputFilter.expiry? (f : InputFilter) (level : Bool) : Option Nat :=
  match f.since with
  | some t => if f.raw = level ∧ f.filtered ≠ level then some (t + Config.filterMicros) else none
  | none => none

/-- The filtered level of an input changes at the moment its filter runs out. -/
def settle (input : SensorInput) (level : Bool) (at_ : Nat) (s : State) : State :=
  (s.advanceTo at_).withSensors
    (s.sensors.setFilter input { raw := level, filtered := level, since := none })

/-- CONDITION_JOINS (R136): the set changes, the feed acts by its state, and it reports (R152). -/
def conditionJoins (c : Condition) (s : State) : State :=
  match (s.sensors.filter (inputOf c)).expiry? false with
  | some t => choose (reportFeed s (conditionActs c (settle (inputOf c) false t s)))
  | none => s

/-- CONDITION_LEAVES (R136): the set changes and the feed reports it; no motion starts or stops. -/
def conditionLeaves (c : Condition) (s : State) : State :=
  match (s.sensors.filter (inputOf c)).expiry? true with
  | some t => choose (reportFeed s (settle (inputOf c) true t s))
  | none => s

end Sys2Proof.Machine
end

