-- ==== Sys2Proof/Machine/MechanismEvents.lean ====
section
/-! DEFINITION. The meanings of the events of the mechanism, of the sensors and of the raster engine. A
part that does not run takes none of them (R204). -/

namespace Sys2Proof.Machine

/-- SENSOR_INPUT_CHANGE (R135). -/
def execSensorInputChange (input : SensorInput) (good : Bool) (s : State) : Host.Outcome State Fault Refusal :=
  .next (if s.running then inputChange input good s else s)

/-- CONDITION_JOINS (R136). -/
def execConditionJoins (c : Condition) (s : State) : Host.Outcome State Fault Refusal :=
  .next (if s.running then conditionJoins c s else s)

/-- CONDITION_LEAVES (R136). -/
def execConditionLeaves (c : Condition) (s : State) : Host.Outcome State Fault Refusal :=
  .next (if s.running then conditionLeaves c s else s)

/-- LINE_PERIOD_ELAPSED (R112). -/
def execLinePeriodElapsed (period : PeriodOf) (s : State) : Host.Outcome State Fault Refusal :=
  .next (if s.running then periodElapsed period s else s)

/-- STEP_COMPLETION (R112): with no step in flight there is none. What it makes available to a free
transmitter is sent at once (R188). -/
def execStepCompletion (sedge : EdgeLevel) (s : State) : Host.Outcome State Fault Refusal :=
  .next (if s.running then choose (completeStep sedge s) else s)

/-- BURN_COMPLETION (R119): with no burn in flight there is none. -/
def execBurnCompletion (s : State) : Host.Outcome State Fault Refusal :=
  .next (if s.running then choose (completeBurn s) else s)

/-- OBJECT_BOUNDARY (R71). -/
def execObjectBoundary (s : State) : Host.Outcome State Fault Refusal :=
  .next (if s.running then objectBoundary s else s)

end Sys2Proof.Machine
end

