-- ==== Sys2Proof/Machine/Dispatch.lean ====
section
/-! DEFINITION. The meaning of every command: one arm each, one direct call of its own definition. -/

namespace Sys2Proof.Machine

def exec (i : Instr) (s : State) : Host.Outcome State Fault Refusal :=
  match i with
  | .startUp cause rate1 rate0 coverClosed mediaPresent => Sys2Proof.Machine.execStartUp cause rate1 rate0 coverClosed mediaPresent s
  | .resetLineAssert => Sys2Proof.Machine.execResetLineAssert s
  | .supplyLoss => Sys2Proof.Machine.execSupplyLoss s
  | .byteReceived b stopBit => Sys2Proof.Machine.execByteReceived b stopBit s
  | .headerError b => Sys2Proof.Machine.execHeaderError b s
  | .interByteTimeout => Sys2Proof.Machine.execInterByteTimeout s
  | .frameComplete b => Sys2Proof.Machine.execFrameComplete b s
  | .unknownKind seq kind payload => Sys2Proof.Machine.execUnknownKind seq kind payload s
  | .hello seq payload => Sys2Proof.Machine.execHello seq payload s
  | .status seq payload => Sys2Proof.Machine.execStatus seq payload s
  | .config seq payload => Sys2Proof.Machine.execConfig seq payload s
  | .resetPages seq => Sys2Proof.Machine.execResetPages seq s
  | .resetAll seq => Sys2Proof.Machine.execResetAll seq s
  | .noticeAck seq payload => Sys2Proof.Machine.execNoticeAck seq payload s
  | .assetBegin seq payload => Sys2Proof.Machine.execAssetBegin seq payload s
  | .assetData seq payload => Sys2Proof.Machine.execAssetData seq payload s
  | .assetEnd seq payload => Sys2Proof.Machine.execAssetEnd seq payload s
  | .assetDrop seq payload => Sys2Proof.Machine.execAssetDrop seq payload s
  | .assetQuery seq payload => Sys2Proof.Machine.execAssetQuery seq payload s
  | .pageOpen seq payload => Sys2Proof.Machine.execPageOpen seq payload s
  | .objectAdd seq payload => Sys2Proof.Machine.execObjectAdd seq payload s
  | .pageClose seq payload => Sys2Proof.Machine.execPageClose seq payload s
  | .pageCancel seq payload => Sys2Proof.Machine.execPageCancel seq payload s
  | .pageQuery seq payload => Sys2Proof.Machine.execPageQuery seq payload s
  | .feed seq payload => Sys2Proof.Machine.execFeed seq payload s
  | .calibrate seq payload => Sys2Proof.Machine.execCalibrate seq payload s
  | .stop seq payload => Sys2Proof.Machine.execStop seq payload s
  | .hold seq payload => Sys2Proof.Machine.execHold seq payload s
  | .release seq payload => Sys2Proof.Machine.execRelease seq payload s
  | .resumeContinue seq => Sys2Proof.Machine.execResumeContinue seq s
  | .resumeReprint seq => Sys2Proof.Machine.execResumeReprint seq s
  | .sensorInputChange input good => Sys2Proof.Machine.execSensorInputChange input good s
  | .conditionJoins c => Sys2Proof.Machine.execConditionJoins c s
  | .conditionLeaves c => Sys2Proof.Machine.execConditionLeaves c s
  | .linePeriodElapsed period => Sys2Proof.Machine.execLinePeriodElapsed period s
  | .stepCompletion sedge => Sys2Proof.Machine.execStepCompletion sedge s
  | .burnCompletion => Sys2Proof.Machine.execBurnCompletion s
  | .objectBoundary => Sys2Proof.Machine.execObjectBoundary s
  | .transmitFrameEnd => Sys2Proof.Machine.execTransmitFrameEnd s
  | .noticeResendDue => Sys2Proof.Machine.execNoticeResendDue s

end Sys2Proof.Machine
end

