-- ==== Sys2Proof/Safety.lean ====
section
/-! DEFINITION. What holds of the LB420 at every moment: the laws that the manual states of its
collections, as propositions on one state; and the terms in which statements about one command are
made: what it takes for a request to be taken, what its answer is, and what a command leaves alone. -/

namespace Sys2Proof.Machine

/-! ### The host link (chapter 9) -/

/-- The request that a running FEED or CALIBRATE will answer (R184). -/
def FeedState.motionKey? : FeedState → Option RequestKey
  | .moving key _ _ => some key
  | .calibrating key _ _ _ _ => some key
  | .idle | .backfeed | .seekSearch _ _ | .seekOffset _ | .printing | .stalled | .trailing _
  | .paused _ _ => none

/-- The requests whose slot replies wait in the reply list (R188). -/
def waitingKeys (replies : List WaitingReply) : List RequestKey :=
  replies.filterMap fun w =>
    match w with
    | .ofSlot key => some key
    | .resend _ _ => none
    | .refusal _ => none

/-- The bounds of the link's collections (R183, R186, R188): at most 4 slots with different requests, at
most 4 cache entries with different seqs, and at most 4 unslotted replies in the reply list. -/
abbrev LinkBounds (s : State) : Prop :=
  s.link.slots.length ≤ 4 ∧ (s.link.slots.map Slot.key).Nodup ∧
  s.link.cache.length ≤ 4 ∧ (s.link.cache.map fun e => e.key.seq).Nodup ∧
  s.link.replies.countP WaitingReply.unslotted ≤ 4

/-- Every held slot is accounted for (R183, R184, R188): the slots with a complete reply are exactly
those whose reply waits in the list, each once, and a slot without one is that of the running FEED or
CALIBRATE, which holds a slot while it runs. -/
abbrev SlotsAccounted (s : State) : Prop :=
  (waitingKeys s.link.replies).Nodup ∧
  (∀ key ∈ waitingKeys s.link.replies, (slotReply? s.link.slots key).isSome = true) ∧
  (∀ slot ∈ s.link.slots,
    (slot.reply.isSome = true ↔ slot.key ∈ waitingKeys s.link.replies) ∧
    (slot.reply = none ↔ s.feed.state.motionKey? = some slot.key)) ∧
  (∀ key ∈ s.feed.state.motionKey?, key ∈ s.link.slots.map Slot.key)

/-! ### The configuration (R207) -/

/-- Every field of the configuration lies in its range (R207). -/
abbrev SettingsInRange (c : Settings) : Prop :=
  (64 ≤ c.printWidth ∧ c.printWidth ≤ 832 ∧ c.printWidth % 8 = 0) ∧ c.topOffset ≤ 1023 ∧
  c.tearOffset ≤ 1023 ∧ (64 ≤ c.searchLimit ∧ c.searchLimit ≤ 32767) ∧
  (100 ≤ c.lineRate ∧ c.lineRate ≤ 1600) ∧ (50 ≤ c.resendInterval ∧ c.resendInterval ≤ 2000)

/-! ### Pages (chapter 1) -/

/-- The page stands in the print queue by its state (R5). -/
def PageState.inQueue : PageState → Bool
  | .opened => false
  | .queued => true
  | .active => true
  | .ended => false

/-- The law of the page table and the print queue (R2, R3, R5): at most 8 entries with different ids
from 1 to 65535, at most one of them OPEN; the queue holds the QUEUED and ACTIVE pages, each once; an
ACTIVE page is its head. -/
abbrev PageLaw (s : State) : Prop :=
  s.composer.pages.length ≤ 8 ∧ (s.composer.pages.map Page.id).Nodup ∧
  (∀ p ∈ s.composer.pages, 1 ≤ p.id ∧ p.id ≤ 65535) ∧ s.composer.lastId ≤ 65535 ∧
  s.composer.pages.countP (fun p => decide (p.state = .opened)) ≤ 1 ∧
  s.composer.queue.Nodup ∧
  (∀ id ∈ s.composer.queue, ∃ p ∈ s.composer.pages, p.id = id ∧ p.state.inQueue = true) ∧
  (∀ p ∈ s.composer.pages,
    (p.state.inQueue = true → p.id ∈ s.composer.queue) ∧
    (p.state = .active → s.composer.queue.head? = some p.id))

/-- The law of one page entry (R1, R11, R13): while the page has not ended, its length and copies are in
range, copies done has not reached copies ordered, and it has one band list per band; an ENDED page has
no objects and no band lists. -/
abbrev EntryLaw (p : Page) : Prop :=
  if p.state = .ended then p.ended.isSome = true ∧ p.objects = [] ∧ p.bandLists = []
  else
    p.ended = none ∧ (16 ≤ p.length ∧ p.length ≤ 16384) ∧ p.copiesOrdered ≤ 9999 ∧
    p.copiesDone < p.copiesOrdered ∧ p.bandCount = bandCountOf p.length ∧
    p.bandLists.length = p.bandCount

/-- The object touches the band (R42). -/
def StoredObject.touches (o : StoredObject) (band : Nat) : Bool :=
  decide (o.firstBand ≤ band) && decide (band < o.firstBand + o.bandsTouched)

/-- The binning of one page (R57, R61): its objects are numbered from 1 in the order stored, and the
list of each band holds the numbers of exactly the objects that touch the band, in that order. -/
abbrev BinningLaw (p : Page) : Prop :=
  p.state ≠ .ended →
    p.storedCount = p.objects.length ∧
    p.objects.map StoredObject.number = (List.range p.objects.length).map (· + 1) ∧
    ∀ b < p.bandLists.length,
      p.bandLists[b]? = some ((p.objects.filter fun o => o.touches b).map StoredObject.number)

/-- The three pools balance (R54, R65): the free records and those that the pages hold together are the
capacity. -/
abbrev PoolLaw (s : State) : Prop :=
  s.composer.freeObjects + (s.composer.pages.map fun p => p.objects.length).sum = 2048 ∧
  s.composer.freeElements + (s.composer.pages.map fun p => elementsHeld p.objects).sum = 8192 ∧
  s.composer.freeLinks + (s.composer.pages.map fun p => linksHeld p.objects).sum = 6144

/-! ### Assets (chapter 8) -/

/-- How many stored objects of all pages name an asset (R168). -/
def State.namingCount (s : State) (id : Nat) : Nat :=
  (s.composer.pages.map fun p => naming id p.objects).sum

/-- The law of the asset table (R153, R154, R157, R159): at most 96 assets with different ids, their
blocks and the free blocks together 3072, and no asset longer than declared. -/
abbrev AssetLaw (s : State) : Prop :=
  s.assets.table.length ≤ 96 ∧ (s.assets.table.map Asset.id).Nodup ∧
  s.assets.freeBlocks + blocksHeld s.assets.table = 3072 ∧
  ∀ a ∈ s.assets.table, (1 ≤ a.id ∧ a.id ≤ 65535) ∧ a.received ≤ a.declared ∧ a.declared ≤ 65536

/-- The law of reference counts (R165, R166, R168): an asset's count is the number of stored objects
that name it, an object names an asset of the table, and a DOOMED asset has a count above 0 and a
LOADING one 0. -/
abbrev ReferenceLaw (s : State) : Prop :=
  (∀ a ∈ s.assets.table, a.refCount = s.namingCount a.id ∧ (a.state = .doomed → 0 < a.refCount) ∧
    (a.state = .loading → a.refCount = 0)) ∧
  ∀ p ∈ s.composer.pages, ∀ o ∈ p.objects, ∀ id ∈ o.assetId?, id ∈ s.assets.table.map Asset.id

/-! ### Notices (chapter 10) -/

/-- The pages whose reports the queue holds. -/
def NoticeQueue.reportedPages (q : NoticeQueue) : List Nat := q.entries.filterMap Notice.pageEndedId?

/-- The law of the notice queue (R193, R194, R196): different numbers, at most one READY and one
FEED_STATE, and one PAGE_ENDED for each ENDED page, whose entry holds its number. -/
abbrev NoticeLaw (s : State) : Prop :=
  (s.notices.entries.map Notice.number).Nodup ∧
  s.notices.entries.countP (fun n => decide (n.content.kind = .ready)) ≤ 1 ∧
  s.notices.entries.countP Notice.isFeedState ≤ 1 ∧
  s.notices.reportedPages.Nodup ∧
  (∀ n ∈ s.notices.entries, ∀ id ∈ n.pageEndedId?,
    ∃ p ∈ s.composer.pages, p.id = id ∧ p.state = .ended) ∧
  (∀ p ∈ s.composer.pages,
    (p.state = .ended → p.ended.isSome = true) ∧
    ∀ e ∈ p.ended, p.state = .ended ∧
      ∃ n ∈ s.notices.entries, n.number = e.noticeNumber ∧ n.pageEndedId? = some p.id)

/-! ### The band ring (chapter 5) -/

/-- The buffer is FILLING. -/
def BufferState.isFilling : BufferState → Bool
  | .free => false
  | .filling _ _ => true
  | .ready _ => false
  | .draining _ => false

/-- The law of the buffers (R69, R95, R96): the assignment order holds the buffers that are not FREE,
each once; at most one is DRAINING; and the FILLING buffer is the one that the engine renders, with its
tag, and the newest in the order. -/
abbrev BufferLaw (s : State) : Prop :=
  s.ring.order.Nodup ∧ (∀ i, i ∈ s.ring.order ↔ s.ring.stateOf i ≠ .free) ∧
  (∀ i j, (s.ring.stateOf i).isDraining = true → (s.ring.stateOf j).isDraining = true → i = j) ∧
  (∀ i, (s.ring.stateOf i).isFilling = true ↔ s.engine.map Render.buffer = some i) ∧
  (∀ r ∈ s.engine, (s.ring.stateOf r.buffer).tag? = some r.tag ∧
    s.ring.order.getLast? = some r.buffer)

/-- The ring's test for an assignment, between the state in which the ring tests and the state it leaves
(R100): with the engine IDLE, a FREE buffer and a next band, the lowest-numbered FREE buffer is FILLING with
that band, white, last in the order and handed to the engine; otherwise ring and engine stay. -/
def Assigned (s t : State) : Prop :=
  match s.engine, s.ring.lowestFree?, s.nextBand? with
  | none, some i, some next =>
    t.engine = some { buffer := i, tag := next, progress := 0 } ∧
    t.ring.order = s.ring.order ++ [i] ∧ t.ring.waiting = s.ring.waiting ∧
    (t.ring.buffers.get i).raster = Raster.white ∧
    (∀ j, t.ring.stateOf j = if j = i then .filling next false else s.ring.stateOf j) ∧
    ∀ j, j ≠ i → (t.ring.buffers.get j).raster = (s.ring.buffers.get j).raster
  | _, _, _ => t.engine = s.engine ∧ t.ring = s.ring

/-- The law of band requests (R102, R120): a request waits exactly while the feed is STALLED, for the
cursor's position, with no buffer DRAINING. -/
abbrev RequestLaw (s : State) : Prop :=
  (s.ring.waiting.isSome = true ↔ s.feed.state = .stalled) ∧
  (s.ring.waiting.isSome = true → s.ring.waiting = s.cursorTag? ∧ s.ring.draining? = none)

/-- The tags of the non-void buffers in assignment order (R99). -/
def BandRing.liveTags (r : BandRing) : List Tag := r.liveOrder.filterMap fun i => (r.stateOf i).tag?

/-- The law of the ring (R99): the non-void buffers hold consecutive positions of the print order, and
the first of them holds the print cursor's band. -/
abbrev RingLaw (s : State) : Prop :=
  s.ring.liveTags <+: s.printOrder.drop (s.feed.line / 64)

/-! ### The feed controller (chapters 6 and 7) -/

/-- The feed state stands inside a copy: PRINTING, STALLED, or a pause with a PRINT context (R119, R120,
R140). -/
def FeedState.insideCopy : FeedState → Bool
  | .printing => true
  | .stalled => true
  | .paused _ (.print _ _ _ _) => true
  | .paused _ (.seek _ _) => false
  | .paused _ (.backfeed _ _) => false
  | .paused _ (.trail _ _) => false
  | .paused _ .none => false
  | .idle | .backfeed | .seekSearch _ _ | .seekOffset _ | .trailing _ | .moving _ _ _
  | .calibrating _ _ _ _ _ => false

/-- The law of the print cursor (R98): its line lies in the head page, and it is 0 with an empty queue,
outside a copy, and once the copy of the line in progress has ended or its page has been cancelled or
discarded. -/
abbrev CursorLaw (s : State) : Prop :=
  (∀ p ∈ s.headPage?, s.feed.line < p.length) ∧ (s.composer.queue = [] → s.feed.line = 0) ∧
  (s.feed.state.insideCopy = false → s.feed.line = 0) ∧
  (s.feed.openLine.any OpenLine.copyEnded = true → s.feed.line = 0) ∧
  (s.feed.pending.cancel = true ∨ s.feed.pending.reset.isSome = true → s.feed.line = 0)

/-- The feed state moves media (R111). -/
def FeedState.moves : FeedState → Bool
  | .idle => false
  | .stalled => false
  | .paused _ _ => false
  | .backfeed | .seekSearch _ _ | .seekOffset _ | .printing | .trailing _ | .moving _ _ _
  | .calibrating _ _ _ _ _ => true

/-- The law of motion (R112): in a state that moves media, and in no other, a step or a burn is in flight
or called for, and never both; a line is open only in PRINTING, and always during a burn; and a stop is
pending only while the feed does not stand at a boundary. -/
abbrev MotionLaw (s : State) : Prop :=
  (s.feed.state.moves = true ↔ s.feed.inFlight ≠ .none ∨ s.feed.called.isSome = true) ∧
  (s.feed.called.isSome = true → s.feed.inFlight = .none) ∧
  (s.feed.openLine.isSome = true → s.feed.state = .printing) ∧
  (s.feed.inFlight = .burn → s.feed.openLine.isSome = true) ∧
  (s.feed.called = some .burn → s.feed.state = .printing ∧ s.feed.openLine = none) ∧
  (s.feed.pending.any = true → s.feed.standing = false)

/-- The feed state works on the head page (R4, R139). -/
def FeedState.worksOnHead : FeedState → Bool
  | .idle => false
  | .trailing _ => false
  | .moving _ _ _ => false
  | .calibrating _ _ _ _ _ => false
  | .backfeed => true
  | .seekSearch _ _ => true
  | .seekOffset _ => true
  | .printing => true
  | .stalled => true
  | .paused _ (.print _ _ _ _) => true
  | .paused _ (.seek _ _) => true
  | .paused _ (.backfeed _ _) => true
  | .paused _ (.trail _ _) => false
  | .paused _ .none => false

/-- The law of the page being worked on (R4, R10, R139): while the feed works on the head page, with no
cancel or reset pending and no copy ended under it, that page is ACTIVE; while a cancel or a reset is
pending, no page is. -/
abbrev HeadLaw (s : State) : Prop :=
  (s.feed.state.worksOnHead = true → s.feed.pending.cancel = false → s.feed.pending.reset = none →
    s.feed.openLine.any OpenLine.copyEnded = false → ∃ p ∈ s.headPage?, p.state = .active) ∧
  (s.feed.pending.cancel = true ∨ s.feed.pending.reset.isSome = true →
    ∀ p ∈ s.composer.pages, p.state ≠ .active)

/-- The law of the buffer being printed (R102, R103, R119): the DRAINING buffer holds the cursor's band,
and a burn that is called for, or in flight for a line of an ACTIVE page, has one; that line is the
cursor's. -/
abbrev DrainLaw (s : State) : Prop :=
  (∀ i, (s.ring.stateOf i).isDraining = true → (s.ring.stateOf i).tag? = s.cursorTag?) ∧
  (s.feed.called = some .burn → s.ring.draining?.isSome = true) ∧
  (∀ l ∈ s.feed.openLine, s.feed.inFlight = .burn →
    l.copyEnded = false ∧
    (s.isActive l.page = true → s.ring.draining?.isSome = true ∧
      s.cursor?.map (fun c => (c.page, c.line)) = some (l.page, l.line)))

/-- The law of a pause (R138, R139, R143): the parked distance and the lines of the context are in range,
and a context names the head page, its copy and the cursor's line. -/
abbrev ContextLaw (s : State) : Prop :=
  match s.feed.state.paused? with
  | some (_, .print page copy line _) => s.cursor? = some { page := page, copy := copy, line := line }
  | some (_, .seek page copy) => s.cursor? = some { page := page, copy := copy, line := 0 }
  | some (_, .backfeed remaining valid) =>
    1 ≤ remaining ∧ s.feed.parked = (if valid then remaining else 0)
  | some (_, .trail _ valid) => valid = false → s.feed.parked = 0
  | some (_, .none) => True
  | none => True

/-- The laws that pages, band ring and feed controller keep together. -/
abbrev PrintingLaw (s : State) : Prop :=
  PageLaw s ∧ (∀ p ∈ s.composer.pages, EntryLaw p) ∧ BufferLaw s ∧ RequestLaw s ∧ RingLaw s ∧
  CursorLaw s ∧ MotionLaw s ∧ HeadLaw s ∧ DrainLaw s ∧ ContextLaw s

/-! ### One request -/

/-- The link takes this request (R182): it receives, the request is in neither the cache nor a slot, and
a slot is free. A free transmitter for which a frame waits has begun it first, which may free a slot. -/
abbrev Takes (rq : Request) (s : State) : Prop :=
  s.receives = true ∧ s.link.cached? rq.key = none ∧ (choose s).link.inSlot rq.key = false ∧
    (choose s).link.slots.length < 4

/-- The reply frame of a request. -/
def replyTo (rq : Request) (status : Status) (results : Results) (serial : Nat) : ReplyFrame :=
  { seq := rq.key.seq, kind := rq.kind, status := status, results := results, serial := serial }

/-- The request has been answered with this status and these results (R184, R186, R188): the reply is
the newest of the cache that stood before, and it waits last in the reply list or has begun to leave. -/
def AnsweredFrom (cache : List CacheEntry) (serial : Nat) (rq : Request) (status : Status)
    (results : Results) (t : State) : Prop :=
  t.link.cache = cacheReply cache { key := rq.key, frame := replyTo rq status results serial } ∧
  (t.link.replies.getLast? = some (.ofSlot rq.key) ∨
    t.link.tx = some (.reply (replyTo rq status results serial)))

/-- The request has been answered, with the cache of the state before. -/
def Answered (rq : Request) (status : Status) (results : Results) (s t : State) : Prop :=
  AnsweredFrom s.link.cache s.link.serial rq status results t

/-! ### What a command leaves alone -/

/-- The parts of the state. -/
inductive Part where
  | power
  | clock
  | settings
  | link
  | notices
  | assets
  | composer
  | engine
  | ring
  | feed
  | sensors
  | pending
  deriving DecidableEq, Repr

/-- A part is the same in two states. -/
def Part.same : Part → State → State → Prop
  | .power, s, t => t.power = s.power
  | .clock, s, t => t.clock = s.clock
  | .settings, s, t => t.settings = s.settings
  | .link, s, t => t.link = s.link
  | .notices, s, t => t.notices = s.notices
  | .assets, s, t => t.assets = s.assets
  | .composer, s, t => t.composer = s.composer
  | .engine, s, t => t.engine = s.engine
  | .ring, s, t => t.ring = s.ring
  | .feed, s, t => t.feed = s.feed
  | .sensors, s, t => t.sensors = s.sensors
  | .pending, s, t => t.pending = s.pending

/-- Every part but those named is the same. -/
def Keeps (changed : List Part) (s t : State) : Prop := ∀ p, p ∉ changed → p.same s t

/-- What the arbiter does not touch of the link: the receiver, the error counters and the rate. -/
def LinkAside (s t : State) : Prop :=
  t.link.receiver = s.link.receiver ∧ t.link.crcErrors = s.link.crcErrors ∧
  t.link.headerErrors = s.link.headerErrors ∧ t.link.timeouts = s.link.timeouts ∧
  t.link.rate = s.link.rate

/-- What the arbiter does not touch of a notice: its number, its revision and its content. -/
def Notice.face (n : Notice) : Byte × Word16 × NoticeContent := (n.number, n.revision, n.content)

/-- What the arbiter does not touch of the notice queue: it marks an entry sent and no more (R198). -/
def NoticesAside (s t : State) : Prop :=
  t.notices.lastNumber = s.notices.lastNumber ∧
  t.notices.entries.map Notice.face = s.notices.entries.map Notice.face

/-- What every request leaves alone besides its own effect: all parts but those named, the link's
receiver, counters and rate, and what the notices say. -/
def RequestKeeps (changed : List Part) (s t : State) : Prop :=
  Keeps (.link :: .notices :: changed) s t ∧ LinkAside s t ∧ NoticesAside s t

/-- The request that a command stands for, for the commands that are host requests (R185). -/
def requestFor : Instr → Option Request
  | .unknownKind seq kind p => some (requestOf seq kind p)
  | .hello seq p => some (requestOf seq 0x01 p)
  | .status seq p => some (requestOf seq 0x02 p)
  | .config seq p => some (requestOf seq 0x03 p)
  | .resetPages seq => some (requestOf seq 0x04 [0])
  | .resetAll seq => some (requestOf seq 0x04 [1])
  | .noticeAck seq p => some (requestOf seq 0x05 p)
  | .assetBegin seq p => some (requestOf seq 0x10 p)
  | .assetData seq p => some (requestOf seq 0x11 p)
  | .assetEnd seq p => some (requestOf seq 0x12 p)
  | .assetDrop seq p => some (requestOf seq 0x13 p)
  | .assetQuery seq p => some (requestOf seq 0x14 p)
  | .pageOpen seq p => some (requestOf seq 0x20 p)
  | .objectAdd seq p => some (requestOf seq 0x21 p)
  | .pageClose seq p => some (requestOf seq 0x22 p)
  | .pageCancel seq p => some (requestOf seq 0x23 p)
  | .pageQuery seq p => some (requestOf seq 0x24 p)
  | .feed seq p => some (requestOf seq 0x30 p)
  | .calibrate seq p => some (requestOf seq 0x31 p)
  | .stop seq p => some (requestOf seq 0x32 p)
  | .hold seq p => some (requestOf seq 0x33 p)
  | .release seq p => some (requestOf seq 0x34 p)
  | .resumeContinue seq => some (requestOf seq 0x35 [0])
  | .resumeReprint seq => some (requestOf seq 0x35 [1])
  | .startUp _ _ _ _ _ | .resetLineAssert | .supplyLoss => none
  | .byteReceived _ _ | .headerError _ | .interByteTimeout | .frameComplete _ => none
  | .sensorInputChange _ _ | .conditionJoins _ | .conditionLeaves _ => none
  | .linePeriodElapsed _ | .stepCompletion _ | .burnCompletion | .objectBoundary => none
  | .transmitFrameEnd | .noticeResendDue => none

/-! ### What the feed decides

`f` is the feed as it decides and `ring` the band ring that it finds; `t` is the state after the event. -/

/-- The next step: it starts at once, or it waits for the line period of the previous step (R112). -/
def Steps (dir : Direction) (f : Feed) (t : State) : Prop :=
  if f.stepStarted = none then t.feed.inFlight = .step dir ∧ t.feed.called = none
  else t.feed.inFlight = f.inFlight ∧ t.feed.called = some (.step dir)

/-- The burn of the cursor's line: it starts at once with the row of the DRAINING buffer in the head, or it
waits for the line period of the previous burn (R103, R112, R119). -/
def Burns (f : Feed) (t : State) : Prop :=
  t.feed.state = .printing ∧
  if f.burnStarted = none then
    t.feed.inFlight = .burn ∧ t.feed.called = none ∧
    t.feed.headLatch = t.drainingRow t.feed.line ∧
    t.feed.openLine = t.cursor?.map fun c => { page := c.page, line := c.line, copyEnded := false }
  else t.feed.inFlight = f.inFlight ∧ t.feed.called = some .burn

/-- PRINTING at a boundary: the line is burned from the buffer held, or once the band request is granted;
a request that is not granted waits, and the feed stalls and counts it (R102, R119, R120). -/
def Prints (f : Feed) (ring : BandRing) (t : State) : Prop :=
  (ring.draining?.isSome = true → Burns f t) ∧
  (ring.draining? = none → ∀ tag ∈ t.cursorTag?,
    match ring.oldestReady? tag with
    | some i => Burns f t ∧ t.ring.stateOf i = .draining tag
    | none =>
      t.feed.state = .stalled ∧ t.feed.inFlight = f.inFlight ∧ t.ring.waiting = some tag ∧
      ∀ p, t.page? tag.page = some p → p.state = .active → 1 ≤ p.stalls)

/-- SEEK from its beginning, which is empty in CONTINUOUS mode (R117, R118). -/
def Seeks (f : Feed) (ring : BandRing) (t : State) : Prop :=
  if t.settings.mediaMode = .continuous then Prints f ring t
  else t.feed.state = .seekSearch 0 t.settings.searchLimit ∧ Steps .forward f t

/-- PAUSED with this cause and context, told by a FEED_STATE notice (R113, R138, R139, R152). -/
def Pauses (cause : PauseCause) (context : PausedContext) (t : State) : Prop :=
  t.feed.state = .paused cause context ∧ t.feed.edge = none ∧ t.feed.called = none ∧
  ∃ n ∈ t.notices.entries, n.content = .feedState t.feedReport

/-- PAUSED with a context that measures a park: an invalid position makes the parked distance 0 (R143). -/
def PausesParked (cause : PauseCause) (context : PausedContext) (valid : Bool) (parked : Nat)
    (t : State) : Prop :=
  Pauses cause context t ∧ t.feed.parked = if valid then parked else 0

/-- The feed starts: it begins the head page and goes to BACKFEED, SEEK or PRINTING (R114), or with a
condition in the set to PAUSED, moving no media (R115). -/
def Started (f : Feed) (ring : BandRing) (t : State) : Prop :=
  (∀ head ∈ t.headPage?, head.state ≠ .queued) ∧ t.feed.line = f.line ∧
  match t.conditions.cause? with
  | some cause =>
    t.feed.inFlight = f.inFlight ∧
    if f.parked = 0 then
      t.feed.parked = 0 ∧ ∀ cursor ∈ t.cursor?, Pauses cause (.seek cursor.page cursor.copy) t
    else
      PausesParked cause (.backfeed f.parked (!t.conditions.mediaOut)) (!t.conditions.mediaOut) f.parked t
  | none =>
    t.feed.parked = f.parked ∧
    if f.parked = 0 then Seeks f ring t else t.feed.state = .backfeed ∧ Steps .reverse f t

/-- The start decision: a start when the hold flag is clear and a page is queued, and otherwise IDLE
(R114, R131). -/
def StartsOrIdles (f : Feed) (ring : BandRing) (t : State) : Prop :=
  if t.feed.hold = true ∨ t.composer.queue = [] then
    t.feed.state = .idle ∧ t.feed.edge = none ∧ t.feed.inFlight = f.inFlight ∧ t.feed.called = none ∧
    t.feed.parked = f.parked
  else Started f ring t

/-- TRAILING for the tear offset, which with 0 passes to IDLE at once (R124). -/
def Trails (f : Feed) (ring : BandRing) (t : State) : Prop :=
  if t.settings.tearOffset = 0 then StartsOrIdles f ring t
  else
    t.feed.state = .trailing t.settings.tearOffset ∧ Steps .forward f t ∧ t.feed.parked = f.parked

/-- The running FEED or CALIBRATE is answered (R127, R129, R186): its reply is the newest of the cache. -/
def MotionAnswered (key : RequestKey) (status : Status) (results : Results) (s t : State) : Prop :=
  ∃ entry : CacheEntry, t.link.cache = cacheReply s.link.cache entry ∧ entry.key = key ∧
    entry.frame.status = status ∧ entry.frame.results = results

/-- The host motion, which had come to `motion`, has ended with this status, and the start decision is taken
(R127, R129). -/
def MotionEnded (status : Status) (motion : FeedState) (f : Feed) (s t : State) : Prop :=
  t.feed.state.motionKey? = none ∧ StartsOrIdles f s.ring t ∧
  match motion with
  | .moving key _ done => MotionAnswered key status (.feed done) s t
  | .calibrating key _ _ moved _ =>
    MotionAnswered key status (.calibrate t.feed.pitch (some moved)) s t
  | .idle | .backfeed | .seekSearch _ _ | .seekOffset _ | .printing | .stalled | .trailing _
  | .paused _ _ => True

/-! ### Data formats -/

/-- The bytes of a glyph's bitmap (R162). -/
def Glyph.size (g : Glyph) : Nat := g.height * ((g.width + 7) / 8)

/-- The data of a FONT obeys the format and reads as this glyph directory (R162, R163, R164). -/
def FontFormat (data : List Byte) (font : FontInfo) : Prop :=
  let count := font.glyphs.length
  1 ≤ count ∧ count ≤ 256 ∧
  data.length = 4 + 6 * count + (font.glyphs.map Glyph.size).sum ∧
  data.take 2 = le16 count ∧
  (data.drop 2).take 2 = (match font.substitute with | some code => [code, 0] | none => [0xFF, 0xFF]) ∧
  (∀ i g, font.glyphs[i]? = some g →
    (g.width ≤ 255 ∧ g.height ≤ 255 ∧ g.advance ≤ 255 ∧ (-128 ≤ g.bearing ∧ g.bearing ≤ 127) ∧
      -128 ≤ g.ascent ∧ g.ascent ≤ 127) ∧
    (data.drop (4 + 6 * i)).take 6 =
      [g.code, byteOf g.width, byteOf g.height, byteOf (g.bearing % 256).toNat,
        byteOf (g.ascent % 256).toNat, byteOf g.advance] ∧
    g.offset = 4 + 6 * count + ((font.glyphs.take i).map Glyph.size).sum) ∧
  (font.glyphs.map fun g => g.code.toNat).Pairwise (fun a b => a < b) ∧
  ∀ code ∈ font.substitute, code ∈ font.glyphs.map Glyph.code

/-- Check 1 of OBJECT_ADD by the length that the table of R29 gives each kind (R30): the failure, if any. -/
def lengthFailure (p : List Byte) : Option Status :=
  let field (i : Nat) : Nat := (p.getD i 0).toNat
  let exactly (n : Nat) : Option Status := if p.length = n then none else some .badLength
  if p.length < 6 then some .badLength
  else if field 2 = 1 ∨ field 2 = 4 then exactly 14
  else if field 2 = 2 then exactly 16
  else if field 2 = 3 then if p.length < 7 then some .badLength else exactly (7 + 4 * field 6)
  else if field 2 = 6 then if p.length < 15 then some .badLength else exactly (15 + field 14)
  else if field 2 = 5 then
    if p.length < 15 then some .badLength
    else if field 14 = 0 then
      if p.length < 16 then some .badLength else exactly (16 + field 15)
    else if field 14 = 1 then exactly 22
    else some .badValue
  else some .badValue

/-! ### Payloads as a host builds them -/

/-- A 4-byte field, least significant byte first. -/
def le32 (n : Nat) : List Byte := le16 n ++ le16 (n / 65536)

/-- A signed 2-byte field in two's complement (R29). -/
def wire16 (x : Int) : List Byte := le16 (x % 65536).toNat

/-- A signed byte in two's complement (R29). -/
def wire8 (x : Int) : List Byte := [byteOf (x % 256).toNat]

/-- The code of a media mode (R207). -/
def modeCode : MediaMode → Nat
  | .continuous => 0
  | .gap => 1
  | .mark => 2

/-- The value of a configuration field, as CONFIG would name it (R207). -/
def Field.value (c : Settings) : Field → Nat
  | .printWidth => c.printWidth
  | .mediaMode => modeCode c.mediaMode
  | .topOffset => c.topOffset
  | .tearOffset => c.tearOffset
  | .searchLimit => c.searchLimit
  | .lineRate => c.lineRate
  | .resendInterval => c.resendInterval

/-- The payload of a CONFIG that names these fields with these values (R208). -/
def configPayload (fields : List (Field × Nat)) : List Byte :=
  fields.flatMap fun e => byteOf e.1.code :: le16 e.2

/-- The code of a mix (R29). -/
def mixCode : Mix → Byte
  | .set => 0
  | .clear => 1
  | .invert => 2

/-- The code of an end mode (R29). -/
def endsCode : EndMode → Byte
  | .all => 0
  | .skipFirst => 1
  | .skipLast => 2
  | .skipBoth => 3

/-- The code of an orientation (R29). -/
def turnCode : Orientation → Byte
  | .deg0 => 0
  | .deg90 => 1
  | .deg180 => 2
  | .deg270 => 3

/-- The code of a flag (R29). -/
def flagCode (b : Bool) : Byte := if b then 1 else 0

/-- The kind code of a shape (R29). -/
def kindCode : Shape → Byte
  | .rule _ _ _ _ => 1
  | .stroke _ _ _ _ _ _ => 2
  | .fill _ => 3
  | .place _ _ _ _ _ => 4
  | .text _ _ _ _ _ _ => 5
  | .counter _ _ _ _ _ _ _ _ => 5
  | .bars _ _ _ _ _ _ => 6

/-- The fields of a shape from offset 6 on, by the layout table of R29. -/
def shapeBytes : Shape → List Byte
  | .rule x y w h => wire16 x ++ wire16 y ++ le16 w ++ le16 h
  | .stroke x0 y0 x1 y1 t ends =>
    wire16 x0 ++ wire16 y0 ++ wire16 x1 ++ wire16 y1 ++ [byteOf t, endsCode ends]
  | .fill vs => byteOf vs.length :: vs.flatMap fun v => wire16 v.1 ++ wire16 v.2
  | .place bitmap x y o whitens =>
    le16 bitmap ++ wire16 x ++ wire16 y ++ [turnCode o, flagCode whitens]
  | .text font x y o sp codes =>
    le16 font ++ wire16 x ++ wire16 y ++ [turnCode o] ++ wire8 sp ++ [0, byteOf codes.length] ++ codes
  | .counter font x y o sp start step digits =>
    le16 font ++ wire16 x ++ wire16 y ++ [turnCode o] ++ wire8 sp ++ [1] ++ le32 start ++
      wire16 step ++ [byteOf digits]
  | .bars x y height m along widths =>
    wire16 x ++ wire16 y ++ le16 height ++ [byteOf m, flagCode along, byteOf widths.length] ++
      widths.map byteOf

/-- The OBJECT_ADD payload of an object (R29). -/
def objectPayload (o : CheckedObject) : List Byte :=
  le16 o.page ++ [kindCode o.shape, mixCode o.mix] ++ le16 o.source ++ shapeBytes o.shape

/-- The coordinates of R28. -/
abbrev OnSheet (n : Int) : Prop := -8192 ≤ n ∧ n ≤ 24575

/-- The ranges of R31 to R37 for the fields of a shape. -/
abbrev ShapeInRange : Shape → Prop
  | .rule x y w h => OnSheet x ∧ OnSheet y ∧ (1 ≤ w ∧ w ≤ 16384) ∧ (1 ≤ h ∧ h ≤ 16384)
  | .stroke x0 y0 x1 y1 t _ => OnSheet x0 ∧ OnSheet y0 ∧ OnSheet x1 ∧ OnSheet y1 ∧ 1 ≤ t ∧ t ≤ 8
  | .fill vs => (3 ≤ vs.length ∧ vs.length ≤ 32) ∧ ∀ v ∈ vs, OnSheet v.1 ∧ OnSheet v.2
  | .place bitmap x y _ _ => (1 ≤ bitmap ∧ bitmap ≤ 65535) ∧ OnSheet x ∧ OnSheet y
  | .text font x y _ sp codes =>
    (1 ≤ font ∧ font ≤ 65535) ∧ OnSheet x ∧ OnSheet y ∧ (-16 ≤ sp ∧ sp ≤ 64) ∧
      1 ≤ codes.length ∧ codes.length ≤ 64
  | .counter font x y _ sp start step digits =>
    (1 ≤ font ∧ font ≤ 65535) ∧ OnSheet x ∧ OnSheet y ∧ (-16 ≤ sp ∧ sp ≤ 64) ∧ start ≤ 999999999 ∧
      (-9999 ≤ step ∧ step ≤ 9999) ∧ 1 ≤ digits ∧ digits ≤ 10
  | .bars x y height m _ widths =>
    OnSheet x ∧ OnSheet y ∧ (1 ≤ height ∧ height ≤ 16384) ∧ (1 ≤ m ∧ m ≤ 16) ∧
      (1 ≤ widths.length ∧ widths.length ≤ 128) ∧ ∀ w ∈ widths, 1 ≤ w ∧ w ≤ 15

/-- PLACE and TEXT have no source (R27). -/
abbrev SourceAllowed (source : Nat) : Shape → Prop
  | .place _ _ _ _ _ => source = 0
  | .text _ _ _ _ _ _ => source = 0
  | .counter _ _ _ _ _ _ _ _ => source = 0
  | .rule _ _ _ _ => source ≤ 65535
  | .stroke _ _ _ _ _ _ => source ≤ 65535
  | .fill _ => source ≤ 65535
  | .bars _ _ _ _ _ _ => source ≤ 65535

/-! ### Runs of commands -/

/-- The commands of a list executed one after another. -/
def runCommands : List Instr → State → Host.Outcome State Fault Refusal
  | [], s => .next s
  | c :: rest, s =>
    match exec c s with
    | .next t => runCommands rest t
    | .fault r => .fault r
    | .refused r => .refused r

end Sys2Proof.Machine
end

