-- ==== Sys2Proof/Certificates/Slice0/Obligations.lean ====
section
/-! DEFINITION. The statements about the LB420, for the provers. -/

open Sys2Proof Sys2Proof.Machine

/-! ### The queue of commands, start-up and the reset line -/

/-- A step executes the command at the front of the queue on the state with the queue's rest. With none
waiting, time passes while the part runs and a free transmitter may choose, and a part that does not run
stands still: that is the model's choice (log 8). -/
def Obligations.StepRunsTheFrontCommand : Prop :=
  (∀ (c : Instr) (rest : List Instr) (s : State), s.pending = c :: rest →
    step s = exec c (s.withPending rest)) ∧
  ∀ s : State, s.pending = [] →
    (s.power ≠ .running → step s = .next s) ∧
    (s.power = .running → ∃ t, step s = .next t ∧ t.clock = s.clock + 1000 ∧
      RequestKeeps [.clock] s t ∧
      (s.link.tx.isSome = true → t.link = s.link ∧ t.notices = s.notices))

/-- START_UP in every state and with every level of the straps and the sensors (R204): the power-on values of
each block, the rate of the straps, the condition set of the first samples, READY with its cause as the only
notice and the first frame sent, and the receiver open. That the free transmitter has begun READY within this
event is deduced (log 21). What the levels are at `State.reset` is the model's choice (log 6). The clock is
the model's own (log 7), and that it begins at 0, and that START_UP does all this from every state, are its
choice (log 10). -/
def Obligations.StartUpLoadsPowerOnValues : Prop :=
  ∀ (cause : StartCause) (rate1 rate0 : Level) (coverClosed mediaPresent : Bool) (s : State),
    ∃ t, exec (.startUp cause rate1 rate0 coverClosed mediaPresent) s = .next t ∧
      let ready : NoticeContent :=
        .ready (match cause with | .power => .power | .line => .line) (Config.identity t.link.rate)
      t.power = .running ∧ t.clock = 0 ∧
      t.link.rate = (match rate1, rate0 with
        | .low, .low => .baud57600
        | .low, .high => .baud115200
        | .high, .low => .baud230400
        | .high, .high => .baud460800) ∧
      t.composer.pages = [] ∧ t.composer.queue = [] ∧ t.composer.lastId = 0 ∧
      t.composer.freeObjects = 2048 ∧ t.composer.freeElements = 8192 ∧ t.composer.freeLinks = 6144 ∧
      t.assets.table = [] ∧ t.assets.freeBlocks = 3072 ∧
      (∀ i, t.ring.stateOf i = .free) ∧ t.ring.order = [] ∧ t.ring.waiting = none ∧ t.engine = none ∧
      t.feed.state = .idle ∧ t.feed.inFlight = .none ∧ t.feed.parked = 0 ∧ t.feed.hold = false ∧
      t.feed.pitch = 0 ∧ t.feed.edge = none ∧ t.feed.pending.any = false ∧ t.cursor? = none ∧
      t.settings.printWidth = 832 ∧ t.settings.mediaMode = .gap ∧ t.settings.topOffset = 0 ∧
      t.settings.tearOffset = 96 ∧ t.settings.searchLimit = 4096 ∧ t.settings.lineRate = 800 ∧
      t.settings.resendInterval = 250 ∧
      t.conditions = { coverOpen := !coverClosed, mediaOut := !mediaPresent } ∧
      t.notices.entries =
        [{ number := 0, revision := 0, sent := true, lastSending := some 0, content := ready }] ∧
      t.notices.lastNumber = 0 ∧
      t.link.tx = some (.notice { number := 0, revision := 0, content := ready }) ∧
      t.link.receiver.phase = .hunt ∧ t.pending = s.pending

/-- The link after power-on and after the reset line, and a link whose receiver is CLOSED (R191): nothing
is held, the receiver hunts, and the transmitter, free, has begun READY as its first frame (R188, R204; that
it has within this event is deduced, log 21). That the receiver is CLOSED from RESET_LINE_ASSERT and from
SUPPLY_LOSS on is the model's choice (log 10). -/
def Obligations.LinkAfterStartUpAndWhileClosed : Prop :=
  (∀ (cause : StartCause) (rate1 rate0 : Level) (coverClosed mediaPresent : Bool) (s : State),
    ∃ t, exec (.startUp cause rate1 rate0 coverClosed mediaPresent) s = .next t ∧
      t.notices.entries.map (fun n => n.content.kind) = [.ready] ∧
      t.link.receiver.phase = .hunt ∧ t.link.receiver.held = [] ∧ t.link.slots = [] ∧
      t.link.cache = [] ∧ t.link.replies = [] ∧ t.link.crcErrors = 0 ∧
      (∃ frame, t.link.tx = some (.notice frame) ∧ frame.content.kind = .ready) ∧
      t.link.headerErrors = 0 ∧ t.link.timeouts = 0 ∧
      t.link.rate = (match rate1, rate0 with
        | .low, .low => .baud57600
        | .low, .high => .baud115200
        | .high, .low => .baud230400
        | .high, .high => .baud460800)) ∧
  (∀ s : State, s.power ≠ .off →
    ∃ t, exec .resetLineAssert s = .next t ∧ t.link.receiver.phase = .closed) ∧
  (∀ s : State, ∃ t, exec .supplyLoss s = .next t ∧ t.link.receiver.phase = .closed) ∧
  ∀ s : State, s.link.receiver.phase = .closed →
    (∀ (c : Instr) (rq : Request), requestFor c = some rq → exec c s = .next s) ∧
    ∀ (b : Byte) (stopBit : Level),
      exec (.byteReceived b stopBit) s = .next s ∧ exec (.headerError b) s = .next s ∧
      exec (.frameComplete b) s = .next s

/-- RESET_LINE_ASSERT and SUPPLY_LOSS (R204, R170): what is in flight is abandoned, the outputs are
inactive, and nothing of any block is kept. That each block then already holds its power-on values, and that
a part without supply ignores its reset line, are the model's choice (log 10). -/
def Obligations.ResetLineAndSupplyLossClear : Prop :=
  ∀ s : State,
    let abandoned (t : State) : Prop :=
      t.motorEnabled = false ∧ t.burnStrobe = false ∧ t.transmitIdle = true ∧
      t.feed.inFlight = .none ∧ t.feed.called = none ∧ t.feed.openLine = none ∧ t.link.tx = none ∧
      t.engine = none
    let cleared (t : State) : Prop :=
      t.feed.state = .idle ∧ t.feed.pending.any = false ∧ t.feed.line = 0 ∧ t.feed.edge = none ∧
      t.feed.parked = 0 ∧ t.feed.pitch = 0 ∧ t.feed.hold = false ∧
      t.composer.pages = [] ∧ t.composer.queue = [] ∧ t.composer.lastId = 0 ∧
      t.composer.freeObjects = 2048 ∧ t.composer.freeElements = 8192 ∧ t.composer.freeLinks = 6144 ∧
      t.assets.table = [] ∧ t.assets.freeBlocks = 3072 ∧
      (∀ i, t.ring.stateOf i = .free) ∧ t.ring.order = [] ∧ t.ring.waiting = none ∧
      t.notices.entries = [] ∧ t.link.slots = [] ∧ t.link.cache = [] ∧ t.link.replies = [] ∧
      t.link.receiver.held = [] ∧ t.link.crcErrors = 0 ∧ t.link.headerErrors = 0 ∧
      t.link.timeouts = 0 ∧ t.settings = Config.defaults
    (s.power = .off → exec .resetLineAssert s = .next s) ∧
    (s.power ≠ .off → ∃ t, exec .resetLineAssert s = .next t ∧ t.power = .heldInReset ∧
      abandoned t ∧ cleared t ∧ t.pending = s.pending) ∧
    ∃ t, exec .supplyLoss s = .next t ∧ t.power = .off ∧
      abandoned t ∧ cleared t ∧ t.pending = s.pending

/-- A part that is off or held in reset takes no command but START_UP, RESET_LINE_ASSERT and SUPPLY_LOSS.
That is the model's choice (log 10): R204 says it of the bytes on HRX, of the burn and of the step. -/
def Obligations.NothingActsWithoutPower : Prop :=
  ∀ (c : Instr) (s : State), s.power ≠ .running →
    (∀ cause rate1 rate0 coverClosed mediaPresent,
      c ≠ .startUp cause rate1 rate0 coverClosed mediaPresent) →
    c ≠ .resetLineAssert → c ≠ .supplyLoss → exec c s = .next s

/-! ### The receiver -/

/-- A byte by the receiver's state (R173, R177): a character with a low stop bit is dropped, HUNT waits
for SYNC, and the other states keep the byte and restart the inter-byte time. -/
def Obligations.ReceiverTakesBytes : Prop :=
  ∀ (b : Byte) (s : State), s.power = .running →
    let held := s.link.receiver.held ++ [b]
    let after (phase : ReceiverPhase) (kept : List Byte) : Host.Outcome State Fault Refusal :=
      .next (s.withLink { s.link with
        receiver := { phase := phase, held := kept, lastByteAt := s.clock } })
    exec (.byteReceived b .low) s = .next s ∧
    (s.link.receiver.phase = .hunt → b ≠ 0xA7 → exec (.byteReceived b .high) s = .next s) ∧
    (s.link.receiver.phase = .hunt → b = 0xA7 →
      exec (.byteReceived b .high) s = after .header [0xA7]) ∧
    (s.link.receiver.phase = .header → headerBad held = false →
      exec (.byteReceived b .high) s =
        after (if held.length < 6 then .header else if headerLength held = 0 then .check else .payload)
          held) ∧
    (s.link.receiver.phase = .payload →
      exec (.byteReceived b .high) s =
        after (if held.length = 6 + headerLength held then .check else .payload) held) ∧
    (s.link.receiver.phase = .check → held.length ≠ 8 + headerLength held →
      exec (.byteReceived b .high) s = after .check held)

/-- HEADER_ERROR (R178): the error is counted, the SYNC dropped, and the receiver hunts through the bytes
it holds. It keeps the bytes from the first SYNC on that starts no header error, in the state that they give
as header bytes, and each SYNC passed over is one more error. With none to keep it is in HUNT. -/
def Obligations.HeaderErrorCountsAndHunts : Prop :=
  ∀ (b : Byte) (s : State), s.power = .running → s.link.receiver.phase = .header →
    headerBad (s.link.receiver.held ++ [b]) = true →
    let hunted := (s.link.receiver.held ++ [b]).drop 1
    ∃ t passed kept, exec (.headerError b) s = .next t ∧ Keeps [.link] s t ∧
      hunted = passed ++ kept ∧
      t.link = { s.link with
        receiver := { phase := t.link.receiver.phase, held := kept, lastByteAt := s.clock },
        headerErrors := min 65535 (s.link.headerErrors + 1 + passed.count 0xA7) } ∧
      (∀ front rest, hunted = front ++ (0xA7 :: rest) → front.length < passed.length →
        headerBad (0xA7 :: rest) = true) ∧
      (kept ≠ [] → kept.head? = some 0xA7 ∧ headerBad kept = false) ∧
      t.link.receiver.phase =
        if kept = [] then .hunt
        else if kept.length < 6 then .header
        else if headerLength kept = 0 then .check else .payload

/-- INTER_BYTE_TIMEOUT (R180): inside a frame it counts and discards the frame; in HUNT and CLOSED there
is none. Where the clock then stands is the model's choice (log 7). -/
def Obligations.TimeoutDiscardsTheFrame : Prop :=
  ∀ s : State, s.power = .running →
    (s.link.receiver.phase = .hunt ∨ s.link.receiver.phase = .closed →
      exec .interByteTimeout s = .next s) ∧
    (s.link.receiver.phase ≠ .hunt → s.link.receiver.phase ≠ .closed →
      ∃ t, exec .interByteTimeout s = .next t ∧ Keeps [.clock, .link] s t ∧
        t.clock = max s.clock (s.link.receiver.lastByteAt + 20000) ∧
        t.link = { s.link with
          receiver := { s.link.receiver with phase := .hunt, held := [] },
          timeouts := min 65535 (s.link.timeouts + 1) })

/-- A complete frame whose CRC-16 does not match its two CRC bytes is counted and discarded, with no
slot, no effect and no reply (R179). -/
def Obligations.CrcErrorIsCountedAndDiscarded : Prop :=
  ∀ (b : Byte) (s : State), s.power = .running → s.link.receiver.phase = .check →
    let held := s.link.receiver.held ++ [b]
    held.length = 8 + headerLength held →
    held.drop (6 + headerLength held) ≠ be16 (crc16 ((held.drop 1).take (5 + headerLength held))) →
    exec (.frameComplete b) s = .next (s.withLink { s.link with
      receiver := { s.link.receiver with phase := .hunt, held := [] },
      crcErrors := min 65535 (s.link.crcErrors + 1) })

/-- The bytes of a frame are the request: a host that sends, into a receiver in HUNT, the SYNC, the class,
the seq, the kind, the length, the payload and the CRC-16 of any request has exactly the effect of that
request's command, and the receiver is in HUNT again (R174, R176, R177, R182). The last byte may be told
as FRAME_COMPLETE, which completes the frame of a receiver in CHECK and decides its request. -/
def Obligations.FrameBytesAreTheRequest : Prop :=
  ∀ (c : Instr) (rq : Request) (s : State), requestFor c = some rq → rq.payload.length ≤ 1024 →
    s.power = .running → s.link.receiver.phase = .hunt →
    let body := frameBody 0x01 rq.key.seq rq.kind rq.payload
    let crc := crc16 body
    let s' := s.withLink { s.link with
      receiver := { phase := .hunt, held := [], lastByteAt := s.clock } }
    runCommands
        (((0xA7 : Byte) :: body).map (fun b => .byteReceived b .high) ++
          [.byteReceived (byteOf (crc.toNat / 256)) .high, .frameComplete (byteOf crc.toNat)]) s =
      exec c s' ∧
    runCommands ((frameBytes 0x01 rq.key.seq rq.kind rq.payload).map (fun b => .byteReceived b .high)) s =
      exec c s' ∧
    ∀ u : State, u.power = .running → u.link.receiver.phase = .check →
      u.link.receiver.held = ((0xA7 : Byte) :: body) ++ [byteOf (crc.toNat / 256)] →
      ∃ t, exec (.frameComplete (byteOf crc.toNat)) u = .next t ∧
        exec c (u.withLink { u.link with
          receiver := { u.link.receiver with phase := .hunt, held := [] } }) = .next t ∧
        t.link.receiver = { u.link.receiver with phase := .hunt, held := [] } ∧
        t.link.crcErrors ≤ u.link.crcErrors

/-! ### Requests, replies and the transmitter -/

/-- A good frame by what the link holds of its request, while the transmitter is busy (R182, R188): a
cached reply is queued again unless it waits already or four unslotted replies wait, a request in a slot
is discarded, and with no free slot the answer is NO_SLOT. The count `serial` is the model's own. -/
def Obligations.RepeatsAndFullSlots : Prop :=
  ∀ (c : Instr) (rq : Request) (s : State), requestFor c = some rq → s.receives = true →
    s.link.tx.isSome = true →
    (∀ e, s.link.cached? rq.key = some e →
      (s.link.replies.any (WaitingReply.answers rq.key) = true → exec c s = .next s) ∧
      (s.link.replies.any (WaitingReply.answers rq.key) = false →
        s.link.replies.countP WaitingReply.unslotted < 4 →
        exec c s = .next (s.withLink { s.link with
          replies := s.link.replies ++ [.resend rq.key e.frame] })) ∧
      (4 ≤ s.link.replies.countP WaitingReply.unslotted → exec c s = .next s)) ∧
    (s.link.cached? rq.key = none →
      (s.link.inSlot rq.key = true → exec c s = .next s) ∧
      (s.link.inSlot rq.key = false → 4 ≤ s.link.slots.length →
        (s.link.replies.countP WaitingReply.unslotted < 4 →
          exec c s = .next (s.withLink { s.link with
            replies := s.link.replies ++ [.refusal (replyTo rq .noSlot .empty s.link.serial)],
            serial := s.link.serial + 1 })) ∧
        (4 ≤ s.link.replies.countP WaitingReply.unslotted →
          exec c s = .next (s.withLink { s.link with serial := s.link.serial + 1 }))))

/-- A repeat of a request executes nothing, whatever the transmitter is doing (R182, R187): a request that
the cache or a slot knows changes no block but the link's own lists. -/
def Obligations.RepeatsExecuteNothing : Prop :=
  ∀ (c : Instr) (rq : Request) (s : State), requestFor c = some rq → s.receives = true →
    (s.link.cached? rq.key).isSome = true ∨ (choose s).link.inSlot rq.key = true →
    ∃ t, exec c s = .next t ∧ RequestKeeps [] s t ∧ t.link.cache = s.link.cache

/-- UNKNOWN_KIND (R185): a taken request of a kind outside the table is answered by the link. -/
def Obligations.UnknownKindIsAnswered : Prop :=
  ∀ (seq kind : Byte) (payload : List Byte) (s : State), knownKinds.contains kind = false →
    Takes (requestOf seq kind payload) s →
    ∃ t, exec (.unknownKind seq kind payload) s = .next t ∧
      Answered (requestOf seq kind payload) .unknownKind .empty s t ∧ RequestKeeps [] s t

/-- TRANSMIT_FRAME_END (R183, R188, R198): the first waiting reply is sent next and frees its slot; with
none waiting, the first unsent notice; else the first notice whose interval has elapsed; else nothing. -/
def Obligations.TransmitterChoosesNext : Prop :=
  ∀ s : State, s.power = .running → s.link.tx.isSome = true →
    (∀ entry rest frame, s.link.replies = entry :: rest → entry.frame? s.link.slots = some frame →
      exec .transmitFrameEnd s = .next (s.withLink { s.link with
        replies := rest, slots := freeSlot s.link.slots entry, tx := some (.reply frame) })) ∧
    (s.link.replies = [] →
      (∀ before n after, s.notices.entries = before ++ n :: after →
        (s.notices.entries.map Notice.number).Nodup →
        ((∀ m ∈ before, m.sent = true) ∧ n.sent = false) ∨
          ((∀ m ∈ s.notices.entries, m.sent = true) ∧
            (∀ m ∈ before, m.due s.clock (s.settings.resendInterval * 1000) = false) ∧
            n.due s.clock (s.settings.resendInterval * 1000) = true) →
        exec .transmitFrameEnd s =
          .next ((s.withLink { s.link with
              tx := some (.notice { number := n.number, revision := n.revision,
                                    content := n.content }) }).withNotices
            { s.notices with
              entries := before ++ { n with sent := true, lastSending := some s.clock } :: after })) ∧
      ((∀ m ∈ s.notices.entries,
          m.sent = true ∧ m.due s.clock (s.settings.resendInterval * 1000) = false) →
        exec .transmitFrameEnd s = .next (s.withLink { s.link with tx := none })))

/-- NOTICE_RESEND_DUE (R198, R199): with the transmitter free and no reply waiting, the sent notice whose
interval runs out first is sent at that moment. Where the clock then stands is the model's choice
(log 7). -/
def Obligations.ResendSendsTheFirstDue : Prop :=
  ∀ (s : State) (before : List Notice) (n : Notice) (after : List Notice) (t0 : Nat),
    s.power = .running → s.link.tx = none → s.link.replies = [] →
    s.notices.entries = before ++ n :: after → (s.notices.entries.map Notice.number).Nodup →
    (∀ m ∈ s.notices.entries, m.sent = true) → n.lastSending = some t0 →
    (∀ m ∈ before, ∃ t, m.lastSending = some t ∧ t0 < t) →
    (∀ m ∈ after, ∃ t, m.lastSending = some t ∧ t0 ≤ t) →
    s.clock ≤ t0 + s.settings.resendInterval * 1000 →
    ∃ t, exec .noticeResendDue s = .next t ∧ Keeps [.clock, .link, .notices] s t ∧
      t.clock = t0 + s.settings.resendInterval * 1000 ∧
      t.link = { s.link with
        tx := some (.notice { number := n.number, revision := n.revision, content := n.content }) } ∧
      t.notices.entries = before ++ { n with sent := true, lastSending := some t.clock } :: after

/-- Every step keeps the bounds of the link's lists and the account of the slots (R183, R184, R186, R188): at
most 4 slots, cache entries and unslotted replies, and each held slot has its reply waiting in
the list, or belongs to the running FEED or CALIBRATE. -/
def Obligations.SlotsAccountedKept : Prop :=
  ∀ s t : State, LinkBounds s ∧ SlotsAccounted s → step s = .next t →
    LinkBounds t ∧ SlotsAccounted t

/-! ### HELLO, STATUS, CONFIG and RESET -/

/-- HELLO (R202, R205): the identity and the capacities, and with the resend flag every notice unsent. -/
def Obligations.HelloAnswersIdentity : Prop :=
  ∀ (seq flags : Byte) (s : State), flags.toNat ≤ 1 → Takes (requestOf seq 0x01 [flags]) s →
    ∃ t, exec (.hello seq [flags]) s = .next t ∧
      Answered (requestOf seq 0x01 [flags]) .ok
        (.hello flags
          { family := "ULMOWA", partNumber := 420, designLevel := 1, rate := s.link.rate,
            requestSlots := 4, cacheEntries := 4, noticeEntries := 16, noticesInUseAtMost := 10,
            pageEntries := 8, queueLength := 8, objectRecords := 2048, elements := 8192,
            bandLinks := 6144, assetEntries := 96, storageBlocks := 3072, blockSize := 64,
            largestAsset := 65536, largestPiece := 1018, bandBuffers := 4, bandHeight := 64,
            headWidth := 832, shortestPage := 16, longestPage := 16384, fewestCopies := 1,
            mostCopies := 9999 }) s t ∧
      RequestKeeps [] s t ∧ (flags = 1 → ∀ n ∈ t.notices.entries, n.sent = false)

/-- STATUS (R206): one snapshot, with its own slot among the slots held, and no change of state. -/
def Obligations.StatusIsOneSnapshot : Prop :=
  ∀ (seq : Byte) (s : State), Takes (requestOf seq 0x02 []) s →
    ∃ t, exec (.status seq []) s = .next t ∧
      Answered (requestOf seq 0x02 []) .ok
        (.status
          { feed := { state := s.feed.state.name, conditions := s.conditions,
                      paused := s.feed.state.paused?, hold := s.feed.hold },
            parked := s.feed.parked, pitch := s.feed.pitch,
            motionRunning := s.feed.state.motionKey?.isSome, stopPending := s.feed.pending.any,
            pageEntries := s.composer.pages.length,
            openPage := ((s.composer.pages.find? fun p => p.state = .opened).map Page.id).getD 0,
            queue := s.composer.queue, cursor := s.cursor?, freeObjects := s.composer.freeObjects,
            freeElements := s.composer.freeElements, freeLinks := s.composer.freeLinks,
            assetEntries := s.assets.table.length, freeBlocks := s.assets.freeBlocks,
            notices := s.notices.entries.length, crcErrors := s.link.crcErrors,
            headerErrors := s.link.headerErrors, timeouts := s.link.timeouts,
            slotsHeld := (choose s).link.slots.length + 1, settings := s.settings }) s t ∧
      RequestKeeps [] s t

/-- CONFIG (R208, R209): in IDLE, or naming the resend interval alone, and with no change of the width
while the table holds a page, the named fields take their values and the others keep theirs; a new media
mode makes the measured pitch 0. -/
def Obligations.ConfigSetsTheNamedFields : Prop :=
  ∀ (seq : Byte) (fields : List (Field × Nat)) (s : State),
    fields ≠ [] → (fields.map Prod.fst).Nodup → (∀ e ∈ fields, e.1.accepts e.2 = true) →
    (s.feed.state = .idle ∨ ∀ e ∈ fields, e.1 = .resendInterval) →
    (s.composer.pages = [] ∨ ∀ e ∈ fields, e.1 = .printWidth → e.2 = s.settings.printWidth) →
    Takes (requestOf seq 0x03 (configPayload fields)) s →
    ∃ t, exec (.config seq (configPayload fields)) s = .next t ∧
      Answered (requestOf seq 0x03 (configPayload fields)) .ok
        (.config none t.settings (some t.feed.pitch)) s t ∧
      (∀ e ∈ fields, e.1.value t.settings = e.2) ∧
      (∀ f, f ∉ fields.map Prod.fst → f.value t.settings = f.value s.settings) ∧
      t.feed = { s.feed with
        pitch := if t.settings.mediaMode = s.settings.mediaMode then s.feed.pitch else 0 } ∧
      RequestKeeps [.settings, .feed] s t

/-- A CONFIG that is not answered OK changes no field, and its reply carries the fields unchanged
(R208, R209); outside IDLE a feed field is refused WRONG_STATE with the code of the first one named. -/
def Obligations.RefusedConfigChangesNothing : Prop :=
  (∀ (seq : Byte) (payload : List Byte) (s : State), Takes (requestOf seq 0x03 payload) s →
    ∃ t status results, exec (.config seq payload) s = .next t ∧
      Answered (requestOf seq 0x03 payload) status results s t ∧
      (status ≠ .ok →
        RequestKeeps [] s t ∧ ∃ code, results = .config (some code) s.settings none)) ∧
  ∀ (seq : Byte) (before : List (Field × Nat)) (f : Field) (v : Nat) (after : List (Field × Nat))
    (s : State), f ≠ .resendInterval → (∀ e ∈ before, e.1 = .resendInterval) →
    ((before ++ (f, v) :: after).map Prod.fst).Nodup →
    (∀ e ∈ before ++ (f, v) :: after, e.1.accepts e.2 = true) → s.feed.state ≠ .idle →
    Takes (requestOf seq 0x03 (configPayload (before ++ (f, v) :: after))) s →
    ∃ t, exec (.config seq (configPayload (before ++ (f, v) :: after))) s = .next t ∧
      Answered (requestOf seq 0x03 (configPayload (before ++ (f, v) :: after))) .wrongState
        (.config (some f.code) s.settings none) s t ∧ RequestKeeps [] s t

/-- Every field of the configuration stays in its range, whatever the step (R207). -/
def Obligations.SettingsStayInRange : Prop :=
  ∀ s t : State, SettingsInRange s.settings → step s = .next t → SettingsInRange t.settings

/-- RESET(PAGES) (R192, R210, R211): every page goes and the pools are full, every reference is released,
every buffer is voided, PAGE_ENDED notices go, the hold flag is clear, and the feed is IDLE or has the reset
pending; the reply cache, the last id, the configuration, the pitch, the park and the sensors are kept. A host
motion at a line boundary ends in the reset's own event, and its STOPPED reply enters the cache before the
reset's: that order is the model's choice (log 14). No stop is pending on a feed that stands (the motion law
of PrintingLawKept). -/
def Obligations.ResetPagesDiscards : Prop :=
  ∀ (seq : Byte) (s : State), Takes (requestOf seq 0x04 [0]) s →
    (s.feed.pending.any = true → s.feed.standing = false) →
    ∃ t, exec (.resetPages seq) s = .next t ∧
      (∃ cache serial, AnsweredFrom cache serial (requestOf seq 0x04 [0]) .ok
        (.reset .pages s.composer.pages.length) t ∧
        (s.feed.state.motionKey? = none ∨ s.feed.standing = false →
          cache = s.link.cache ∧ serial = s.link.serial) ∧
        ∀ key ∈ s.feed.state.motionKey?, s.feed.standing = true →
          ∃ entry : CacheEntry, cache = cacheReply s.link.cache entry ∧ entry.key = key ∧
            entry.frame.status = .stopped ∧
            (∀ n done, s.feed.state = .moving key n done → entry.frame.results = .feed done) ∧
            ∀ limit count moved found, s.feed.state = .calibrating key limit count moved found →
              entry.frame.results = .calibrate s.feed.pitch (some moved)) ∧
      t.composer = { pages := [], queue := [], lastId := s.composer.lastId, freeObjects := 2048,
                     freeElements := 8192, freeLinks := 6144 } ∧
      t.assets.table =
        (s.assets.table.map fun a => { a with refCount := 0 }).filter
          (fun a => decide (a.state ≠ .doomed)) ∧
      (∀ i, t.ring.stateOf i = .free ∨ ∃ tag, t.ring.stateOf i = .filling tag true) ∧
      t.ring.waiting = none ∧ t.feed.hold = false ∧ t.cursor? = none ∧ t.feed.edge = none ∧
      t.feed.pitch = s.feed.pitch ∧ t.feed.parked = s.feed.parked ∧
      (t.feed.state = .idle ∨ t.feed.state = s.feed.state ∧ t.feed.pending.reset.isSome = true) ∧
      (s.feed.state = .stalled ∨ s.feed.state.paused?.isSome = true → t.feed.state = .idle) ∧
      (∀ n ∈ t.notices.entries, n.content.kind ≠ .pageEnded) ∧
      (∀ n ∈ s.notices.entries, n.content.kind = .ready → n.face ∈ t.notices.entries.map Notice.face) ∧
      Keeps [.link, .notices, .assets, .composer, .ring, .feed] s t ∧ LinkAside s t

/-- RESET(ALL) (R210, R212): the rest of the part returns to its start-up state; the receiver, the rate
and the sensors are kept, READY with cause REQUEST is the only notice, under a number that was not held,
and the reset's reply is the cache's only entry. A host motion at a line boundary ends in the first step of the
reset, before the pitch becomes 0, so the STOPPED reply of a CALIBRATE gives the pitch that was stored (R129,
R211); the reply waits in its slot or is being sent. While the reset waits for a later boundary, the pitch
stays 0 whatever the step (R214). -/
def Obligations.ResetAllRestores : Prop :=
  (∀ s t : State, (s.feed.pending.reset = some .all → s.feed.pitch = 0) → step s = .next t →
    t.feed.pending.reset = some .all → t.feed.pitch = 0) ∧
  ∀ (seq : Byte) (s : State), Takes (requestOf seq 0x04 [1]) s → s.notices.entries.length ≤ 16 →
    ∃ t, exec (.resetAll seq) s = .next t ∧
      (∃ serial, AnsweredFrom [] serial (requestOf seq 0x04 [1]) .ok
        (.reset .all s.composer.pages.length) t) ∧
      t.composer = { pages := [], queue := [], lastId := 0, freeObjects := 2048, freeElements := 8192,
                     freeLinks := 6144 } ∧
      t.assets.table = [] ∧ t.assets.freeBlocks = 3072 ∧ t.settings = Config.defaults ∧
      t.link.crcErrors = 0 ∧ t.link.headerErrors = 0 ∧ t.link.timeouts = 0 ∧
      t.link.receiver = s.link.receiver ∧ t.link.rate = s.link.rate ∧
      (∃ n, t.notices.entries = [n] ∧ n.content = .ready .request (Config.identity s.link.rate) ∧
        n.revision = 0 ∧ n.sent = false ∧ n.number ∉ s.notices.entries.map Notice.number) ∧
      (∀ i, t.ring.stateOf i = .free ∨ ∃ tag, t.ring.stateOf i = .filling tag true) ∧
      t.ring.waiting = none ∧ t.feed.hold = false ∧ t.feed.pitch = 0 ∧ t.feed.edge = none ∧
      (t.feed.state = .idle ∧ t.feed.parked = 0 ∨
        t.feed.state = s.feed.state ∧ t.feed.pending.reset = some .all) ∧
      (SlotsAccounted s → s.feed.pending.any = false → s.feed.standing = true →
        ∀ key ∈ s.feed.state.motionKey?,
          t.feed.state = .idle ∧
          ∃ frame : ReplyFrame, frame.status = .stopped ∧
            (∀ n done, s.feed.state = .moving key n done → frame.results = .feed done) ∧
            (∀ limit count moved found, s.feed.state = .calibrating key limit count moved found →
              frame.results = .calibrate s.feed.pitch (some moved)) ∧
            (t.link.tx = some (.reply frame) ∨
              ∃ slot ∈ t.link.slots, slot.key = key ∧ slot.reply = some frame)) ∧
      Keeps [.settings, .link, .notices, .assets, .composer, .ring, .feed] s t

/-! ### Notices -/

/-- NOTICE_ACK (R21, R200): a number and a revision that match remove the notice, and with a PAGE_ENDED
notice its ENDED page entry; another revision is STALE, another number NOT_FOUND, and neither changes
anything. -/
def Obligations.NoticeAckRemovesOrRefuses : Prop :=
  ∀ (seq number : Byte) (revision : Word16) (s : State),
    let rq := requestOf seq 0x05 (number :: le16 revision.toNat)
    Takes rq s →
    ∃ t, exec (.noticeAck seq (number :: le16 revision.toNat)) s = .next t ∧
      match s.notices.entries.find? (fun n => n.number = number) with
      | none => Answered rq .ok (.noticeAck number .notFound none 0 none) s t ∧ RequestKeeps [] s t
      | some n =>
        if n.revision = revision then
          Answered rq .ok
            (.noticeAck number .removed (some n.content.kind) n.revision n.pageEndedId?) s t ∧
          t.notices.entries.map Notice.face =
            (s.notices.entries.filter fun m => m.number ≠ number).map Notice.face ∧
          t.composer = { s.composer with
            pages := s.composer.pages.filter fun p =>
              !(decide (some p.id = n.pageEndedId?) && decide (p.state = .ended)) } ∧
          Keeps [.link, .notices, .composer] s t
        else
          Answered rq .ok (.noticeAck number .stale (some n.content.kind) n.revision none) s t ∧
          RequestKeeps [] s t

/-- Every step keeps the law of the notice queue (R193, R194, R196): different numbers, one READY, one
FEED_STATE, and one PAGE_ENDED for each ENDED page. -/
def Obligations.NoticeLawKept : Prop :=
  ∀ s t : State, PageLaw s ∧ (∀ p ∈ s.composer.pages, EntryLaw p) ∧ NoticeLaw s → step s = .next t →
    PageLaw t ∧ (∀ p ∈ t.composer.pages, EntryLaw p) ∧ NoticeLaw t

/-! ### Assets -/

/-- ASSET_BEGIN (R154, R156, R157): a new id, geometry that agrees with the kind, room in the table and
enough free blocks create a LOADING asset that holds its blocks at once. -/
def Obligations.AssetBeginReserves : Prop :=
  ∀ (seq : Byte) (id : Nat) (kind : AssetKind) (w h size : Nat) (s : State),
    let code : Byte := match kind with | .bitmap => 1 | .pattern => 2 | .font => 3
    let payload := le16 id ++ [code] ++ le16 w ++ le16 h ++ le32 size
    let need := (size + 63) / 64
    1 ≤ id → id ≤ 65535 → w ≤ 65535 → h ≤ 65535 → geometryAgrees kind w h size = true →
    s.asset? id = none → s.assets.table.length < 96 → need ≤ s.assets.freeBlocks →
    Takes (requestOf seq 0x10 payload) s →
    ∃ t, exec (.assetBegin seq payload) s = .next t ∧
      Answered (requestOf seq 0x10 payload) .ok
        (.assetBegin (some id) need (s.assets.freeBlocks - need)) s t ∧
      t.assets = { table := s.assets.table ++
                     [{ id := id, kind := kind, width := w, height := h, state := .loading,
                        declared := size, data := [], refCount := 0, font := none }],
                   freeBlocks := s.assets.freeBlocks - need } ∧
      RequestKeeps [.assets] s t

/-- ASSET_DATA (R158, R159): the next bytes of a LOADING asset, at the offset it has reached, are
appended; no other asset changes. -/
def Obligations.AssetDataAppends : Prop :=
  ∀ (seq : Byte) (id : Nat) (bytes : List Byte) (a : Asset) (s : State),
    let payload := le16 id ++ le32 a.received ++ bytes
    id ≤ 65535 → bytes ≠ [] → s.asset? id = some a → a.state = .loading → a.declared ≤ 65536 →
    a.received + bytes.length ≤ a.declared → Takes (requestOf seq 0x11 payload) s →
    ∃ t, exec (.assetData seq payload) s = .next t ∧
      Answered (requestOf seq 0x11 payload) .ok
        (.assetData (some id) (some (a.received + bytes.length))) s t ∧
      t.asset? id = some { a with data := a.data ++ bytes } ∧
      (∀ j, j ≠ id → t.asset? j = s.asset? j) ∧ t.assets.freeBlocks = s.assets.freeBlocks ∧
      RequestKeeps [.assets] s t

/-- ASSET_END (R160, R162 to R164): a LOADING asset with all its bytes and a matching CRC-32 becomes READY,
a FONT with its glyph directory; with another CRC-32, or as a FONT in no good format, it is removed and
its blocks are free. A FONT reads as a directory exactly when its bytes obey the font format with it. -/
def Obligations.AssetEndReadiesOrRemoves : Prop :=
  (∀ (data : List Byte) (font : FontInfo), parseFont data = some font ↔ FontFormat data font) ∧
  ∀ (seq : Byte) (id crc : Nat) (a : Asset) (s : State),
    let rq := requestOf seq 0x12 (le16 id ++ le32 crc)
    id ≤ 65535 → crc < 4294967296 → s.asset? id = some a → a.state = .loading →
    a.received = a.declared → (s.assets.table.map Asset.id).Nodup → Takes rq s →
    ∃ t, exec (.assetEnd seq (le16 id ++ le32 crc)) s = .next t ∧
      RequestKeeps [.assets] s t ∧ (∀ j, j ≠ id → t.asset? j = s.asset? j) ∧
      (if (crc32 a.data).toNat = crc then
        match a.kind, parseFont a.data with
        | .font, some font =>
          t.asset? id = some { a with state := .ready, font := some font } ∧
          t.assets.freeBlocks = s.assets.freeBlocks ∧
          Answered rq .ok (.assetEnd (some id) (some a.received) (some font.glyphs.length)) s t
        | .font, none =>
          t.asset? id = none ∧ t.assets.freeBlocks = s.assets.freeBlocks + (a.declared + 63) / 64 ∧
          Answered rq .checkFailedFormat (.assetEnd (some id) (some a.received) none) s t
        | .bitmap, _ =>
          t.asset? id = some { a with state := .ready, font := none } ∧
          t.assets.freeBlocks = s.assets.freeBlocks ∧
          Answered rq .ok (.assetEnd (some id) (some a.received) none) s t
        | .pattern, _ =>
          t.asset? id = some { a with state := .ready, font := none } ∧
          t.assets.freeBlocks = s.assets.freeBlocks ∧
          Answered rq .ok (.assetEnd (some id) (some a.received) none) s t
      else
        t.asset? id = none ∧ t.assets.freeBlocks = s.assets.freeBlocks + (a.declared + 63) / 64 ∧
        Answered rq .checkFailedCrc (.assetEnd (some id) (some a.received) none) s t)

/-- ASSET_DROP by the state and the reference count it finds (R165): removed at once, made DOOMED, or
refused. -/
def Obligations.AssetDropRemovesOrDooms : Prop :=
  ∀ (seq : Byte) (id : Nat) (a : Asset) (s : State),
    let rq := requestOf seq 0x13 (le16 id)
    id ≤ 65535 → s.asset? id = some a → (s.assets.table.map Asset.id).Nodup → Takes rq s →
    ∃ t, exec (.assetDrop seq (le16 id)) s = .next t ∧
      RequestKeeps [.assets] s t ∧ (∀ j, j ≠ id → t.asset? j = s.asset? j) ∧
      (a.state = .loading ∨ a.state = .ready ∧ a.refCount = 0 →
        t.asset? id = none ∧ t.assets.freeBlocks = s.assets.freeBlocks + (a.declared + 63) / 64 ∧
        Answered rq .ok (.assetDrop (some id) (some .removed) (some 0)) s t) ∧
      (a.state = .ready → 0 < a.refCount →
        t.asset? id = some { a with state := .doomed } ∧
        t.assets.freeBlocks = s.assets.freeBlocks ∧
        Answered rq .ok (.assetDrop (some id) (some .doomed) (some a.refCount)) s t) ∧
      (a.state = .doomed → t.assets = s.assets ∧
        Answered rq .wrongState (.assetDrop (some id) (some .doomed) (some a.refCount)) s t)

/-- ASSET_QUERY (R169): the record of one asset, and no change of state. -/
def Obligations.AssetQueryReports : Prop :=
  ∀ (seq : Byte) (id : Nat) (a : Asset) (s : State), id ≤ 65535 → s.asset? id = some a →
    Takes (requestOf seq 0x14 (le16 id)) s →
    ∃ t, exec (.assetQuery seq (le16 id)) s = .next t ∧
      Answered (requestOf seq 0x14 (le16 id)) .ok
        (.assetQuery
          { id := a.id, kind := a.kind, state := a.state, width := a.width, height := a.height,
            declared := a.declared, received := a.data.length, blocks := (a.declared + 63) / 64,
            refCount := a.refCount,
            font := a.font.map fun f => (f.glyphs.length, f.substitute) }) s t ∧
      RequestKeeps [] s t

/-- Every step keeps the law of the asset table: different ids, and the blocks held and free together
3072 (R153, R154). -/
def Obligations.AssetLawKept : Prop :=
  ∀ s t : State, AssetLaw s → step s = .next t → AssetLaw t

/-- Every step keeps the law of reference counts (R165, R166, R168): an asset's count is the number of
stored objects that name it, over all pages. -/
def Obligations.ReferenceLawKept : Prop :=
  ∀ s t : State,
    PageLaw s ∧ (∀ p ∈ s.composer.pages, EntryLaw p) ∧ AssetLaw s ∧ ReferenceLaw s →
    step s = .next t →
    PageLaw t ∧ (∀ p ∈ t.composer.pages, EntryLaw p) ∧ AssetLaw t ∧ ReferenceLaw t

/-! ### Pages -/

/-- PAGE_OPEN (R1, R6): a length and copies in range, no OPEN page and a free entry create an OPEN page
with the configured width and one empty list per band. -/
def Obligations.PageOpenCreates : Prop :=
  ∀ (seq : Byte) (length copies : Nat) (s : State),
    let rq := requestOf seq 0x20 (le16 length ++ le16 copies)
    let bands := (length + 63) / 64
    16 ≤ length → length ≤ 16384 → 1 ≤ copies → copies ≤ 9999 →
    (∀ p ∈ s.composer.pages, p.state ≠ .opened) → s.composer.pages.length < 8 → Takes rq s →
    ∃ t, exec (.pageOpen seq (le16 length ++ le16 copies)) s = .next t ∧
      Answered rq .ok (.pageOpen s.composer.newId s.settings.printWidth bands) s t ∧
      t.composer = { s.composer with
        lastId := s.composer.newId,
        pages := s.composer.pages ++
          [{ id := s.composer.newId, state := .opened, width := s.settings.printWidth,
             length := length, bandCount := bands, copiesOrdered := copies, copiesDone := 0,
             reprints := 0, stalls := 0, edges := 0, culled := 0, substitutions := 0, skipped := 0,
             storedCount := 0, objects := [], bandLists := List.replicate bands [], ended := none }] } ∧
      RequestKeeps [.composer] s t

/-- The id of the next page (R2): the first after the last id that no entry holds, from 1 to 65535 and
round again. -/
def Obligations.NewIdIsTheFirstFree : Prop :=
  ∀ c : Composer, c.lastId ≤ 65535 → c.pages.length ≤ 8 →
    1 ≤ c.newId ∧ c.newId ≤ 65535 ∧ c.newId ∉ c.pages.map Page.id ∧
    ∃ k ≤ 8, c.newId = times nextId (k + 1) c.lastId ∧
      ∀ j < k, times nextId (j + 1) c.lastId ∈ c.pages.map Page.id

/-- An OBJECT_ADD payload reads back as the object that a host laid out by the table of R29, with every
field at every value of its range. -/
def Obligations.ObjectPayloadReadsBack : Prop :=
  ∀ o : CheckedObject, o.page ≤ 65535 → ShapeInRange o.shape → SourceAllowed o.source o.shape →
    ∃ raw, parseObject (objectPayload o) = .ok raw ∧ raw.check = some o

/-- OBJECT_ADD of an object that passes the first six checks (R25, R42, R61 to R63): the object is stored
with the next number, its number joins the lists of exactly the bands it touches, the pools give its
records, its asset is lent, and nothing else changes. -/
def Obligations.ObjectAddStores : Prop :=
  ∀ (seq : Byte) (o : CheckedObject) (page : Page) (asset : Option Asset) (s : State),
    let rq := requestOf seq 0x21 (objectPayload o)
    let whole := o.shape.box asset
    let box := whole.clip page.width page.length
    let bands := bandOfRow (box.r1 - 1) + 1 - bandOfRow box.r0
    let stored : StoredObject :=
      { number := page.storedCount + 1, mix := o.mix, source := o.source, shape := o.shape, box := box,
        firstBand := bandOfRow box.r0, bandsTouched := bands }
    let warnings := o.shape.warnings asset
    o.page ≤ 65535 → ShapeInRange o.shape → SourceAllowed o.source o.shape →
    s.page? o.page = some page → page.state = .opened → checkAsset o s = .ok asset →
    box.isEmpty = false → 1 ≤ s.composer.freeObjects →
    o.shape.elements ≤ s.composer.freeElements → bands ≤ s.composer.freeLinks → Takes rq s →
    ∃ t, exec (.objectAdd seq (objectPayload o)) s = .next t ∧
      Answered rq .ok
        (.objectAdd
          { failedCheck := 0, number := stored.number,
            clippedFlag := clippedFlag whole page.width page.length, culledFlag := false,
            firstBand := stored.firstBand, bandsTouched := bands, substitutions := warnings.1,
            skipped := warnings.2 }) s t ∧
      t.page? o.page = some { page with
        storedCount := page.storedCount + 1, objects := page.objects ++ [stored],
        substitutions := min 65535 (page.substitutions + warnings.1),
        skipped := min 65535 (page.skipped + warnings.2),
        bandLists := page.bandLists.mapIdx fun b list =>
          if stored.touches b then list ++ [stored.number] else list } ∧
      (∀ id, id ≠ o.page → t.page? id = s.page? id) ∧
      t.composer.queue = s.composer.queue ∧ t.composer.lastId = s.composer.lastId ∧
      t.composer.freeObjects = s.composer.freeObjects - 1 ∧
      t.composer.freeElements = s.composer.freeElements - o.shape.elements ∧
      t.composer.freeLinks = s.composer.freeLinks - bands ∧
      t.assets.table = s.assets.table.map (fun a =>
        if o.shape.assetId? o.source = some a.id then { a with refCount := a.refCount + 1 } else a) ∧
      t.assets.freeBlocks = s.assets.freeBlocks ∧ RequestKeeps [.composer, .assets] s t

/-- OBJECT_ADD of an object that is not stored. One whose clipped box is empty is counted as culled, answered
OK with CULLED and number 0 (R51). One that fails a check is refused with that check's status and number and
changes nothing (R25, R26, R60): a length that its kind does not have (R29, R30), a field out of its range
(R38), a page that is not there or not OPEN (R39), an asset that is not there, not READY or of another kind
(R40), and a pool that falls short, in the order of the pools (R59). -/
def Obligations.ObjectAddCulls : Prop :=
  (∀ (seq : Byte) (payload : List Byte) (s : State),
    let rq := requestOf seq 0x21 payload
    let refused (check : Nat) (status : Status) : Prop :=
      ∃ t, exec (.objectAdd seq payload) s = .next t ∧
        Answered rq status
          (.objectAdd
            { failedCheck := check, number := 0, clippedFlag := false, culledFlag := false,
              firstBand := 0, bandsTouched := 0, substitutions := 0, skipped := 0 }) s t ∧
        RequestKeeps [] s t
    Takes rq s →
    (∀ status, lengthFailure payload = some status → refused 1 status) ∧
    (lengthFailure payload = none →
      (∀ o : CheckedObject, o.page ≤ 65535 → ShapeInRange o.shape → SourceAllowed o.source o.shape →
        objectPayload o ≠ payload) →
      refused 2 .badValue) ∧
    ∀ o : CheckedObject, o.page ≤ 65535 → ShapeInRange o.shape → SourceAllowed o.source o.shape →
      payload = objectPayload o →
      (s.page? o.page = none → refused 3 .notFound) ∧
      ∀ page, s.page? o.page = some page →
        (page.state ≠ .opened → refused 3 .wrongState) ∧
        (page.state = .opened →
          (∀ id, o.shape.assetId? o.source = some id →
            (s.asset? id = none → refused 4 .notFound) ∧
            ∀ a, s.asset? id = some a →
              (a.state = .loading → refused 4 .assetNotReady) ∧
              (a.state = .doomed → refused 4 .assetGone) ∧
              (a.state = .ready →
                a.kind ≠ (match kindCode o.shape with | 4 => .bitmap | 5 => .font | _ => .pattern) →
                refused 4 .badValue)) ∧
          ∀ asset, checkAsset o s = .ok asset →
            let box := (o.shape.box asset).clip page.width page.length
            box.isEmpty = false →
            (s.composer.freeObjects < 1 → refused 6 .noRoomObjects) ∧
            (1 ≤ s.composer.freeObjects → s.composer.freeElements < o.shape.elements →
              refused 6 .noRoomElements) ∧
            (1 ≤ s.composer.freeObjects → o.shape.elements ≤ s.composer.freeElements →
              s.composer.freeLinks < bandOfRow (box.r1 - 1) + 1 - bandOfRow box.r0 →
              refused 6 .noRoomBandLinks))) ∧
  ∀ (seq : Byte) (o : CheckedObject) (page : Page) (asset : Option Asset) (s : State),
    let rq := requestOf seq 0x21 (objectPayload o)
    let whole := o.shape.box asset
    let warnings := o.shape.warnings asset
    o.page ≤ 65535 → ShapeInRange o.shape → SourceAllowed o.source o.shape →
    s.page? o.page = some page → page.state = .opened → checkAsset o s = .ok asset →
    (whole.clip page.width page.length).isEmpty = true → Takes rq s →
    ∃ t, exec (.objectAdd seq (objectPayload o)) s = .next t ∧
      Answered rq .ok
        (.objectAdd
          { failedCheck := 0, number := 0,
            clippedFlag := clippedFlag whole page.width page.length, culledFlag := true,
            firstBand := 0, bandsTouched := 0, substitutions := warnings.1, skipped := warnings.2 })
        s t ∧
      t.page? o.page = some { page with culled := min 65535 (page.culled + 1) } ∧
      (∀ id, id ≠ o.page → t.page? id = s.page? id) ∧
      t.composer = { s.composer with pages := t.composer.pages } ∧ RequestKeeps [.composer] s t

/-- PAGE_CLOSE (R8, R9, R114, R115): the OPEN page joins the queue at its tail and is answered with its place.
With the feed not IDLE, or held, nothing starts and the feed is untouched; an IDLE, unheld feed starts on the
head page, to BACKFEED with a park, otherwise to SEEK or, in CONTINUOUS mode, to PRINTING or STALLED, and with
a condition in the set it pauses there with context BACKFEED or SEEK. The print order has grown, and the ring
tests for an assignment (R100): the first page queued has its first band assigned at once when the engine is
IDLE and nothing else is rendered. -/
def Obligations.PageCloseQueues : Prop :=
  ∀ (seq : Byte) (id : Nat) (page : Page) (s : State),
    let rq := requestOf seq 0x22 (le16 id)
    id ≤ 65535 → s.page? id = some page → page.state = .opened → Takes rq s →
    ∃ t, exec (.pageClose seq (le16 id)) s = .next t ∧
      Answered rq .ok
        (.pageClose (s.composer.queue.length + 1) (some page.bandCount) (some page.storedCount)
          (decide (0 < s.feed.pitch) && decide (s.feed.pitch < page.length + s.settings.topOffset)))
        s t ∧
      t.composer.queue = s.composer.queue ++ [id] ∧
      t.composer.pages.map Page.id = s.composer.pages.map Page.id ∧
      LinkAside s t ∧
      (s.feed.state ≠ .idle ∨ s.feed.hold = true →
        t.page? id = some { page with state := .queued } ∧ NoticesAside s t ∧
        Assigned (s.withComposer t.composer) t ∧
        Keeps [.link, .notices, .composer, .ring, .engine] s t) ∧
      (s.engine = none → s.composer.queue = [] → s.ring.liveOrder = [] →
        ∀ i, s.ring.lowestFree? = some i →
          let first : Tag := { page := id, copy := page.copiesDone, band := s.feed.line / 64 }
          t.engine = some { buffer := i, tag := first, progress := 0 } ∧
          t.ring.stateOf i = .filling first false ∧ t.ring.order = s.ring.order ++ [i]) ∧
      (s.feed.state = .idle → s.feed.hold = false →
        t.feed.state ≠ .idle ∧
        (∀ head ∈ t.headPage?, head.state ≠ .queued) ∧ Started s.feed s.ring t ∧
        (s.settings.mediaMode ≠ .continuous → Assigned (s.withComposer t.composer) t) ∧
        Keeps [.link, .notices, .composer, .ring, .engine, .feed] s t)

/-- PAGE_CANCEL of a page that has not ended (R13, R15, R65, R106): the page is ENDED with outcome CANCELLED
and the state it was in, it leaves the queue, its records return to the pools, its buffers are void, the ring
tests for an assignment (R100), and a PAGE_ENDED notice carries its report. The feed reacts to the cancel of
the ACTIVE page by its state (R131, R150): a stop is pending in BACKFEED, SEEK and PRINTING, and acts at once
on a feed that stands (R112), which in BACKFEED and SEEK takes the start decision (R114, R115) and in PRINTING
trails; STALLED trails at once; a pause loses a context that names the page, or BACKFEED; any other state goes
on. A page that is not ACTIVE does not act on the feed. The cursor goes to line 0 when the page was the
head. -/
def Obligations.PageCancelEndsThePage : Prop :=
  ∀ (seq : Byte) (id : Nat) (page : Page) (s : State),
    let rq := requestOf seq 0x23 (le16 id)
    let kept : Feed :=
      { s.feed with line := if s.composer.queue.head? = some id then 0 else s.feed.line }
    let voided := s.ring.void fun tag => decide (tag.page = id)
    let startsUnlessHeld (t : State) : Prop :=
      StartsOrIdles kept voided t ∧
      (s.feed.hold = true ∨ t.composer.queue = [] → t.feed.state = .idle) ∧
      (s.feed.hold = false → t.composer.queue ≠ [] →
        t.feed.state ≠ .idle ∧ ∀ head ∈ t.headPage?, head.state ≠ .queued)
    let trails (t : State) : Prop :=
      Trails kept voided t ∧
      (0 < s.settings.tearOffset → t.feed.state = .trailing s.settings.tearOffset ∧
        (t.feed.inFlight = .step .forward ∨ t.feed.called = some (.step .forward))) ∧
      (s.settings.tearOffset = 0 → startsUnlessHeld t)
    id ≤ 65535 → s.page? id = some page → page.state ≠ .ended → Takes rq s →
    ∃ t, exec (.pageCancel seq (le16 id)) s = .next t ∧
      Answered rq .ok (.pageCancel (some page.state) (some page.copiesDone)) s t ∧
      (∃ number, t.page? id = some { page with
          state := .ended, objects := [], bandLists := [],
          ended := some { outcome := .cancelled, stateAtCancel := page.state,
                          noticeNumber := number } } ∧
        ∃ n ∈ t.notices.entries, n.number = number ∧ n.revision = 0 ∧
          n.content = .pageEnded (page.report .cancelled)) ∧
      t.composer.queue = s.composer.queue.filter (fun j => j ≠ id) ∧
      t.composer.freeObjects = s.composer.freeObjects + page.objects.length ∧
      t.composer.freeElements = s.composer.freeElements + elementsHeld page.objects ∧
      t.composer.freeLinks = s.composer.freeLinks + linksHeld page.objects ∧
      t.composer.lastId = s.composer.lastId ∧
      (∀ i tag, (t.ring.stateOf i).live = true → (t.ring.stateOf i).tag? = some tag → tag.page ≠ id) ∧
      t.ring.waiting.all (fun tag => decide (tag.page ≠ id)) = true ∧
      (page.state ≠ .active ∨ s.settings.mediaMode ≠ .continuous →
        Assigned (((s.withComposer t.composer).withFeed t.feed).withRing voided) t) ∧
      (page.state ≠ .active → t.feed = kept) ∧
      (page.state = .active →
        match s.feed.state with
        | .idle | .trailing _ | .moving _ _ _ | .calibrating _ _ _ _ _ => t.feed = kept
        | .backfeed | .seekSearch _ _ | .seekOffset _ =>
          (s.feed.standing = false →
            t.feed = { kept with pending := { s.feed.pending with cancel := true } }) ∧
          (s.feed.standing = true → s.feed.pending.any = false →
            t.feed.pending.any = false ∧ startsUnlessHeld t)
        | .printing =>
          (s.feed.standing = false →
            t.feed = { kept with pending := { s.feed.pending with cancel := true } }) ∧
          (s.feed.standing = true → s.feed.pending.any = false →
            t.feed.pending.any = false ∧ trails t)
        | .stalled => trails t
        | .paused cause (.print page' copy line valid) =>
          t.feed = { kept with
            state := .paused cause (if page' = id then .none else .print page' copy line valid) }
        | .paused cause (.seek page' copy) =>
          t.feed = { kept with
            state := .paused cause (if page' = id then .none else .seek page' copy) }
        | .paused cause (.backfeed _ _) => t.feed = { kept with state := .paused cause .none }
        | .paused _ (.trail _ _) | .paused _ .none => t.feed = kept) ∧
      LinkAside s t ∧ Keeps [.link, .notices, .assets, .composer, .ring, .engine, .feed] s t

/-- PAGE_QUERY (R19, R20): another length is BAD_LENGTH, an id without an entry NOT_FOUND, id 0 included, and
otherwise the summary of the page, with its position in the queue while it is QUEUED or ACTIVE, the cursor's
copy and line at position 1, and the outcome and notice number once ENDED; no state changes, in every page
state and every feed state. -/
def Obligations.PageQueryReports : Prop :=
  ∀ (seq : Byte) (payload : List Byte) (s : State), Takes (requestOf seq 0x24 payload) s →
    ∃ t status results, exec (.pageQuery seq payload) s = .next t ∧
      Answered (requestOf seq 0x24 payload) status results s t ∧ RequestKeeps [] s t ∧
      (payload.length ≠ 2 → status = .badLength) ∧
      (∀ id ≤ 65535, payload = le16 id →
        (s.page? id = none → status = .notFound) ∧
        ∀ p, s.page? id = some p → status = .ok ∧
          let position :=
            if (p.state = .queued ∨ p.state = .active) ∧ id ∈ s.composer.queue then
              some (s.composer.queue.idxOf id + 1)
            else none
          results = .pageQuery
            { id := id, state := p.state, width := p.width, length := p.length,
              bandCount := p.bandCount, copiesOrdered := p.copiesOrdered, copiesDone := p.copiesDone,
              reprints := p.reprints, stalls := p.stalls, edges := p.edges, culled := p.culled,
              substitutions := p.substitutions, skipped := p.skipped, storedCount := p.storedCount,
              position := position,
              cursor := if position = some 1 then some (p.copiesDone, s.feed.line) else none,
              ended := p.ended.map fun e => (e.outcome, e.noticeNumber) }) ∧
      (PageLaw s → payload = [0, 0] → status = .notFound)

/-- Every step keeps the law of the page table and the print queue (R2, R3, R5, R11, R13): at most 8
entries, one OPEN, the ACTIVE page the head of the queue, and the queue the QUEUED and ACTIVE pages. -/
def Obligations.PageLawKept : Prop :=
  ∀ s t : State, PageLaw s ∧ (∀ p ∈ s.composer.pages, EntryLaw p) → step s = .next t →
    PageLaw t ∧ ∀ p ∈ t.composer.pages, EntryLaw p

/-- Every step keeps the pools balanced and the binning right (R54, R57, R61, R65): free and held records
are the capacity, and each band list holds exactly the objects that touch its band, in object order. -/
def Obligations.PoolsAndBinningKept : Prop :=
  ∀ s t : State,
    PageLaw s ∧ (∀ p ∈ s.composer.pages, EntryLaw p ∧ BinningLaw p) ∧ PoolLaw s → step s = .next t →
    PageLaw t ∧ (∀ p ∈ t.composer.pages, EntryLaw p ∧ BinningLaw p) ∧ PoolLaw t

/-! ### Requests of the feed controller -/

/-- FEED and CALIBRATE (R127, R129, R184): an IDLE feed without conditions starts the motion, unparked and
with the edge history unknown, with a forward step that starts at once or at its line period; the request
holds its slot, and no reply is complete yet. A refused CALIBRATE is answered at once and reports the
stored pitch (R130). -/
def Obligations.FeedAndCalibrateStart : Prop :=
  (∀ (seq : Byte) (payload : List Byte) (s : State), Takes (requestOf seq 0x31 payload) s →
    payload ≠ [] ∨ s.feed.state ≠ .idle ∨ s.settings.mediaMode = .continuous ∨
      s.conditions ≠ { coverOpen := false, mediaOut := false } →
    ∃ t, exec (.calibrate seq payload) s = .next t ∧ RequestKeeps [] s t ∧
      Answered (requestOf seq 0x31 payload)
        (if payload ≠ [] then .badLength
         else if s.feed.state ≠ .idle ∨ s.settings.mediaMode = .continuous then .wrongState
         else .conditionActive)
        (.calibrate s.feed.pitch none) s t) ∧
  ∀ (seq : Byte) (n : Nat) (s : State), SlotsAccounted s → s.feed.state = .idle →
    s.conditions = { coverOpen := false, mediaOut := false } →
    let started (state : FeedState) : Feed :=
      { s.feed with
        state := state, parked := 0, edge := none,
        inFlight := if s.feed.stepStarted.isNone then .step .forward else s.feed.inFlight,
        called := if s.feed.stepStarted.isNone then none else some (.step .forward),
        stepStarted := if s.feed.stepStarted.isNone then some s.clock else s.feed.stepStarted }
    let holds (rq : Request) (t : State) : Prop :=
      t.link.cache = s.link.cache ∧ (∃ slot ∈ t.link.slots, slot.key = rq.key ∧ slot.reply = none) ∧
      RequestKeeps [.feed] s t
    (1 ≤ n → n ≤ 32767 → Takes (requestOf seq 0x30 (le16 n)) s →
      ∃ t, exec (.feed seq (le16 n)) s = .next t ∧
        t.feed = started (.moving (requestOf seq 0x30 (le16 n)).key n 0) ∧
        holds (requestOf seq 0x30 (le16 n)) t) ∧
    (s.settings.mediaMode ≠ .continuous → Takes (requestOf seq 0x31 []) s →
      ∃ t, exec (.calibrate seq []) s = .next t ∧
        t.feed =
          started (.calibrating (requestOf seq 0x31 []).key s.settings.searchLimit 0 0 false) ∧
        holds (requestOf seq 0x31 []) t)

/-- STOP of a running FEED or CALIBRATE with no stop pending (R112, R128): with a step in flight the stop
is pending and nothing else changes; with none in flight the motion ends at once, answered STOPPED with the
lines moved after STOP's own reply (log 14), and the start decision is taken (R114, R115, R127). -/
def Obligations.StopEndsTheMotion : Prop :=
  ∀ (seq : Byte) (key : RequestKey) (motion : HostMotion) (s : State),
    let rq := requestOf seq 0x32 []
    s.feed.state.motionKey? = some key → s.feed.state.hostMotion? = some motion →
    s.feed.pending.any = false → Takes rq s →
    ∃ t, exec (.stop seq []) s = .next t ∧
      (s.feed.inFlight ≠ .none →
        Answered rq .ok (.stop motion) s t ∧ RequestKeeps [.feed] s t ∧
        t.feed = { s.feed with pending := { s.feed.pending with stop := true } }) ∧
      (s.feed.inFlight = .none → s.feed.openLine = none →
        t.feed.state.motionKey? = none ∧ StartsOrIdles s.feed s.ring t ∧
        t.feed.pending.any = false ∧
        ∃ entry : CacheEntry, entry.key = key ∧ entry.frame.status = .stopped ∧
          (∀ n done, s.feed.state = .moving key n done → entry.frame.results = .feed done) ∧
          (∀ limit count moved found, s.feed.state = .calibrating key limit count moved found →
            entry.frame.results = .calibrate s.feed.pitch (some moved)) ∧
          t.link.cache = cacheReply
            (cacheReply s.link.cache
              { key := rq.key, frame := replyTo rq .ok (.stop motion) s.link.serial }) entry)

/-- HOLD sets the hold flag and RELEASE clears it (R125, R126): the replies tell the flag as it stood, and a
RELEASE in IDLE with pages queued starts the head page, to the target of R114 or to the pause of R115. -/
def Obligations.HoldAndReleaseSetTheFlag : Prop :=
  ∀ (seq : Byte) (s : State),
    (Takes (requestOf seq 0x33 []) s →
      ∃ t, exec (.hold seq []) s = .next t ∧
        Answered (requestOf seq 0x33 []) .ok (.hold s.feed.hold s.feed.state.name) s t ∧
        t.feed = { s.feed with hold := true } ∧ RequestKeeps [.feed] s t) ∧
    (Takes (requestOf seq 0x34 []) s →
      ∃ t, exec (.release seq []) s = .next t ∧ t.feed.hold = false ∧
        (s.feed.hold = false →
          Answered (requestOf seq 0x34 []) .ok (.release false false) s t ∧ RequestKeeps [] s t) ∧
        (s.feed.hold = true → s.feed.state ≠ .idle ∨ s.composer.queue = [] →
          Answered (requestOf seq 0x34 []) .ok (.release true false) s t ∧
          t.feed = { s.feed with hold := false } ∧ RequestKeeps [.feed] s t) ∧
        (s.feed.hold = true → s.feed.state = .idle → s.composer.queue ≠ [] →
          Answered (requestOf seq 0x34 []) .ok (.release true true) s t ∧ t.feed.state ≠ .idle ∧
          Started s.feed s.ring t ∧
          (∀ head ∈ t.headPage?, head.state ≠ .queued) ∧
          Keeps [.link, .notices, .composer, .ring, .feed] s t))

/-- RESUME with CONTINUE in a pause without conditions, by the context (R145 to R148): a PRINT context with
a lost position is refused; otherwise the feed leaves PAUSED for what the context gives, printing on, seeking,
feeding back, trailing or taking the start decision (R114), and a FEED_STATE notice tells it. -/
def Obligations.ResumeContinueByContext : Prop :=
  ∀ (seq : Byte) (cause : PauseCause) (context : PausedContext) (s : State),
    let rq := requestOf seq 0x35 [0]
    s.feed.state = .paused cause context →
    s.conditions = { coverOpen := false, mediaOut := false } → Takes rq s →
    ∃ t, exec (.resumeContinue seq) s = .next t ∧
      match context with
      | .print _ _ _ false =>
        Answered rq .positionLost (.resume (some 0) (some .print) .paused) s t ∧ RequestKeeps [] s t
      | _ =>
        Answered rq .ok (.resume (some 0) (some context.kind) t.feed.state.name) s t ∧
        t.feed.state.paused? = none ∧ t.feed.line = s.feed.line ∧
        (∃ n ∈ t.notices.entries, n.content = .feedState t.feedReport) ∧
        LinkAside s t ∧ Keeps [.link, .notices, .composer, .ring, .feed] s t ∧
        match context with
        | .print _ _ _ _ =>
          Prints s.feed s.ring t ∧
          (s.ring.draining?.isSome = true →
            t.feed.state = .printing ∧ t.ring = s.ring ∧
            (t.feed.inFlight = .burn ∨ t.feed.called = some .burn)) ∧
          (s.ring.draining? = none → s.cursorTag?.isSome = true →
            t.feed.state = .printing ∧ t.ring.draining?.isSome = true ∨
            t.feed.state = .stalled ∧ t.ring.waiting = s.cursorTag?)
        | .seek _ _ =>
          Seeks s.feed s.ring t ∧
          (s.settings.mediaMode ≠ .continuous →
            t.feed.state = .seekSearch 0 s.settings.searchLimit)
        | .backfeed _ valid =>
          (valid = true → 0 < s.feed.parked →
            t.feed.state = .backfeed ∧ Steps .reverse s.feed t ∧ t.feed.parked = s.feed.parked) ∧
          (valid = false ∨ s.feed.parked = 0 → Seeks { s.feed with parked := 0 } s.ring t) ∧
          (valid = false → t.feed.parked = 0 ∧
            (s.settings.mediaMode ≠ .continuous →
              t.feed.state = .seekSearch 0 s.settings.searchLimit))
        | .trail remaining valid =>
          (valid = true → 0 < remaining →
            t.feed.state = .trailing remaining ∧ Steps .forward s.feed t ∧
            t.feed.parked = s.feed.parked) ∧
          (valid = false ∨ remaining = 0 →
            StartsOrIdles { s.feed with parked := if valid then s.feed.parked else 0 } s.ring t) ∧
          (valid = false → t.feed.parked = 0) ∧
          (valid = false ∨ remaining = 0 → s.feed.hold = true ∨ s.composer.queue = [] →
            t.feed.state = .idle)
        | .none =>
          StartsOrIdles s.feed s.ring t ∧
          (t.feed.state = .idle ↔ s.feed.hold = true ∨ s.composer.queue = []) ∧
          t.feed.parked = s.feed.parked

/-- RESUME with REPRINT of a PRINT context, without conditions (R108, R149): the cursor goes back to line 0,
every band is void and the ring begins again at the cursor's band, in buffer 0 at once when the engine is
IDLE; the reprint is counted, and the feed seeks the copy again; another context is refused
WRONG_STATE. -/
def Obligations.ResumeReprintBeginsAgain : Prop :=
  ∀ (seq : Byte) (cause : PauseCause) (context : PausedContext) (s : State),
    let rq := requestOf seq 0x35 [1]
    s.feed.state = .paused cause context →
    s.conditions = { coverOpen := false, mediaOut := false } → Takes rq s →
    ∃ t, exec (.resumeReprint seq) s = .next t ∧
      match context with
      | .print page _ _ _ =>
        Answered rq .ok (.resume (some 1) (some .print) t.feed.state.name) s t ∧
        t.feed.line = 0 ∧ t.feed.edge = none ∧ t.feed.parked = s.feed.parked ∧
        (s.settings.mediaMode ≠ .continuous → t.feed.state = .seekSearch 0 s.settings.searchLimit) ∧
        (s.settings.mediaMode = .continuous → s.cursor?.isSome = true →
          t.feed.state = .stalled ∧ t.ring.waiting = t.cursorTag?) ∧
        (∀ i, (t.ring.stateOf i).live = true → (t.ring.stateOf i).tag? = t.cursorTag?) ∧
        (s.engine = none → (∀ i, (s.ring.stateOf i).isFilling = false) →
          ∀ tag, t.cursorTag? = some tag →
            tag.band = 0 ∧ t.engine = some { buffer := 0, tag := tag, progress := 0 } ∧
            t.ring.stateOf 0 = .filling tag false ∧
            (t.ring.buffers.get 0).raster = Raster.white) ∧
        (s.engine.isSome = true → t.engine = s.engine) ∧
        (∀ p, s.page? page = some p → p.state = .active →
          ∃ p', t.page? page = some p' ∧ p'.reprints = min 65535 (p.reprints + 1) ∧
            p'.copiesDone = p.copiesDone ∧ p'.state = .active) ∧
        (∃ n ∈ t.notices.entries, n.content = .feedState t.feedReport) ∧
        LinkAside s t ∧ Keeps [.link, .notices, .composer, .ring, .engine, .feed] s t
      | _ =>
        Answered rq .wrongState (.resume (some 1) (some context.kind) .paused) s t ∧
        RequestKeeps [] s t

/-! ### Sensors and conditions -/

/-- The filtered inputs and the condition set (R135, R136, R137, R143, R152). SENSOR_INPUT_CHANGE restarts
the filter of its input; that the level an input has already is no change is the model's choice (log 11).
CONDITION_JOINS at the end of the 10 ms puts the condition into the set: an IDLE feed is untouched, a stop is
pending on a feed in motion, which keeps the first condition as its cause and that a MEDIA_OUT joined after
it (log 20), a feed that stands acts at once (R112), a STALLED one pauses at its line with the request
withdrawn, and a paused context loses its position to MEDIA_OUT. CONDITION_LEAVES starts and stops nothing.
Both are told by a FEED_STATE notice. Where the clock then stands is the model's choice (log 7). -/
def Obligations.SensorsAndConditions : Prop :=
  (∀ (input : SensorInput) (good : Bool) (s : State), s.power = .running →
    ((s.sensors.filter input).raw = good → exec (.sensorInputChange input good) s = .next s) ∧
    ((s.sensors.filter input).raw ≠ good →
      ∃ t, exec (.sensorInputChange input good) s = .next t ∧ Keeps [.sensors] s t ∧
        t.sensors.filter input =
          { raw := good, filtered := (s.sensors.filter input).filtered,
            since := if good = (s.sensors.filter input).filtered then none else some s.clock } ∧
        ∀ other, other ≠ input → t.sensors.filter other = s.sensors.filter other)) ∧
  (∀ (c : Condition) (since : Nat) (s : State), s.power = .running →
    s.sensors.filter (inputOf c) = { raw := false, filtered := true, since := some since } →
    ∃ t, exec (.conditionJoins c) s = .next t ∧ t.clock = max s.clock (since + 10000) ∧
      t.sensors.filter (inputOf c) = { raw := false, filtered := false, since := none } ∧
      t.conditions = (match c with
        | .coverOpen => { s.conditions with coverOpen := true }
        | .mediaOut => { s.conditions with mediaOut := true }) ∧
      (∃ n ∈ t.notices.entries, n.content = .feedState t.feedReport) ∧
      (s.feed.state = .idle → t.feed = s.feed ∧ t.ring = s.ring) ∧
      (s.feed.state.moves = true → s.feed.standing = false → s.feed.pending.any = false →
        t.ring = s.ring ∧
        t.feed = { s.feed with pending :=
          { s.feed.pending with condition := some { cause := c, mediaOutJoined := false } } }) ∧
      (∀ first, s.feed.state.moves = true → s.feed.standing = false →
        s.feed.pending.condition = some first →
        t.ring = s.ring ∧
        t.feed = { s.feed with
          pending := { s.feed.pending with
            condition := some { first with
              mediaOutJoined := first.mediaOutJoined || decide (c = .mediaOut) } } }) ∧
      (s.feed.state.moves = true → s.feed.standing = true → s.feed.pending.any = false →
        t.feed.pending.any = false ∧ t.ring = s.ring ∧
        match s.feed.state with
        | .moving key _ _ | .calibrating key _ _ _ _ =>
          t.feed.state.motionKey? = none ∧
          MotionEnded (match c with | .coverOpen => .faultedCoverOpen | .mediaOut => .faultedMediaOut)
            s.feed.state s.feed s t ∧
          ∃ entry : CacheEntry, t.link.cache = cacheReply s.link.cache entry ∧ entry.key = key ∧
            entry.frame.status =
              (match c with | .coverOpen => .faultedCoverOpen | .mediaOut => .faultedMediaOut)
        | .trailing remaining =>
          t.feed.state = .paused (causeOf c) (.trail remaining (!t.conditions.mediaOut)) ∧
          t.feed.parked = if t.conditions.mediaOut then 0 else s.feed.parked
        | .backfeed =>
          0 < s.feed.parked →
            t.feed.state =
              .paused (causeOf c) (.backfeed s.feed.parked (!t.conditions.mediaOut)) ∧
            t.feed.parked = if t.conditions.mediaOut then 0 else s.feed.parked
        | .printing => ∀ cursor ∈ s.cursor?,
          t.feed.state = .paused (causeOf c)
            (.print cursor.page cursor.copy cursor.line (!t.conditions.mediaOut))
        | _ => ∀ cursor ∈ s.cursor?,
          t.feed.state = .paused (causeOf c) (.seek cursor.page cursor.copy)) ∧
      (∀ cause context, s.feed.state = .paused cause context →
        t.ring = s.ring ∧
        match c, context with
        | .mediaOut, .print page copy line _ =>
          t.feed = { s.feed with state := .paused cause (.print page copy line false) }
        | .mediaOut, .backfeed remaining _ =>
          t.feed = { s.feed with state := .paused cause (.backfeed remaining false), parked := 0 }
        | .mediaOut, .trail remaining _ =>
          t.feed = { s.feed with state := .paused cause (.trail remaining false), parked := 0 }
        | .mediaOut, .seek _ _ | .mediaOut, .none | .coverOpen, _ => t.feed = s.feed) ∧
      (s.feed.state = .stalled → ∀ cursor ∈ s.cursor?,
        t.feed.state = .paused (causeOf c)
          (.print cursor.page cursor.copy cursor.line (!t.conditions.mediaOut)) ∧
        t.ring = { s.ring with waiting := none }) ∧
      Keeps [.clock, .link, .notices, .composer, .ring, .engine, .feed, .assets, .sensors] s t) ∧
  (∀ (c : Condition) (since : Nat) (s : State), s.power = .running →
    s.sensors.filter (inputOf c) = { raw := true, filtered := false, since := some since } →
    ∃ t, exec (.conditionLeaves c) s = .next t ∧ t.clock = max s.clock (since + 10000) ∧
      t.sensors.filter (inputOf c) = { raw := true, filtered := true, since := none } ∧
      t.conditions = (match c with
        | .coverOpen => { s.conditions with coverOpen := false }
        | .mediaOut => { s.conditions with mediaOut := false }) ∧
      (∃ n ∈ t.notices.entries, n.content = .feedState t.feedReport) ∧
      Keeps [.clock, .link, .notices, .sensors] s t)

/-! ### Steps and burns -/

/-- LINE_PERIOD_ELAPSED (R103, R112): a step or a burn that was called for starts, a burn with its row of
the DRAINING buffer in the head; otherwise the next one may start at once. Where the clock then stands is
the model's choice (log 7). -/
def Obligations.LinePeriodStartsWhatWaits : Prop :=
  ∀ (t0 : Nat) (s : State), s.power = .running →
    let now := max s.clock (t0 + (1000000 + s.settings.lineRate - 1) / s.settings.lineRate)
    (s.feed.stepStarted = none → exec (.linePeriodElapsed .step) s = .next s) ∧
    (s.feed.stepStarted = some t0 →
      ∃ t, exec (.linePeriodElapsed .step) s = .next t ∧ t.clock = now ∧ Keeps [.clock, .feed] s t ∧
        (∀ dir, s.feed.called = some (.step dir) →
          t.feed = { s.feed with inFlight := .step dir, called := none, stepStarted := some now }) ∧
        ((∀ dir, s.feed.called ≠ some (.step dir)) →
          t.feed = { s.feed with stepStarted := none })) ∧
    (s.feed.burnStarted = none → exec (.linePeriodElapsed .burn) s = .next s) ∧
    (s.feed.burnStarted = some t0 →
      ∃ t, exec (.linePeriodElapsed .burn) s = .next t ∧ t.clock = now ∧ Keeps [.clock, .feed] s t ∧
        (s.feed.called = some .burn →
          t.feed = { s.feed with
            inFlight := .burn, called := none, burnStarted := some now,
            headLatch := s.drainingRow s.feed.line,
            openLine := s.cursor?.map fun c =>
              { page := c.page, line := c.line, copyEnded := false } }) ∧
        (s.feed.called ≠ some .burn → t.feed = { s.feed with burnStarted := none }))

/-- STEP_COMPLETION of a host motion, of trailing and of a backfeed (R116, R124, R127, R129): the line is
counted, and with no stop pending the motion goes on with the next step or ends. A CALIBRATE counts from its
first top edge, ends OK at its second with that count as the pitch, and ends FAULTED(MEDIA_LOST) at its
limit; an edge found by the step that reaches the limit counts (log 13). With a stop pending the feed acts
on it at the boundary (R112): a RESET ends every motion, a host motion answered STOPPED, in the start
decision, the one of scope ALL with nothing parked, and keeps the pitch, which a RESET of scope ALL has made
0 before (R134, R151); a host motion ends STOPPED by a STOP (R128) and FAULTED by a condition, and the start
decision is taken (R114, R127, R129); a condition in TRAILING pauses with context TRAIL (R142), and in
BACKFEED with context BACKFEED (R141), or SEEK when nothing is left parked (log 12); a cancel in BACKFEED
takes the start decision (R131). A position is valid when no MEDIA_OUT is its cause, in the set, or has
joined since (R137, R143; log 20). -/
def Obligations.StepOfMotionAndPark : Prop :=
  ∀ (dir : Direction) (sedge : EdgeLevel) (s : State), s.power = .running →
    s.feed.inFlight = .step dir →
    let stepped : Feed :=
      { s.feed with
        inFlight := .none,
        parked := match s.feed.state with
          | .backfeed => s.feed.parked - 1
          | .trailing _ => s.feed.parked + 1
          | _ => s.feed.parked }
    let valid (first : PendingCondition) : Bool :=
      !first.mediaOutJoined && decide (first.cause ≠ .mediaOut) && !s.conditions.mediaOut
    ∃ t, exec (.stepCompletion sedge) s = .next t ∧ t.feed.pending.any = false ∧
      Keeps [.link, .notices, .composer, .ring, .feed] s t ∧ LinkAside s t ∧
      (s.feed.pending.any = false →
        (∀ key n done, s.feed.state = .moving key n done →
          (done + 1 ≠ n → t.feed.state = .moving key n (done + 1) ∧ Steps .forward stepped t ∧
            t.feed.parked = s.feed.parked ∧ RequestKeeps [.feed] s t) ∧
          (done + 1 = n → t.feed.state.motionKey? = none ∧ StartsOrIdles stepped s.ring t ∧
            ∃ entry : CacheEntry, t.link.cache = cacheReply s.link.cache entry ∧ entry.key = key ∧
              entry.frame.status = .ok ∧ entry.frame.results = .feed n)) ∧
        (∀ key limit count moved found, s.feed.state = .calibrating key limit count moved found →
          dir = .forward → s.settings.mediaMode ≠ .continuous →
          let edge := s.feed.edge = some .gapOrMark ∧ sedge = .labelOrNoMark
          let searches (count' : Nat) (found' : Bool) : Prop :=
            t.feed.state = .calibrating key limit count' (moved + 1) found' ∧ Steps .forward stepped t ∧
            t.feed.edge = some sedge ∧ t.feed.pitch = s.feed.pitch ∧ RequestKeeps [.feed] s t
          let ends (status : Status) (pitch : Nat) : Prop :=
            t.feed.state.motionKey? = none ∧ t.feed.pitch = pitch ∧ StartsOrIdles stepped s.ring t ∧
            ∃ entry : CacheEntry, t.link.cache = cacheReply s.link.cache entry ∧ entry.key = key ∧
              entry.frame.status = status ∧ entry.frame.results = .calibrate pitch (some (moved + 1))
          (edge → found = false → searches 0 true) ∧
          (edge → found = true → ends .ok (count + 1)) ∧
          (¬edge → count + 1 < limit → searches (count + 1) found) ∧
          (¬edge → limit ≤ count + 1 → ends .faultedMediaLost s.feed.pitch)) ∧
        (∀ remaining, s.feed.state = .trailing remaining → dir = .forward →
          (1 < remaining → t.feed.state = .trailing (remaining - 1) ∧ Steps .forward stepped t ∧
            t.feed.parked = s.feed.parked + 1 ∧ RequestKeeps [.feed] s t) ∧
          (remaining = 1 → StartsOrIdles stepped s.ring t) ∧
          (remaining = 1 → s.feed.hold = true ∨ s.composer.queue = [] →
            t.feed.state = .idle ∧ t.feed.parked = s.feed.parked + 1 ∧ t.feed.edge = none ∧
            RequestKeeps [.feed] s t)) ∧
        (s.feed.state = .backfeed → dir = .reverse →
          (1 < s.feed.parked → t.feed.state = .backfeed ∧ Steps .reverse stepped t ∧
            t.feed.parked = s.feed.parked - 1 ∧ t.feed.edge = none ∧ RequestKeeps [.feed] s t) ∧
          (s.feed.parked = 1 → Seeks stepped s.ring t ∧ t.feed.parked = 0) ∧
          (s.feed.parked = 1 → s.settings.mediaMode ≠ .continuous →
            t.feed.state = .seekSearch 0 s.settings.searchLimit ∧ Steps .forward stepped t ∧
            t.feed.parked = 0 ∧ RequestKeeps [.feed] s t))) ∧
      (∀ scope, s.feed.pending.reset = some scope → s.feed.state.moves = true →
        StartsOrIdles { stepped with parked := if scope = .all then 0 else stepped.parked } s.ring t ∧
        t.feed.pitch = s.feed.pitch ∧
        (∀ key n done, s.feed.state = .moving key n done →
          MotionAnswered key .stopped (.feed (done + 1)) s t) ∧
        ∀ key limit count moved found, s.feed.state = .calibrating key limit count moved found →
          MotionAnswered key .stopped (.calibrate s.feed.pitch (some (moved + 1))) s t) ∧
      (s.feed.pending.reset = none →
        (∀ motion, (match s.feed.state with
            | .moving key n done => some (.moving key n (done + 1))
            | .calibrating key limit count moved found =>
              some (.calibrating key limit count (moved + 1) found)
            | _ => none) = some motion →
          (s.feed.pending.stop = true →
            MotionEnded .stopped motion stepped s t ∧ t.feed.pitch = s.feed.pitch) ∧
          ∀ first, s.feed.pending.stop = false → s.feed.pending.condition = some first →
            MotionEnded
                (match first.cause with
                | .coverOpen => .faultedCoverOpen
                | .mediaOut => .faultedMediaOut)
                motion stepped s t ∧
              t.feed.pitch = s.feed.pitch) ∧
        (∀ remaining first, s.feed.state = .trailing remaining →
          s.feed.pending.condition = some first →
          PausesParked (causeOf first.cause) (.trail (remaining - 1) (valid first)) (valid first)
            (s.feed.parked + 1) t ∧ t.ring = s.ring ∧ t.composer = s.composer) ∧
        (s.feed.state = .backfeed →
          (s.feed.pending.cancel = true → StartsOrIdles stepped s.ring t) ∧
          ∀ first, s.feed.pending.cancel = false → s.feed.pending.condition = some first →
            t.ring = s.ring ∧ t.composer = s.composer ∧
            (1 < s.feed.parked →
              PausesParked (causeOf first.cause) (.backfeed (s.feed.parked - 1) (valid first))
                (valid first) (s.feed.parked - 1) t) ∧
            (s.feed.parked ≤ 1 → t.feed.parked = 0 ∧
              ∀ cursor ∈ s.cursor?,
                Pauses (causeOf first.cause) (.seek cursor.page cursor.copy) t)))

/-- STEP_COMPLETION in SEEK and in PRINTING (R113, R117 to R121, R123). With no stop pending: a top edge is
gap before label, and CONTINUOUS mode has none; the search goes to the offset phase at an edge, pauses
MEDIA_LOST at its limit, and otherwise goes on; the offset phase ends in PRINTING at the cursor's line; inside
a copy a top edge is counted for the page, and the next line is burned from the DRAINING buffer, or, where the
feed holds none, from the one that its band request is granted, else the feed stalls and counts it (R102). After
a copy's last line the feed trails when held or with nothing queued, and otherwise goes on to the head page, to
its label, whose edge may just have passed, and in CONTINUOUS mode straight to PRINTING; with a condition in
the set it pauses there (R138, R142). With a stop pending, and no RESET (for which see the statement before),
the feed acts on it at the boundary (R112): in SEEK a cancel takes the start decision (R131) and a condition
pauses with context SEEK (R141); in PRINTING a cancel trails (R131), or pauses with context TRAIL when a
condition is pending too, and a condition pauses inside a copy with context PRINT at the cursor's line, making
no band request (R140), and after a copy's last line with context TRAIL or SEEK (R142), its position valid or
not (R137, R143; log 20). -/
def Obligations.StepOfSeekAndPrint : Prop :=
  ∀ (sedge : EdgeLevel) (s : State), s.power = .running → s.feed.inFlight = .step .forward →
    let edge := s.settings.mediaMode ≠ .continuous ∧ s.feed.edge = some .gapOrMark ∧
      sedge = .labelOrNoMark
    let sampled := if s.settings.mediaMode = .continuous then s.feed.edge else some sedge
    let stepped : Feed := { s.feed with inFlight := .none }
    let unheld := s.feed.hold = false ∧ s.composer.queue ≠ []
    let inCopy := s.feed.state = .printing ∧ ∃ line ∈ s.feed.openLine, line.copyEnded = false
    let crossed (p : Page) : Page :=
      if s.feed.state = .printing ∧ s.feed.openLine.any (fun l => l.page = p.id && !l.copyEnded) = true ∧
          edge then
        { p with edges := min 65535 (p.edges + 1) }
      else p
    let prints (t : State) : Prop :=
      Prints stepped s.ring t ∧
      (s.ring.draining?.isSome = true → t.ring = s.ring) ∧
      (s.ring.draining? = none → ∀ tag ∈ s.cursorTag?,
        (∀ i, s.ring.oldestReady? tag = some i → t.ring = s.ring.setState i (.draining tag)) ∧
        (s.ring.oldestReady? tag = none →
          t.ring = { s.ring with waiting := some tag } ∧
          ∀ p, s.page? tag.page = some p → p.state = .active →
            t.page? tag.page = some { crossed p with stalls := min 65535 (p.stalls + 1) }))
    let valid (first : PendingCondition) : Bool :=
      !first.mediaOutJoined && decide (first.cause ≠ .mediaOut) && !s.conditions.mediaOut
    ∃ t, exec (.stepCompletion sedge) s = .next t ∧ t.feed.pending.any = false ∧
      Keeps [.link, .notices, .composer, .ring, .feed] s t ∧ LinkAside s t ∧
      (∀ line ∈ s.feed.openLine, inCopy → edge →
        ∀ p, s.page? line.page = some p → p.state = .active →
          ∃ p', t.page? line.page = some p' ∧ p'.edges = min 65535 (p.edges + 1)) ∧
      (s.feed.pending.any = false →
        (∀ remaining, s.feed.state = .seekOffset remaining →
          t.feed.edge = s.feed.edge ∧
          (1 < remaining →
            t.feed.state = .seekOffset (remaining - 1) ∧ Steps .forward stepped t ∧
            RequestKeeps [.feed] s t) ∧
          (remaining ≤ 1 → prints t ∧ RequestKeeps [.composer, .ring, .feed] s t)) ∧
        (∀ line, s.feed.state = .printing → s.feed.openLine = some line → line.copyEnded = true →
          (s.feed.hold = true ∨ s.composer.queue = [] →
            (s.conditions = { coverOpen := false, mediaOut := false } →
              Trails stepped s.ring t ∧ (s.settings.tearOffset = 0 → t.feed.state = .idle)) ∧
            (∀ cause, s.conditions.cause? = some cause →
              PausesParked cause (.trail s.settings.tearOffset (!s.conditions.mediaOut))
                (!s.conditions.mediaOut) s.feed.parked t)) ∧
          (unheld →
            (∀ head ∈ t.headPage?, head.state ≠ .queued) ∧
            (s.conditions = { coverOpen := false, mediaOut := false } →
              (edge → 0 < s.settings.topOffset →
                t.feed.state = .seekOffset s.settings.topOffset ∧ Steps .forward stepped t) ∧
              (edge → s.settings.topOffset = 0 → prints t) ∧
              (¬edge → Seeks stepped s.ring t) ∧
              (¬edge → s.settings.mediaMode ≠ .continuous →
                t.feed.state = .seekSearch 0 s.settings.searchLimit)) ∧
            (∀ cause, s.conditions.cause? = some cause → ∀ cursor ∈ s.cursor?,
              Pauses cause (.seek cursor.page cursor.copy) t)) ∧
          t.feed.line = s.feed.line) ∧
        (∀ count limit, s.feed.state = .seekSearch count limit →
          (edge → s.settings.topOffset = 0 → prints t) ∧
          (edge → 0 < s.settings.topOffset →
            t.feed.state = .seekOffset s.settings.topOffset ∧ Steps .forward stepped t ∧
            t.feed.edge = some sedge ∧ RequestKeeps [.feed] s t) ∧
          (¬edge → count + 1 < limit →
            t.feed.state = .seekSearch (count + 1) limit ∧ Steps .forward stepped t ∧
            t.feed.edge = sampled ∧ RequestKeeps [.feed] s t) ∧
          (¬edge → limit ≤ count + 1 → ∀ cursor ∈ s.cursor?,
            Pauses .mediaLost (.seek cursor.page cursor.copy) t ∧
            Keeps [.link, .notices, .feed] s t)) ∧
        (∀ line, s.feed.state = .printing → s.feed.openLine = some line → line.copyEnded = false →
          prints t ∧ t.feed.edge = sampled ∧ t.feed.line = s.feed.line ∧
          RequestKeeps [.composer, .ring, .feed] s t ∧
          (s.ring.draining?.isSome = true →
            (¬edge → t.composer = s.composer) ∧
            (∀ p, s.page? line.page = some p → p.state = .active →
              t.page? line.page = some (crossed p)) ∧
            RequestKeeps [.composer, .feed] s t))) ∧
      (s.feed.pending.reset = none →
        (s.feed.state.name = .seek →
          (s.feed.pending.cancel = true → StartsOrIdles stepped s.ring t) ∧
          ∀ first, s.feed.pending.cancel = false → s.feed.pending.condition = some first →
            ∀ cursor ∈ s.cursor?,
              Pauses (causeOf first.cause) (.seek cursor.page cursor.copy) t ∧
              t.feed.parked = s.feed.parked ∧ Keeps [.link, .notices, .feed] s t) ∧
        (s.feed.state = .printing →
          (s.feed.pending.cancel = true → s.feed.pending.condition = none →
            Trails stepped s.ring t) ∧
          ∀ first, s.feed.pending.condition = some first →
            let trailPause : Prop :=
              PausesParked (causeOf first.cause) (.trail s.settings.tearOffset (valid first))
                (valid first) s.feed.parked t ∧ t.ring = s.ring
            (s.feed.pending.cancel = true → trailPause) ∧
            ∀ line, s.feed.pending.cancel = false → s.feed.openLine = some line →
              (line.copyEnded = true → ¬unheld → trailPause) ∧
              (line.copyEnded = true → unheld →
                (∀ head ∈ t.headPage?, head.state ≠ .queued) ∧ t.ring = s.ring ∧
                t.feed.parked = s.feed.parked ∧
                ∀ cursor ∈ s.cursor?,
                  Pauses (causeOf first.cause) (.seek cursor.page cursor.copy) t) ∧
              (line.copyEnded = false → ∀ cursor ∈ s.cursor?,
                Pauses (causeOf first.cause)
                  (.print cursor.page cursor.copy cursor.line (valid first)) t ∧
                t.ring = s.ring ∧ t.feed.line = s.feed.line ∧ t.feed.parked = s.feed.parked)))

/-- BURN_COMPLETION (R11, R13, R65, R100, R103, R119, R122): whenever the burn of a line is in flight it
completes, and the line's step is called for. The cursor moves past the line. At the last line of a band the
DRAINING buffer becomes FREE and leaves the assignment order, and inside a band no buffer changes; then the
ring tests for an assignment. The last line ends the copy, and the last copy ends the page: it leaves the
queue, its records and its asset references return, its buffers are void before the test, and its PAGE_ENDED
notice is created. A line whose page is no longer ACTIVE only calls for its step. That a part with no burn in
flight has no such event is the model's choice (log 11). -/
def Obligations.BurnMovesTheCursor : Prop :=
  (∀ s : State, s.power = .running → s.feed.inFlight ≠ .burn →
    ∃ t, exec .burnCompletion s = .next t ∧ RequestKeeps [] s t) ∧
  ∀ (line : OpenLine) (s : State), s.power = .running → s.feed.inFlight = .burn →
    s.feed.openLine = some line →
    ∃ t, exec .burnCompletion s = .next t ∧
      Steps .forward { s.feed with inFlight := .none } t ∧
      t.feed.state = s.feed.state ∧ t.feed.edge = s.feed.edge ∧ t.feed.parked = s.feed.parked ∧
      t.feed.pending = s.feed.pending ∧ t.feed.hold = s.feed.hold ∧ t.feed.pitch = s.feed.pitch ∧
      ((∀ p, s.page? line.page = some p → p.state ≠ .active) →
        t.feed.line = s.feed.line ∧ t.feed.openLine = some line ∧ RequestKeeps [.feed] s t) ∧
      (∀ p, s.page? line.page = some p → p.state = .active →
        let freed : BandRing :=
          if line.line % 64 = 63 ∨ line.line + 1 = p.length then
            match s.ring.draining? with
            | some i =>
              { s.ring.setState i .free with order := s.ring.order.filter fun j => j ≠ i }
            | none => s.ring
          else s.ring
        let assigns (ring : BandRing) : Prop :=
          Assigned (((s.withComposer t.composer).withFeed t.feed).withRing ring) t
        (line.line + 1 ≠ p.length →
          t.feed.line = line.line + 1 ∧ t.feed.openLine = some line ∧ assigns freed ∧
          RequestKeeps [.feed, .ring, .engine] s t) ∧
        (line.line % 64 = 63 ∨ line.line + 1 = p.length → ∀ i, s.ring.draining? = some i →
          (t.ring.stateOf i).isDraining = false) ∧
        (line.line + 1 = p.length →
          t.feed.line = 0 ∧ t.feed.openLine = some { line with copyEnded := true } ∧
          (∀ id, id ≠ line.page → t.page? id = s.page? id) ∧
          t.composer.lastId = s.composer.lastId ∧
          (p.copiesDone + 1 ≠ p.copiesOrdered →
            t.page? line.page = some { p with copiesDone := p.copiesDone + 1 } ∧
            t.composer = { s.composer with pages := t.composer.pages } ∧ assigns freed ∧
            t.composer.queue = s.composer.queue ∧ NoticesAside s t ∧
            RequestKeeps [.composer, .feed, .ring, .engine] s t) ∧
          (p.copiesDone + 1 = p.copiesOrdered →
            t.composer.queue = s.composer.queue.filter (fun j => j ≠ line.page) ∧
            t.composer.freeObjects = s.composer.freeObjects + p.objects.length ∧
            t.composer.freeElements = s.composer.freeElements + elementsHeld p.objects ∧
            t.composer.freeLinks = s.composer.freeLinks + linksHeld p.objects ∧
            t.assets.table =
              (s.assets.table.map fun a => { a with refCount := a.refCount - naming a.id p.objects }).filter
                (fun a => !(decide (a.state = .doomed) && decide (a.refCount = 0))) ∧
            t.assets.freeBlocks + blocksHeld t.assets.table =
              s.assets.freeBlocks + blocksHeld s.assets.table ∧
            assigns (freed.void fun tag => decide (tag.page = line.page)) ∧
            (∀ n ∈ s.notices.entries, n.face ∈ t.notices.entries.map Notice.face) ∧
            LinkAside s t ∧
            Keeps [.link, .notices, .assets, .composer, .feed, .ring, .engine] s t ∧
            ∃ number, t.page? line.page = some { p with
                copiesDone := p.copiesDone + 1, state := .ended, objects := [], bandLists := [],
                ended := some { outcome := .done, stateAtCancel := .active,
                                noticeNumber := number } } ∧
              ∃ n ∈ t.notices.entries, n.number = number ∧ n.revision = 0 ∧
                n.content = .pageEnded
                  ({ p with copiesDone := p.copiesDone + 1 }.report .done))))

/-! ### The raster engine and the band ring -/

/-- OBJECT_BOUNDARY (R71, R72, R100, R101, R102): a void render ends with its buffer freed; an object that
remains is drawn whole and progress rises by 1; at the end of the list the buffer is READY, or DRAINING when
a request waits for it. At either end the ring assigns the lowest FREE buffer to the next band, which the
engine goes on to, and with no FREE buffer or no next band the engine is IDLE. That an object is drawn in the
boundary before it, and that an IDLE engine has no boundary, are the model's choice (log 11). -/
def Obligations.ObjectBoundaryDrawsOrCompletes : Prop :=
  ∀ s : State, s.power = .running →
    (s.engine = none → exec .objectBoundary s = .next s) ∧
    ∀ r, s.engine = some r →
      ∃ t, exec .objectBoundary s = .next t ∧
        (∀ tag, s.ring.stateOf r.buffer = .filling tag true →
          (∀ i, (t.ring.stateOf i).live = true →
            t.ring.stateOf i = s.ring.stateOf i ∨ t.engine.map Render.buffer = some i) ∧
          (t.ring.stateOf r.buffer = .free ∨ t.engine.map Render.buffer = some r.buffer) ∧
          (∀ i, [0, 1, 2, 3].find? (fun j => decide (j = r.buffer ∨ s.ring.stateOf j = .free)) = some i →
            (∀ next, s.nextBand? = some next →
              t.engine = some { buffer := i, tag := next, progress := 0 } ∧
              t.ring.order = s.ring.order.filter (fun j => j ≠ r.buffer) ++ [i] ∧
              (t.ring.buffers.get i).raster = Raster.white ∧
              ∀ j, t.ring.stateOf j =
                if j = i then .filling next false
                else if j = r.buffer then .free else s.ring.stateOf j) ∧
            (s.nextBand? = none →
              t.engine = none ∧ t.ring.order = s.ring.order.filter (fun j => j ≠ r.buffer) ∧
              ∀ j, t.ring.stateOf j = if j = r.buffer then .free else s.ring.stateOf j)) ∧
          t.ring.waiting = s.ring.waiting ∧
          Keeps [.engine, .ring] s t) ∧
        (∀ p o, (s.ring.stateOf r.buffer).isVoid = false → s.page? r.tag.page = some p →
          (p.bandObjects r.tag.band)[r.progress]? = some o →
          t.engine = some { r with progress := r.progress + 1 } ∧
          t.ring.order = s.ring.order ∧ t.ring.waiting = s.ring.waiting ∧
          (∀ i, t.ring.stateOf i = s.ring.stateOf i) ∧
          (t.ring.buffers.get r.buffer).raster =
            drawObject o (o.assetId?.bind s.asset?) p r.tag (s.ring.buffers.get r.buffer).raster ∧
          (∀ i, i ≠ r.buffer →
            (t.ring.buffers.get i).raster = (s.ring.buffers.get i).raster) ∧
          Keeps [.engine, .ring] s t) ∧
        (∀ p, (s.ring.stateOf r.buffer).isVoid = false → s.page? r.tag.page = some p →
          (p.bandObjects r.tag.band).length ≤ r.progress →
          t.ring.stateOf r.buffer =
            (if s.ring.waiting = some r.tag then .draining r.tag else .ready r.tag) ∧
          (t.ring.buffers.get r.buffer).raster = (s.ring.buffers.get r.buffer).raster ∧
          (s.ring.waiting = some r.tag → s.feed.state = .stalled →
            t.feed.state = .printing ∧ t.ring.waiting = none) ∧
          (s.ring.waiting ≠ some r.tag → t.feed = s.feed ∧ t.ring.waiting = s.ring.waiting) ∧
          (s.ring.stateOf r.buffer = .filling r.tag false →
            (∀ i next, s.ring.lowestFree? = some i → s.nextBand? = some next →
              t.engine = some { buffer := i, tag := next, progress := 0 } ∧
              t.ring.stateOf i = .filling next false ∧
              (t.ring.buffers.get i).raster = Raster.white ∧
              t.ring.order = s.ring.order ++ [i] ∧
              ∀ j, j ≠ i → j ≠ r.buffer → t.ring.stateOf j = s.ring.stateOf j) ∧
            (s.ring.lowestFree? = none ∨ s.nextBand? = none →
              t.engine = none ∧ t.ring.order = s.ring.order ∧
              ∀ j, j ≠ r.buffer → t.ring.stateOf j = s.ring.stateOf j)) ∧
          Keeps [.engine, .ring, .feed] s t)

/-- What one object makes of each dot of a band buffer (R74, R75, R85): outside the band window the dot
stays; inside it a selected dot is acted on by the mix, a 0-dot of an opaque PLACE whitens, and any other
dot stays. -/
def Obligations.DrawnDotFollowsTheMix : Prop :=
  ∀ (o : StoredObject) (asset : Option Asset) (page : Page) (tag : Tag) (r : Raster) (row col : Nat),
    row < 64 → col < 832 →
    let y := 64 * tag.band + row
    (drawObject o asset page tag r).dot row col =
      if col < page.width ∧ y < page.length then
        if o.selects asset tag.copy col y = true then
          match o.mix with
          | .set => true
          | .clear => false
          | .invert => !r.dot row col
        else if o.whitens asset col y = true then false
        else r.dot row col
      else r.dot row col

/-- The box of an object holds every dot that it can act on (R42 to R50): the dots that its shape covers on
any copy, and the dots that an opaque PLACE whitens. -/
def Obligations.BoxHoldsEveryDot : Prop :=
  ∀ (o : StoredObject) (asset : Option Asset) (copy : Nat) (x y : Int),
    o.selects asset copy x y = true ∨ o.whitens asset x y = true →
    (o.shape.box asset).has x y = true

/-- The boxes of RULE, PLACE and BARS (R43, R46, R50): a RULE is drawn where its box and its source are,
a PLACE has the box of its turned bitmap whatever its dots, and a BARS box runs from the first bar to the
last, a trailing space left out. -/
def Obligations.BoxesOfRulePlaceAndBars : Prop :=
  (∀ (number : Nat) (mix : Mix) (source : Nat) (x y : Int) (w h : Nat) (b : Box) (first bands : Nat)
      (asset : Option Asset) (copy : Nat) (px py : Int),
    let o : StoredObject :=
      { number := number, mix := mix, source := source, shape := .rule x y w h, box := b,
        firstBand := first, bandsTouched := bands }
    o.shape.box asset = { c0 := x, c1 := x + w, r0 := y, r1 := y + h } ∧
    o.selects asset copy px py =
      ((o.shape.box asset).has px py && (decide (source = 0) || patternDot asset px py))) ∧
  (∀ (id : Nat) (x y : Int) (turn : Orientation) (whitens : Bool) (a : Asset),
    (Shape.place id x y turn whitens).box (some a) =
      (match turn with
      | .deg0 | .deg180 => { c0 := x, c1 := x + a.width, r0 := y, r1 := y + a.height }
      | .deg90 | .deg270 => { c0 := x, c1 := x + a.height, r0 := y, r1 := y + a.width }) ∧
    ∀ (number : Nat) (mix : Mix) (b : Box) (first bands copy : Nat) (px py : Int) (before : Bool),
      (∀ byte ∈ a.data, byte = 0) →
      StoredObject.dotAfter
        { number := number, mix := mix, source := 0, shape := .place id x y turn false, box := b,
          firstBand := first, bandsTouched := bands } (some a) copy px py before = before) ∧
  ∀ (x y : Int) (height m : Nat) (widths : List Nat) (asset : Option Asset),
    let s := if widths.length % 2 = 1 then widths.sum else widths.dropLast.sum
    (Shape.bars x y height m false widths).box asset =
      { c0 := x, c1 := x + (s * m : Nat), r0 := y, r1 := y + height } ∧
    (Shape.bars x y height m true widths).box asset =
      { c0 := x, c1 := x + height, r0 := y, r1 := y + (s * m : Nat) }

/-- A counter shows start + step × copy, reduced modulo 10 to the power of its digits to a value that is
not negative, in exactly that many decimal digits (R88). -/
def Obligations.CounterShowsItsValue : Prop :=
  ∀ (start : Nat) (step : Int) (digits copy : Nat),
    let codes := counterCodes start step digits copy
    codes.length = digits ∧ (∀ code ∈ codes, 0x30 ≤ code.toNat ∧ code.toNat ≤ 0x39) ∧
    ∃ k : Int,
      ((codes.foldl (fun v code => 10 * v + (code.toNat - 0x30)) 0 : Nat) : Int) +
        k * (10 ^ digits : Nat) = start + step * copy

/-- The next band to render is the next position of the print order (R97, R100, R104): the one after as
many positions from the cursor's band on as there are non-void buffers, and none when the order ends
there. -/
def Obligations.NextBandContinuesThePrintOrder : Prop :=
  ∀ s : State, PageLaw s → (∀ p ∈ s.composer.pages, EntryLaw p) → CursorLaw s → RingLaw s →
    s.nextBand? = (s.printOrder.drop (s.feed.line / 64 + s.ring.liveTags.length)).head?

/-- Every step keeps the laws of the pages, the band ring and the feed together (R3, R95, R96, R98, R99,
R102, R103, R112, R139): in particular the non-void buffers hold consecutive positions of the print order,
and the first of them holds the print cursor's band. -/
def Obligations.PrintingLawKept : Prop :=
  ∀ s t : State, PrintingLaw s → step s = .next t → PrintingLaw t

/-- The machine after reset keeps every law, and it is what START_UP at power-on leaves of a part whose
straps are low, whose cover is closed and whose media is present: those levels are the model's choice
(log 6). -/
def Obligations.LawsHoldAtReset : Prop :=
  exec (.startUp .power .low .low true true) State.blank = .next State.reset ∧
  LinkBounds State.reset ∧ SlotsAccounted State.reset ∧ SettingsInRange State.reset.settings ∧
  (∀ p ∈ State.reset.composer.pages, BinningLaw p) ∧ PoolLaw State.reset ∧ AssetLaw State.reset ∧
  ReferenceLaw State.reset ∧ NoticeLaw State.reset ∧ PrintingLaw State.reset ∧
  State.reset.pending = []
end

