-- ==== Sys2Proof/Laws/State.lean ====
section
/-! SUPPORT. One lemma per field per update of the state: what each update sets and what it leaves. -/

namespace Sys2Proof.Machine

section WithPower

variable (s : State) (x : Power)

@[simp] theorem State.withPower_power : (s.withPower x).power = x := rfl
@[simp] theorem State.withPower_clock : (s.withPower x).clock = s.clock := rfl
@[simp] theorem State.withPower_settings : (s.withPower x).settings = s.settings := rfl
@[simp] theorem State.withPower_link : (s.withPower x).link = s.link := rfl
@[simp] theorem State.withPower_notices : (s.withPower x).notices = s.notices := rfl
@[simp] theorem State.withPower_assets : (s.withPower x).assets = s.assets := rfl
@[simp] theorem State.withPower_composer : (s.withPower x).composer = s.composer := rfl
@[simp] theorem State.withPower_engine : (s.withPower x).engine = s.engine := rfl
@[simp] theorem State.withPower_ring : (s.withPower x).ring = s.ring := rfl
@[simp] theorem State.withPower_feed : (s.withPower x).feed = s.feed := rfl
@[simp] theorem State.withPower_sensors : (s.withPower x).sensors = s.sensors := rfl
@[simp] theorem State.withPower_pending : (s.withPower x).pending = s.pending := rfl

end WithPower

section WithClock

variable (s : State) (x : Nat)

@[simp] theorem State.withClock_power : (s.withClock x).power = s.power := rfl
@[simp] theorem State.withClock_clock : (s.withClock x).clock = x := rfl
@[simp] theorem State.withClock_settings : (s.withClock x).settings = s.settings := rfl
@[simp] theorem State.withClock_link : (s.withClock x).link = s.link := rfl
@[simp] theorem State.withClock_notices : (s.withClock x).notices = s.notices := rfl
@[simp] theorem State.withClock_assets : (s.withClock x).assets = s.assets := rfl
@[simp] theorem State.withClock_composer : (s.withClock x).composer = s.composer := rfl
@[simp] theorem State.withClock_engine : (s.withClock x).engine = s.engine := rfl
@[simp] theorem State.withClock_ring : (s.withClock x).ring = s.ring := rfl
@[simp] theorem State.withClock_feed : (s.withClock x).feed = s.feed := rfl
@[simp] theorem State.withClock_sensors : (s.withClock x).sensors = s.sensors := rfl
@[simp] theorem State.withClock_pending : (s.withClock x).pending = s.pending := rfl

end WithClock

section WithSettings

variable (s : State) (x : Settings)

@[simp] theorem State.withSettings_power : (s.withSettings x).power = s.power := rfl
@[simp] theorem State.withSettings_clock : (s.withSettings x).clock = s.clock := rfl
@[simp] theorem State.withSettings_settings : (s.withSettings x).settings = x := rfl
@[simp] theorem State.withSettings_link : (s.withSettings x).link = s.link := rfl
@[simp] theorem State.withSettings_notices : (s.withSettings x).notices = s.notices := rfl
@[simp] theorem State.withSettings_assets : (s.withSettings x).assets = s.assets := rfl
@[simp] theorem State.withSettings_composer : (s.withSettings x).composer = s.composer := rfl
@[simp] theorem State.withSettings_engine : (s.withSettings x).engine = s.engine := rfl
@[simp] theorem State.withSettings_ring : (s.withSettings x).ring = s.ring := rfl
@[simp] theorem State.withSettings_feed : (s.withSettings x).feed = s.feed := rfl
@[simp] theorem State.withSettings_sensors : (s.withSettings x).sensors = s.sensors := rfl
@[simp] theorem State.withSettings_pending : (s.withSettings x).pending = s.pending := rfl

end WithSettings

section WithLink

variable (s : State) (x : Link)

@[simp] theorem State.withLink_power : (s.withLink x).power = s.power := rfl
@[simp] theorem State.withLink_clock : (s.withLink x).clock = s.clock := rfl
@[simp] theorem State.withLink_settings : (s.withLink x).settings = s.settings := rfl
@[simp] theorem State.withLink_link : (s.withLink x).link = x := rfl
@[simp] theorem State.withLink_notices : (s.withLink x).notices = s.notices := rfl
@[simp] theorem State.withLink_assets : (s.withLink x).assets = s.assets := rfl
@[simp] theorem State.withLink_composer : (s.withLink x).composer = s.composer := rfl
@[simp] theorem State.withLink_engine : (s.withLink x).engine = s.engine := rfl
@[simp] theorem State.withLink_ring : (s.withLink x).ring = s.ring := rfl
@[simp] theorem State.withLink_feed : (s.withLink x).feed = s.feed := rfl
@[simp] theorem State.withLink_sensors : (s.withLink x).sensors = s.sensors := rfl
@[simp] theorem State.withLink_pending : (s.withLink x).pending = s.pending := rfl

end WithLink

section WithNotices

variable (s : State) (x : NoticeQueue)

@[simp] theorem State.withNotices_power : (s.withNotices x).power = s.power := rfl
@[simp] theorem State.withNotices_clock : (s.withNotices x).clock = s.clock := rfl
@[simp] theorem State.withNotices_settings : (s.withNotices x).settings = s.settings := rfl
@[simp] theorem State.withNotices_link : (s.withNotices x).link = s.link := rfl
@[simp] theorem State.withNotices_notices : (s.withNotices x).notices = x := rfl
@[simp] theorem State.withNotices_assets : (s.withNotices x).assets = s.assets := rfl
@[simp] theorem State.withNotices_composer : (s.withNotices x).composer = s.composer := rfl
@[simp] theorem State.withNotices_engine : (s.withNotices x).engine = s.engine := rfl
@[simp] theorem State.withNotices_ring : (s.withNotices x).ring = s.ring := rfl
@[simp] theorem State.withNotices_feed : (s.withNotices x).feed = s.feed := rfl
@[simp] theorem State.withNotices_sensors : (s.withNotices x).sensors = s.sensors := rfl
@[simp] theorem State.withNotices_pending : (s.withNotices x).pending = s.pending := rfl

end WithNotices

section WithAssets

variable (s : State) (x : AssetStore)

@[simp] theorem State.withAssets_power : (s.withAssets x).power = s.power := rfl
@[simp] theorem State.withAssets_clock : (s.withAssets x).clock = s.clock := rfl
@[simp] theorem State.withAssets_settings : (s.withAssets x).settings = s.settings := rfl
@[simp] theorem State.withAssets_link : (s.withAssets x).link = s.link := rfl
@[simp] theorem State.withAssets_notices : (s.withAssets x).notices = s.notices := rfl
@[simp] theorem State.withAssets_assets : (s.withAssets x).assets = x := rfl
@[simp] theorem State.withAssets_composer : (s.withAssets x).composer = s.composer := rfl
@[simp] theorem State.withAssets_engine : (s.withAssets x).engine = s.engine := rfl
@[simp] theorem State.withAssets_ring : (s.withAssets x).ring = s.ring := rfl
@[simp] theorem State.withAssets_feed : (s.withAssets x).feed = s.feed := rfl
@[simp] theorem State.withAssets_sensors : (s.withAssets x).sensors = s.sensors := rfl
@[simp] theorem State.withAssets_pending : (s.withAssets x).pending = s.pending := rfl

end WithAssets

section WithComposer

variable (s : State) (x : Composer)

@[simp] theorem State.withComposer_power : (s.withComposer x).power = s.power := rfl
@[simp] theorem State.withComposer_clock : (s.withComposer x).clock = s.clock := rfl
@[simp] theorem State.withComposer_settings : (s.withComposer x).settings = s.settings := rfl
@[simp] theorem State.withComposer_link : (s.withComposer x).link = s.link := rfl
@[simp] theorem State.withComposer_notices : (s.withComposer x).notices = s.notices := rfl
@[simp] theorem State.withComposer_assets : (s.withComposer x).assets = s.assets := rfl
@[simp] theorem State.withComposer_composer : (s.withComposer x).composer = x := rfl
@[simp] theorem State.withComposer_engine : (s.withComposer x).engine = s.engine := rfl
@[simp] theorem State.withComposer_ring : (s.withComposer x).ring = s.ring := rfl
@[simp] theorem State.withComposer_feed : (s.withComposer x).feed = s.feed := rfl
@[simp] theorem State.withComposer_sensors : (s.withComposer x).sensors = s.sensors := rfl
@[simp] theorem State.withComposer_pending : (s.withComposer x).pending = s.pending := rfl

end WithComposer

section WithEngine

variable (s : State) (x : Option Render)

@[simp] theorem State.withEngine_power : (s.withEngine x).power = s.power := rfl
@[simp] theorem State.withEngine_clock : (s.withEngine x).clock = s.clock := rfl
@[simp] theorem State.withEngine_settings : (s.withEngine x).settings = s.settings := rfl
@[simp] theorem State.withEngine_link : (s.withEngine x).link = s.link := rfl
@[simp] theorem State.withEngine_notices : (s.withEngine x).notices = s.notices := rfl
@[simp] theorem State.withEngine_assets : (s.withEngine x).assets = s.assets := rfl
@[simp] theorem State.withEngine_composer : (s.withEngine x).composer = s.composer := rfl
@[simp] theorem State.withEngine_engine : (s.withEngine x).engine = x := rfl
@[simp] theorem State.withEngine_ring : (s.withEngine x).ring = s.ring := rfl
@[simp] theorem State.withEngine_feed : (s.withEngine x).feed = s.feed := rfl
@[simp] theorem State.withEngine_sensors : (s.withEngine x).sensors = s.sensors := rfl
@[simp] theorem State.withEngine_pending : (s.withEngine x).pending = s.pending := rfl

end WithEngine

section WithRing

variable (s : State) (x : BandRing)

@[simp] theorem State.withRing_power : (s.withRing x).power = s.power := rfl
@[simp] theorem State.withRing_clock : (s.withRing x).clock = s.clock := rfl
@[simp] theorem State.withRing_settings : (s.withRing x).settings = s.settings := rfl
@[simp] theorem State.withRing_link : (s.withRing x).link = s.link := rfl
@[simp] theorem State.withRing_notices : (s.withRing x).notices = s.notices := rfl
@[simp] theorem State.withRing_assets : (s.withRing x).assets = s.assets := rfl
@[simp] theorem State.withRing_composer : (s.withRing x).composer = s.composer := rfl
@[simp] theorem State.withRing_engine : (s.withRing x).engine = s.engine := rfl
@[simp] theorem State.withRing_ring : (s.withRing x).ring = x := rfl
@[simp] theorem State.withRing_feed : (s.withRing x).feed = s.feed := rfl
@[simp] theorem State.withRing_sensors : (s.withRing x).sensors = s.sensors := rfl
@[simp] theorem State.withRing_pending : (s.withRing x).pending = s.pending := rfl

end WithRing

section WithFeed

variable (s : State) (x : Feed)

@[simp] theorem State.withFeed_power : (s.withFeed x).power = s.power := rfl
@[simp] theorem State.withFeed_clock : (s.withFeed x).clock = s.clock := rfl
@[simp] theorem State.withFeed_settings : (s.withFeed x).settings = s.settings := rfl
@[simp] theorem State.withFeed_link : (s.withFeed x).link = s.link := rfl
@[simp] theorem State.withFeed_notices : (s.withFeed x).notices = s.notices := rfl
@[simp] theorem State.withFeed_assets : (s.withFeed x).assets = s.assets := rfl
@[simp] theorem State.withFeed_composer : (s.withFeed x).composer = s.composer := rfl
@[simp] theorem State.withFeed_engine : (s.withFeed x).engine = s.engine := rfl
@[simp] theorem State.withFeed_ring : (s.withFeed x).ring = s.ring := rfl
@[simp] theorem State.withFeed_feed : (s.withFeed x).feed = x := rfl
@[simp] theorem State.withFeed_sensors : (s.withFeed x).sensors = s.sensors := rfl
@[simp] theorem State.withFeed_pending : (s.withFeed x).pending = s.pending := rfl

end WithFeed

section WithSensors

variable (s : State) (x : Sensors)

@[simp] theorem State.withSensors_power : (s.withSensors x).power = s.power := rfl
@[simp] theorem State.withSensors_clock : (s.withSensors x).clock = s.clock := rfl
@[simp] theorem State.withSensors_settings : (s.withSensors x).settings = s.settings := rfl
@[simp] theorem State.withSensors_link : (s.withSensors x).link = s.link := rfl
@[simp] theorem State.withSensors_notices : (s.withSensors x).notices = s.notices := rfl
@[simp] theorem State.withSensors_assets : (s.withSensors x).assets = s.assets := rfl
@[simp] theorem State.withSensors_composer : (s.withSensors x).composer = s.composer := rfl
@[simp] theorem State.withSensors_engine : (s.withSensors x).engine = s.engine := rfl
@[simp] theorem State.withSensors_ring : (s.withSensors x).ring = s.ring := rfl
@[simp] theorem State.withSensors_feed : (s.withSensors x).feed = s.feed := rfl
@[simp] theorem State.withSensors_sensors : (s.withSensors x).sensors = x := rfl
@[simp] theorem State.withSensors_pending : (s.withSensors x).pending = s.pending := rfl

end WithSensors

section WithPending

variable (s : State) (x : List Instr)

@[simp] theorem State.withPending_power : (s.withPending x).power = s.power := rfl
@[simp] theorem State.withPending_clock : (s.withPending x).clock = s.clock := rfl
@[simp] theorem State.withPending_settings : (s.withPending x).settings = s.settings := rfl
@[simp] theorem State.withPending_link : (s.withPending x).link = s.link := rfl
@[simp] theorem State.withPending_notices : (s.withPending x).notices = s.notices := rfl
@[simp] theorem State.withPending_assets : (s.withPending x).assets = s.assets := rfl
@[simp] theorem State.withPending_composer : (s.withPending x).composer = s.composer := rfl
@[simp] theorem State.withPending_engine : (s.withPending x).engine = s.engine := rfl
@[simp] theorem State.withPending_ring : (s.withPending x).ring = s.ring := rfl
@[simp] theorem State.withPending_feed : (s.withPending x).feed = s.feed := rfl
@[simp] theorem State.withPending_sensors : (s.withPending x).sensors = s.sensors := rfl
@[simp] theorem State.withPending_pending : (s.withPending x).pending = x := rfl

end WithPending

end Sys2Proof.Machine
end

