-- ==== Sys2Proof/Laws/Blocks.lean ====
section
/-! SUPPORT. What the shared operations over the page table, the band ring, the notice queue and the
receiver do, once each. -/

namespace Sys2Proof.Machine

/-! ### The page table -/

/-- A table with one entry changed holds the entry changed under its own id, when the id stays, and the
others as they were. -/
theorem find_changePage (id j : Nat) (f : Page → Page) (hf : ∀ p, (f p).id = p.id) (pages : List Page) :
    (changePage id f pages).find? (fun p => p.id = j) =
      if j = id then (pages.find? fun p => p.id = j).map f else pages.find? fun p => p.id = j := by
  induction pages with
  | nil => simp [changePage]
  | cons p rest ih =>
    simp only [changePage, List.map_cons] at ih ⊢
    by_cases hp : p.id = id
    · by_cases hj : j = id
      · subst hj; simp [hp, hf]
      · have : p.id ≠ j := fun e => hj (e.symm.trans hp)
        simp_all [Ne.symm hj]
    · by_cases hj : p.id = j
      · simp [hj, show j ≠ id from hj ▸ hp]
      · simpa [hp, hj, List.find?_cons] using ih

/-- Changing a page keeps its id in the table. -/
theorem changePage_ids (id : Nat) (f : Page → Page) (hf : ∀ p, (f p).id = p.id) (pages : List Page) :
    (changePage id f pages).map Page.id = pages.map Page.id := by
  induction pages with
  | nil => rfl
  | cons p rest ih =>
    simp only [changePage, List.map_cons] at ih ⊢
    rw [ih]
    split <;> simp [hf]

/-- A page looked up after a change of one entry. -/
theorem State.page?_changePage (s : State) (id j : Nat) (f : Page → Page) (hf : ∀ p, (f p).id = p.id) :
    (s.changePage id f).page? j = if j = id then (s.page? j).map f else s.page? j :=
  find_changePage id j f hf s.composer.pages

/-- A page looked up has the id looked up. -/
theorem State.page?_id {s : State} {id : Nat} {p : Page} (h : s.page? id = some p) : p.id = id := by
  simpa using List.find?_some h

/-- An entry of the table is looked up by its id when the ids differ. -/
theorem State.page?_of_mem {s : State} {p : Page} (hn : (s.composer.pages.map Page.id).Nodup)
    (h : p ∈ s.composer.pages) : s.page? p.id = some p := by
  unfold State.page?
  generalize s.composer.pages = pages at hn h ⊢
  induction pages with
  | nil => simp at h
  | cons q rest ih =>
    simp only [List.map_cons, List.nodup_cons] at hn
    rcases List.mem_cons.mp h with rfl | hr
    · simp
    · have hne : q.id ≠ p.id := fun e => hn.1 (e ▸ List.mem_map_of_mem hr)
      simp [hne, ih hn.2 hr]

/-! ### The band ring -/

/-- A buffer's state after one buffer was set. -/
@[simp] theorem BandRing.stateOf_setState (r : BandRing) (i j : Fin 4) (st : BufferState) :
    (r.setState i st).stateOf j = if i = j then st else r.stateOf j := by
  simp only [BandRing.setState, BandRing.stateOf, Vector.get_eq_getElem, Vector.getElem_set]
  by_cases h : i = j
  · simp [h]
  · simp [h, Fin.val_ne_of_ne h]

@[simp] theorem BandRing.setState_order (r : BandRing) (i : Fin 4) (st : BufferState) :
    (r.setState i st).order = r.order := rfl

@[simp] theorem BandRing.setState_waiting (r : BandRing) (i : Fin 4) (st : BufferState) :
    (r.setState i st).waiting = r.waiting := rfl

/-- The ring once the DRAINING buffer, if any, is FREE and out of the assignment order (R103). -/
theorem freeDraining_ring (s : State) :
    (freeDraining s).ring =
      match s.ring.draining? with
      | some i => { s.ring.setState i .free with order := s.ring.order.filter fun j => j ≠ i }
      | none => s.ring := by
  unfold freeDraining; cases s.ring.draining? <;> rfl

@[simp] theorem BandRing.stateOf_freeBuffer (r : BandRing) (i j : Fin 4) :
    (r.freeBuffer i).stateOf j = if i = j then .free else r.stateOf j :=
  BandRing.stateOf_setState r i j .free

/-- A buffer's state after an assignment. -/
@[simp] theorem BandRing.stateOf_assign (r : BandRing) (i j : Fin 4) (t : Tag) :
    (r.assign i t).stateOf j = if i = j then .filling t false else r.stateOf j := by
  simp only [BandRing.assign, BandRing.stateOf, Vector.get_eq_getElem, Vector.getElem_set]
  by_cases h : i = j
  · simp [h]
  · simp [h, Fin.val_ne_of_ne h]

@[simp] theorem BandRing.assign_order (r : BandRing) (i : Fin 4) (t : Tag) :
    (r.assign i t).order = r.order ++ [i] := rfl

/-- A buffer's state after voiding. -/
@[simp] theorem BandRing.stateOf_void (r : BandRing) (pick : Tag → Bool) (i : Fin 4) :
    (r.void pick).stateOf i = (r.stateOf i).void pick := by
  simp [BandRing.void, BandRing.stateOf, Vector.get_eq_getElem]

@[simp] theorem BandRing.void_waiting (r : BandRing) (pick : Tag → Bool) :
    (r.void pick).waiting = r.waiting.filter (fun t => !pick t) := rfl

/-- A live buffer after voiding was live before, in the same state, and its tag is not picked. -/
theorem BufferState.live_of_void {pick : Tag → Bool} {st : BufferState}
    (h : (st.void pick).live = true) :
    st.void pick = st ∧ st.live = true ∧ ∀ t ∈ st.tag?, pick t = false := by
  cases st with
  | free => simp [BufferState.void, BufferState.live] at h
  | filling t v => cases v <;> simp_all [BufferState.void, BufferState.live, BufferState.tag?]
  | ready t => cases hp : pick t <;> simp_all [BufferState.void, BufferState.live, BufferState.tag?]
  | draining t => cases hp : pick t <;> simp_all [BufferState.void, BufferState.live, BufferState.tag?]

/-- The DRAINING buffer found is DRAINING. -/
theorem BandRing.draining_found {r : BandRing} {i : Fin 4} (h : r.draining? = some i) :
    (r.stateOf i).isDraining = true := by
  unfold BandRing.draining? at h
  have := List.find?_some h
  simpa using this

/-- Without a DRAINING buffer none is DRAINING. -/
theorem BandRing.draining_none {r : BandRing} (h : r.draining? = none) (i : Fin 4) :
    (r.stateOf i).isDraining = false := by
  have := List.find?_eq_none.mp h i (by fin_cases i <;> simp)
  simpa using this

/-- What an assignment does: nothing, or it gives the lowest FREE buffer the next band, the engine being
IDLE (R100). -/
theorem assignBand_cases (s : State) :
    assignBand s = s ∨
    ∃ i t, s.engine = none ∧ s.ring.lowestFree? = some i ∧ s.nextBand? = some t ∧
      assignBand s =
        (s.withRing (s.ring.assign i t)).withEngine (some { buffer := i, tag := t, progress := 0 }) := by
  unfold assignBand
  split
  · exact .inr ⟨_, _, ‹_›, ‹_›, ‹_›, rfl⟩
  · exact .inl rfl

/-- An assigned buffer is white. -/
@[simp] theorem BandRing.assign_raster (r : BandRing) (i : Fin 4) (t : Tag) :
    ((r.assign i t).buffers.get i).raster = Raster.white := by
  simp [BandRing.assign, Vector.get_eq_getElem]

/-- An assignment leaves the rasters of the other buffers. -/
theorem BandRing.assign_raster_ne (r : BandRing) {i j : Fin 4} (t : Tag) (h : j ≠ i) :
    ((r.assign i t).buffers.get j).raster = (r.buffers.get j).raster := by
  simp [BandRing.assign, Vector.get_eq_getElem, (Fin.val_ne_of_ne h).symm]

/-- The ring's test is an assignment in the sense of R100. -/
theorem assignBand_assigned (s : State) : Assigned s (assignBand s) := by
  unfold Assigned
  split
  · rename_i i next hengine hfree hnext
    rw [show assignBand s = (s.withRing (s.ring.assign i next)).withEngine
      (some { buffer := i, tag := next, progress := 0 }) by simp [assignBand, hengine, hfree, hnext]]
    refine ⟨rfl, rfl, rfl, BandRing.assign_raster _ _ _, fun j => ?_,
      fun j h => BandRing.assign_raster_ne _ _ h⟩
    simp [eq_comm]
  · rename_i hno
    have hstays : assignBand s = s := by
      unfold assignBand
      split
      · exact (hno _ _ ‹_› ‹_› ‹_›).elim
      · rfl
    simp [hstays]

/-! ### The notice queue -/

@[simp] theorem NoticeQueue.create_entries (q : NoticeQueue) (skipped) (content) :
    (q.create skipped content).entries = q.entries ++
      [{ number := q.nextNumber skipped, revision := 0, content := content, sent := false,
         lastSending := none }] := rfl

@[simp] theorem NoticeQueue.create_lastNumber (q : NoticeQueue) (skipped) (content) :
    (q.create skipped content).lastNumber = q.nextNumber skipped := rfl

/-- After FEED_STATE content was handed over, an entry carries it (R197). -/
theorem NoticeQueue.feedState_told (q : NoticeQueue) (report : FeedReport) :
    ∃ n ∈ (q.feedState report).entries, n.content = .feedState report := by
  unfold NoticeQueue.feedState
  split
  · rename_i h
    obtain ⟨n, hn, hf⟩ := List.any_eq_true.mp h
    exact ⟨n.revise report, List.mem_map.mpr ⟨n, hn, by simp [hf]⟩, rfl⟩
  · exact ⟨_, by rw [NoticeQueue.create_entries]; exact List.mem_append_right _ (List.mem_singleton.mpr rfl), rfl⟩

/-! ### The receiver -/

@[simp] theorem hold_receiver (s : State) (phase) (held) :
    (hold s phase held).link.receiver = { phase := phase, held := held, lastByteAt := s.clock } := rfl

@[simp] theorem hunt_receiver (s : State) :
    (hunt s).link.receiver = { s.link.receiver with phase := .hunt, held := [] } := rfl

/-- The bytes that a hunt keeps are none, or a frame from a SYNC on without a header error (R178). -/
theorem rescan_kept (bytes : List Byte) :
    (rescan bytes).2 <:+ bytes ∧
    ((rescan bytes).2 ≠ [] →
      (rescan bytes).2.head? = some syncByte ∧ headerBad (rescan bytes).2 = false) := by
  induction bytes with
  | nil => simp [rescan]
  | cons b rest ih =>
    unfold rescan
    split
    · exact ⟨ih.1.trans (List.suffix_cons b rest), ih.2⟩
    · split
      · exact ⟨ih.1.trans (List.suffix_cons b rest), ih.2⟩
      · simp_all

end Sys2Proof.Machine
end

