-- ==== Sys2Proof/Laws/Link.lean ====
section
/-! SUPPORT. What the arbiter, a complete reply and a taken request can do, said once: later proofs cite
these and do not unfold the link. -/

namespace Sys2Proof.Machine

/-! ### Keeping -/

theorem Keeps.refl (changed : List Part) (s : State) : Keeps changed s s := by
  intro p _; cases p <;> rfl

theorem Keeps.trans {changed : List Part} {s t u : State} (h : Keeps changed s t)
    (h' : Keeps changed t u) : Keeps changed s u := by
  intro p hp
  have a := h p hp
  have b := h' p hp
  cases p <;> exact Eq.trans b a

theorem Keeps.weaken {c d : List Part} {s t : State} (h : Keeps c s t) (hc : ∀ p ∈ c, p ∈ d) :
    Keeps d s t := fun p hp => h p fun hpc => hp (hc p hpc)

theorem LinkAside.refl (s : State) : LinkAside s s := ⟨rfl, rfl, rfl, rfl, rfl⟩

theorem LinkAside.trans {s t u : State} (h : LinkAside s t) (h' : LinkAside t u) : LinkAside s u := by
  simp_all [LinkAside]

theorem NoticesAside.refl (s : State) : NoticesAside s s := ⟨rfl, rfl⟩

theorem NoticesAside.trans {s t u : State} (h : NoticesAside s t) (h' : NoticesAside t u) :
    NoticesAside s u := ⟨h'.1.trans h.1, h'.2.trans h.2⟩

/-! ### The arbiter -/

theorem beginSending_faces (q : NoticeQueue) (number : Byte) (clock : Nat) :
    (q.beginSending number clock).entries.map Notice.face = q.entries.map Notice.face ∧
      (q.beginSending number clock).lastNumber = q.lastNumber := by
  refine ⟨?_, rfl⟩
  simp only [NoticeQueue.beginSending, List.map_map]
  apply List.map_congr_left
  intro n _
  by_cases h : n.number = number <;> simp [h, Notice.face]

/-- Everything the arbiter's choice leaves alone. -/
theorem choose_keeps (s : State) :
    Keeps [.link, .notices] s (choose s) ∧ LinkAside s (choose s) ∧ NoticesAside s (choose s) ∧
      (choose s).link.cache = s.link.cache ∧ (choose s).link.serial = s.link.serial := by
  unfold choose
  split
  · exact ⟨Keeps.refl _ _, LinkAside.refl _, NoticesAside.refl _, rfl, rfl⟩
  split
  · exact ⟨Keeps.refl _ _, LinkAside.refl _, NoticesAside.refl _, rfl, rfl⟩
  split
  · refine ⟨?_, ⟨rfl, rfl, rfl, rfl, rfl⟩, ⟨rfl, rfl⟩, rfl, rfl⟩
    intro p hp; cases p <;> first | rfl | simp at hp
  · split
    · refine ⟨?_, ⟨rfl, rfl, rfl, rfl, rfl⟩, ?_, rfl, rfl⟩
      · intro p hp; cases p <;> first | rfl | simp at hp
      · exact ⟨(beginSending_faces _ _ _).2, (beginSending_faces _ _ _).1⟩
    · exact ⟨Keeps.refl _ _, LinkAside.refl _, NoticesAside.refl _, rfl, rfl⟩

theorem choose_busy {s : State} (h : s.link.tx.isSome = true) : choose s = s := by
  unfold choose
  split
  · rfl
  · cases hx : s.link.tx with
    | none => simp [hx] at h
    | some f => rfl

theorem choose_power (s : State) : (choose s).power = s.power :=
  (choose_keeps s).1 .power (by decide)

/-! ### A taken request -/

theorem receives_power {s : State} (h : s.receives = true) : s.power = .running := by
  simp only [State.receives, Bool.and_eq_true, decide_eq_true_eq] at h
  exact h.1

/-- A request that the link takes is executed on the state with its slot held, and a free transmitter
chooses afterwards. -/
theorem request_taken {rq : Request} {s : State} (owner : Owner) (after : State → State)
    (h : Takes rq s) :
    request owner after rq s = choose (after (execute owner rq (takeSlot rq (choose s)))) := by
  obtain ⟨hr, hc, hs, hl⟩ := h
  have hcache : (choose s).link.cached? rq.key = none := by
    have := (choose_keeps s).2.2.2.1
    simpa [Link.cached?, this] using hc
  have hlt : (choose s).link.slots.length < Config.requestSlots := hl
  simp [request, hr, goodFrame, decideFrame, hcache, hs, hlt]

/-- The same for an owner that answers at once. -/
theorem request_answered {rq : Request} {s t : State} {status : Status} {results : Results}
    (f : Request → State → State × Status × Results) (after : State → State) (h : Takes rq s)
    (hf : f rq (takeSlot rq (choose s)) = (t, status, results)) :
    request (answering f) after rq s = choose (after (completeReply rq.key rq.kind status results t)) := by
  rw [request_taken _ _ h]
  simp [execute, answering, hf]

/-- The slot that a taken request enters is the only one of its key. -/
theorem slotReply_of_completed {slots : List Slot} {key : RequestKey} {kind : Byte} {frame : ReplyFrame}
    (h : slots.any (fun slot => decide (slot.key = key)) = false) :
    slotReply? (fillSlot (slots ++ [{ key := key, kind := kind, reply := none }]) key frame) key =
      some frame := by
  induction slots with
  | nil => simp [slotReply?, fillSlot]
  | cons a l ih =>
    simp only [List.any_cons, Bool.or_eq_false_iff, decide_eq_false_iff_not] at h
    have := ih h.2
    simpa [slotReply?, fillSlot, h.1] using this

/-- A request answered on a link that its owner has not touched: the reply is the newest of the cache,
and it waits last in the reply list or has begun to leave. -/
theorem completed_answers {rq : Request} {s t : State} {status : Status} {results : Results}
    (h : Takes rq s) (hlink : t.link = (takeSlot rq (choose s)).link) (hp : t.power = .running) :
    Answered rq status results s (choose (completeReply rq.key rq.kind status results t)) := by
  have hk := choose_keeps s
  refine ⟨?_, ?_⟩
  · rw [(choose_keeps _).2.2.2.1]
    simp [completeReply, Link.complete, hlink, takeSlot, replyTo, hk.2.2.2.1, hk.2.2.2.2]
  · have hslot := slotReply_of_completed (kind := rq.kind)
      (frame := replyTo rq status results s.link.serial) h.2.2.1
    have hl : (completeReply rq.key rq.kind status results t).link =
        (takeSlot rq (choose s)).link.complete rq.key rq.kind status results := by
      simp [completeReply, hlink]
    unfold choose
    rw [if_neg (by simp [completeReply, hp])]
    rw [hl]
    cases htx : (choose s).link.tx with
    | some f =>
      left
      simp [takeSlot, Link.complete, htx, hl]
    | none =>
      cases hrep : (choose s).link.replies with
      | nil =>
        right
        simp only [takeSlot, State.withLink_link, Link.complete, htx, hrep, List.nil_append,
          WaitingReply.frame?, replyTo] at hslot ⊢
        rw [hk.2.2.2.2]
        rw [hslot]
        rfl
      | cons e rest =>
        left
        simp [takeSlot, Link.complete, htx, hrep]

/-- What a request answered on an untouched link leaves alone, by what its owner leaves alone. -/
theorem completed_keeps {rq : Request} {s t : State} {status : Status} {results : Results}
    {changed : List Part} (hk : Keeps (.link :: .notices :: changed) (takeSlot rq (choose s)) t)
    (hlink : t.link = (takeSlot rq (choose s)).link) (hn : NoticesAside (choose s) t) :
    RequestKeeps changed s (choose (completeReply rq.key rq.kind status results t)) := by
  have h0 := choose_keeps s
  have h1 := choose_keeps (completeReply rq.key rq.kind status results t)
  have hsub : ∀ p ∈ [Part.link, Part.notices], p ∈ Part.link :: .notices :: changed := by
    intro p hp; simp at hp; rcases hp with h | h <;> simp [h]
  have htake : Keeps (.link :: .notices :: changed) (choose s) (takeSlot rq (choose s)) := by
    intro p hp; cases p <;> first | rfl | simp at hp
  have hcomp : Keeps (.link :: .notices :: changed) t (completeReply rq.key rq.kind status results t) := by
    intro p hp; cases p <;> first | rfl | simp at hp
  refine ⟨?_, ?_, ?_⟩
  · exact ((((h0.1.weaken hsub).trans htake).trans hk).trans hcomp).trans (h1.1.weaken hsub)
  · refine (h0.2.1.trans ?_).trans h1.2.1
    simp [LinkAside, completeReply, Link.complete, hlink, takeSlot]
  · refine (h0.2.2.1.trans ?_).trans h1.2.2.1
    simpa [completeReply, NoticesAside] using hn

/-- Everything about a taken request whose owner answers at once, in state `t`, without touching the link:
it is answered, the parts but the link and the notices are those of `t`, the link is left alone besides the
reply, and so are the notices that the owner leaves. -/
theorem answered_request {rq : Request} {s t : State} {status : Status} {results : Results}
    (f : Request → State → State × Status × Results) (h : Takes rq s)
    (hf : f rq (takeSlot rq (choose s)) = (t, status, results))
    (hlink : t.link = (takeSlot rq (choose s)).link) (hp : t.power = s.power) :
    ∃ u, request (answering f) id rq s = u ∧ Answered rq status results s u ∧
      Keeps [.link, .notices] t u ∧ LinkAside s u ∧ NoticesAside t u ∧
      (NoticesAside s t → NoticesAside s u) := by
  have hrun : t.power = .running := hp.trans (receives_power h.1)
  have h0 := choose_keeps s
  have h1 := choose_keeps (completeReply rq.key rq.kind status results t)
  have hcomp : Keeps [.link, .notices] t (completeReply rq.key rq.kind status results t) := by
    intro p hp; cases p <;> first | rfl | simp at hp
  have hn : NoticesAside t (completeReply rq.key rq.kind status results t) := ⟨rfl, rfl⟩
  refine ⟨_, request_answered f id h hf, completed_answers h hlink hrun, hcomp.trans h1.1, ?_,
    hn.trans h1.2.2.1, fun hs => hs.trans (hn.trans h1.2.2.1)⟩
  refine (h0.2.1.trans ?_).trans h1.2.1
  simp [LinkAside, completeReply, Link.complete, hlink, takeSlot]

/-- The parts of the state in which a request is taken: those before it but the link and the notices. -/
theorem taken_keeps (rq : Request) (s : State) : Keeps [.link, .notices] s (takeSlot rq (choose s)) := by
  refine (choose_keeps s).1.trans ?_
  intro p hp; cases p <;> first | rfl | simp at hp

/-- The notices of the state in which a request is taken say what they said. -/
theorem taken_notices (rq : Request) (s : State) : NoticesAside s (takeSlot rq (choose s)) :=
  (choose_keeps s).2.2.1

end Sys2Proof.Machine
end

