-- ==== Sys2Proof/Laws/Feed.lean ====
section
/-! SUPPORT. What the operations of the feed controller leave alone, and the feed states they end in. -/

namespace Sys2Proof.Machine

/-! ### Frames -/

@[simp] theorem State.onFeed_feed (s : State) (f) : (s.onFeed f).feed = f s.feed := rfl
@[simp] theorem State.onFeed_link (s : State) (f) : (s.onFeed f).link = s.link := rfl
@[simp] theorem State.onFeed_notices (s : State) (f) : (s.onFeed f).notices = s.notices := rfl
@[simp] theorem State.onFeed_power (s : State) (f) : (s.onFeed f).power = s.power := rfl
@[simp] theorem State.onFeed_composer (s : State) (f) : (s.onFeed f).composer = s.composer := rfl
@[simp] theorem State.onFeed_settings (s : State) (f) : (s.onFeed f).settings = s.settings := rfl
@[simp] theorem State.onFeed_clock (s : State) (f) : (s.onFeed f).clock = s.clock := rfl
@[simp] theorem State.onFeed_ring (s : State) (f) : (s.onFeed f).ring = s.ring := rfl
@[simp] theorem State.onFeed_sensors (s : State) (f) : (s.onFeed f).sensors = s.sensors := rfl

theorem State.onFeed_keeps (s : State) (f) : Keeps [.feed] s (s.onFeed f) := by
  intro p hp; cases p <;> first | rfl | simp at hp

/-! ### Pending stops -/

@[simp] theorem PendingStops.none_any : PendingStops.none.any = false := rfl

/-- With a condition recorded some stop is pending. -/
theorem PendingStops.addCondition_any (p : PendingStops) (hostMotion : Bool) (c : Condition) :
    (p.addCondition hostMotion c).any = true := by
  unfold PendingStops.addCondition
  split
  · simp [PendingStops.any]
  · split <;> simp_all [PendingStops.any]

/-- The first condition recorded stays the cause (R137). -/
theorem PendingStops.addCondition_cause {p : PendingStops} {first : PendingCondition}
    (h : p.condition = some first) (hostMotion : Bool) (c : Condition) :
    (p.addCondition hostMotion c).condition.map PendingCondition.cause = some first.cause := by
  simp [PendingStops.addCondition, h]

/-- A position is valid when no MEDIA_OUT is its cause, is in the set or has joined it (R137, R143). -/
theorem positionValid_iff (joined : Bool) (cause : PauseCause) (s : State) :
    positionValid joined cause s = true ↔
      joined = false ∧ cause ≠ .mediaOut ∧ s.conditions.mediaOut = false := by
  simp [positionValid, and_assoc]

/-- The parts that the feed controller changes when it decides what to do next. -/
def feedParts : List Part := [.composer, .ring, .feed]


theorem callStep_keeps (d) (s : State) : Keeps [.feed] s (callStep d s) := by
  unfold callStep startStep; split <;> exact State.onFeed_keeps _ _

theorem callBurn_keeps (s : State) : Keeps [.feed] s (callBurn s) := by
  unfold callBurn startBurn; split <;> exact State.onFeed_keeps _ _

theorem callStep_link (d) (s : State) : (callStep d s).link = s.link := callStep_keeps d s .link (by decide)

theorem callStep_state (d) (s : State) : (callStep d s).feed.state = s.feed.state := by
  unfold callStep startStep; split <;> rfl

theorem callBurn_state (s : State) : (callBurn s).feed.state = s.feed.state := by
  unfold callBurn startBurn; split <;> rfl

theorem State.changePage_keeps (s : State) (id f) : Keeps [.composer] s (s.changePage id f) := by
  intro p hp; cases p <;> first | rfl | simp at hp

theorem State.withRing_keeps (s : State) (r) : Keeps [.ring] s (s.withRing r) := by
  intro p hp; cases p <;> first | rfl | simp at hp

theorem requestBand_keeps (t) (s : State) : Keeps feedParts s (requestBand t s) := by
  unfold requestBand
  split
  · exact (((State.withRing_keeps _ _).weaken (by decide)).trans ((State.onFeed_keeps _ _).weaken (by decide))).trans ((callBurn_keeps _).weaken (by decide))
  · exact (((State.withRing_keeps _ _).weaken (by decide)).trans ((State.onFeed_keeps _ _).weaken (by decide))).trans ((State.changePage_keeps _ _ _).weaken (by decide))

theorem printLine_keeps (s : State) : Keeps feedParts s (printLine s) := by
  unfold printLine
  split
  · exact ((State.onFeed_keeps _ _).weaken (by decide)).trans ((callBurn_keeps _).weaken (by decide))
  · split
    · exact ((State.onFeed_keeps _ _).weaken (by decide)).trans (requestBand_keeps _ _)
    · exact ((State.onFeed_keeps _ _).weaken (by decide))

theorem enterSeek_keeps (s : State) : Keeps feedParts s (enterSeek s) := by
  unfold enterSeek
  split
  · exact printLine_keeps s
  · exact ((State.onFeed_keeps _ _).weaken (by decide)).trans ((callStep_keeps _ _).weaken (by decide))

theorem pause_keeps (c x) (s : State) :
    Keeps feedParts s (pause c x s) := (State.onFeed_keeps _ _).weaken (by decide)

theorem pauseSeek_keeps (c) (s : State) : Keeps feedParts s (pauseSeek c s) := by
  unfold pauseSeek; split <;> exact pause_keeps _ _ _

theorem keepParked_keeps (c) (s : State) : Keeps feedParts s (keepParked c s) := by
  unfold keepParked; split
  · exact Keeps.refl _ _
  · exact (State.onFeed_keeps _ _).weaken (by decide)

theorem pauseBackfeed_keeps (j c) (s : State) : Keeps feedParts s (pauseBackfeed j c s) := by
  unfold pauseBackfeed; split
  · exact pauseSeek_keeps _ _
  · exact (pause_keeps _ _ _).trans (keepParked_keeps _ _)

theorem beginHead_keeps (s : State) : Keeps [.composer] s (beginHead s) := by
  unfold beginHead; split
  · exact State.changePage_keeps _ _ _
  · exact Keeps.refl _ _

theorem start_keeps (s : State) : Keeps feedParts s (start s) := by
  unfold start; dsimp only; split
  · exact ((beginHead_keeps _).weaken (by decide)).trans (pauseBackfeed_keeps _ _ _)
  · split
    · exact ((beginHead_keeps _).weaken (by decide)).trans (enterSeek_keeps _)
    · exact (((beginHead_keeps _).weaken (by decide)).trans ((State.onFeed_keeps _ _).weaken (by decide))).trans ((callStep_keeps _ _).weaken (by decide))


/-! ### The feed state that an operation leaves -/


theorem printLine_state (s : State) : (printLine s).feed.state = .printing ∨ (printLine s).feed.state = .stalled := by
  unfold printLine
  split
  · left; rw [callBurn_state]; rfl
  · split
    · unfold requestBand; split
      · left; rw [callBurn_state]; rfl
      · right; rfl
    · left; rfl

theorem enterSeek_not_idle (s : State) : (enterSeek s).feed.state ≠ .idle := by
  unfold enterSeek; split
  · rcases printLine_state s with h | h <;> simp [h]
  · rw [callStep_state]; simp [State.enter]

theorem keepParked_state (b) (s : State) : (keepParked b s).feed.state = s.feed.state := by
  unfold keepParked; split <;> rfl

theorem pauseSeek_state (c) (s : State) : ∃ x, (pauseSeek c s).feed.state = .paused c x := by
  unfold pauseSeek; split <;> exact ⟨_, rfl⟩

theorem pauseBackfeed_state (j c) (s : State) :
    ∃ x, (pauseBackfeed j c s).feed.state = .paused c x := by
  unfold pauseBackfeed; split
  · exact pauseSeek_state _ _
  · rw [keepParked_state]; exact ⟨_, rfl⟩

theorem start_not_idle (s : State) : (start s).feed.state ≠ .idle := by
  unfold start; dsimp only; split
  · obtain ⟨x, h⟩ := pauseBackfeed_state _ _ (beginHead s); rw [h]; simp
  · split
    · exact enterSeek_not_idle _
    · rw [callStep_state]; simp [State.enter]

/-! ### What an operation decides -/

theorem callStep_steps (d) {f : Feed} {s : State} (hp : f.stepStarted = s.feed.stepStarted)
    (hi : f.inFlight = s.feed.inFlight) : Steps d f (callStep d s) := by
  unfold Steps callStep
  rw [hp, hi]
  cases s.feed.stepStarted <;> simp [startStep]

theorem callBurn_burns {f : Feed} {s : State} (h : s.feed.state = .printing)
    (hp : f.burnStarted = s.feed.burnStarted) (hi : f.inFlight = s.feed.inFlight) :
    Burns f (callBurn s) := by
  refine ⟨by rw [callBurn_state, h], ?_⟩
  unfold callBurn
  rw [hp, hi]
  cases s.feed.burnStarted
  · exact ⟨rfl, rfl, rfl, rfl⟩
  · exact ⟨rfl, rfl⟩

/-- The cursor's position does not read a page's counters. -/
theorem reportStall_cursorTag? (id : Nat) (s : State) :
    (reportStall id s).cursorTag? = s.cursorTag? := by
  have h (j : Nat) : ((reportStall id s).page? j).map (fun p => (p.id, p.copiesDone)) =
      (s.page? j).map fun p => (p.id, p.copiesDone) := by
    unfold reportStall onActive
    rw [State.page?_changePage _ _ _ _ (fun p => by split <;> rfl)]
    split
    · cases s.page? j with
      | none => rfl
      | some p => simp only [Option.map_some]; split <;> rfl
    · rfl
  unfold State.cursorTag? State.cursor? State.headPage?
  change Option.map _ (Option.map _ (s.composer.queue.head?.bind (reportStall id s).page?)) = _
  cases s.composer.queue.head? with
  | none => rfl
  | some j =>
    have h := h j
    cases h1 : (reportStall id s).page? j <;> cases h2 : s.page? j <;> simp_all
    rfl

/-- An ACTIVE page that is reported stalled has counted a stall. -/
theorem reportStall_counts {id : Nat} {s : State} {p : Page} (h : (reportStall id s).page? id = some p)
    (ha : p.state = .active) : 1 ≤ p.stalls := by
  unfold reportStall onActive at h
  rw [State.page?_changePage _ _ _ _ (fun p => by split <;> rfl), if_pos rfl] at h
  obtain ⟨q, -, rfl⟩ := Option.map_eq_some_iff.mp h
  split at ha
  · rename_i hq; simp [hq, saturate, Config.counterTop]
  · contradiction

theorem callBurn_cursorTag? (s : State) : (callBurn s).cursorTag? = s.cursorTag? := by
  unfold callBurn; split <;> rfl

/-- What a band request decides (R102, R120). -/
theorem requestBand_decides {s : State} (tag : Tag) :
    (requestBand tag s).cursorTag? = s.cursorTag? ∧
    match s.ring.oldestReady? tag with
    | some i => Burns s.feed (requestBand tag s) ∧ (requestBand tag s).ring.stateOf i = .draining tag
    | none =>
      (requestBand tag s).feed.state = .stalled ∧
      (requestBand tag s).feed.inFlight = s.feed.inFlight ∧
      (requestBand tag s).ring.waiting = some tag ∧
      ∀ p, (requestBand tag s).page? tag.page = some p → p.state = .active → 1 ≤ p.stalls := by
  unfold requestBand
  cases s.ring.oldestReady? tag with
  | some i =>
    refine ⟨callBurn_cursorTag? _, callBurn_burns rfl rfl rfl, ?_⟩
    rw [(callBurn_keeps _) .ring (by decide)]
    exact (BandRing.stateOf_setState ..).trans (if_pos rfl)
  | none => exact ⟨reportStall_cursorTag? _ _, rfl, rfl, rfl, fun _ => reportStall_counts⟩

/-- What PRINTING at a boundary decides (R102, R119, R120). -/
theorem printLine_prints (s : State) : Prints s.feed s.ring (printLine s) := by
  unfold printLine
  cases hd : s.ring.draining? with
  | some i => exact ⟨fun _ => callBurn_burns rfl rfl rfl, fun h => by simp [hd] at h⟩
  | none =>
    refine ⟨fun h => by simp [hd] at h, fun _ tag ht => ?_⟩
    cases hc : s.cursorTag? with
    | none => simp only [hc] at ht; exact absurd (hc.symm.trans ht) (by simp)
    | some tag' =>
      obtain ⟨hk, hb⟩ := requestBand_decides (s := s.enter .printing) tag'
      simp only [hc] at ht ⊢
      obtain rfl : tag' = tag := Option.some.inj ((hc.symm.trans hk.symm).trans ht)
      exact hb

/-- What SEEK entered afresh decides (R117, R118). -/
theorem enterSeek_seeks (s : State) : Seeks s.feed s.ring (enterSeek s) := by
  unfold Seeks enterSeek
  split
  · rw [if_pos (by rwa [(printLine_keeps s) .settings (by decide)])]
    exact printLine_prints s
  · rw [if_neg (by rwa [(callStep_keeps _ _) .settings (by decide)])]
    refine ⟨?_, callStep_steps _ rfl rfl⟩
    rw [callStep_state, (callStep_keeps _ _) .settings (by decide)]
    rfl

/-! ### The measured pitch, which no decision of the feed changes -/

theorem callStep_pitch (d) (s : State) : (callStep d s).feed.pitch = s.feed.pitch := by
  unfold callStep startStep; split <;> rfl

theorem callBurn_pitch (s : State) : (callBurn s).feed.pitch = s.feed.pitch := by
  unfold callBurn startBurn; split <;> rfl

theorem printLine_pitch (s : State) : (printLine s).feed.pitch = s.feed.pitch := by
  unfold printLine
  split
  · exact callBurn_pitch _
  · split
    · unfold requestBand; split
      · exact callBurn_pitch _
      · rfl
    · rfl

theorem enterSeek_pitch (s : State) : (enterSeek s).feed.pitch = s.feed.pitch := by
  unfold enterSeek; split
  · exact printLine_pitch _
  · exact callStep_pitch _ _

theorem pauseBackfeed_pitch (j c) (s : State) : (pauseBackfeed j c s).feed.pitch = s.feed.pitch := by
  unfold pauseBackfeed pauseSeek keepParked pause
  repeat' split
  all_goals rfl

theorem beginHead_feed (s : State) : (beginHead s).feed = s.feed := beginHead_keeps s .feed (by decide)

theorem start_pitch (s : State) : (start s).feed.pitch = s.feed.pitch := by
  unfold start; dsimp only; rw [← congrArg Feed.pitch (beginHead_feed s)]; split
  · exact pauseBackfeed_pitch _ _ _
  · split
    · exact enterSeek_pitch _
    · exact callStep_pitch _ _

theorem enterIdle_pitch (s : State) : (enterIdle s).feed.pitch = s.feed.pitch := by
  unfold enterIdle startDecision; split
  · exact start_pitch _
  · rfl

/-- The boundary of a reset keeps the pitch (R134): a RESET(ALL) makes it 0 in a step of its own (R212). -/
theorem stopForReset_pitch (scope) (s : State) : (stopForReset scope s).feed.pitch = s.feed.pitch := by
  have h : (if scope = .all then s.onFeed fun f => { f with parked := 0 } else s).feed.pitch =
      s.feed.pitch := by split <;> rfl
  unfold stopForReset; dsimp only
  split <;> exact (enterIdle_pitch _).trans h

end Sys2Proof.Machine
end

