-- ==== Sys2Proof/Tests/Slice0.lean ====
section
/-! SUPPORT. Tests of the model. Their expected results come from the manual's worked examples or from
hand calculation; each names its source. The theorems named `witness_…` show, for each obligation with
hypotheses, a state and operands that meet them together. -/

set_option Elab.async false

namespace Sys2Proof.Tests

open Sys2Proof Sys2Proof.Machine

/-! ### Helpers -/

/-- The outcome is a next state that passes a check. -/
def nextIs (o : Host.Outcome State Fault Refusal) (p : State → Bool) : Bool :=
  match o with
  | .next t => p t
  | .fault _ => false
  | .refused _ => false

/-- The state after some commands, or before them if one is not answered. -/
def after (cs : List Instr) (s : State) : State :=
  match runCommands cs s with
  | .next t => t
  | .fault _ => s
  | .refused _ => s

/-- A part that has started, whose READY notice is sent and acknowledged. -/
def quiet : State :=
  (State.reset.withNotices { State.reset.notices with entries := [] }).withLink
    { State.reset.link with tx := none }

/-- A part whose transmitter is busy. -/
def busy : State := quiet.withLink { quiet.link with
  tx := some (.notice { number := 0, revision := 0, content := .ready .power (Config.identity .baud57600) }) }

/-- A page of 100 lines, 2 bands and 2 copies, without objects. -/
def page (id : Nat) (state : PageState) : Page :=
  { id := id, state := state, width := 832, length := 100, bandCount := 2, copiesOrdered := 2,
    copiesDone := 0, reprints := 0, stalls := 0, edges := 0, culled := 0, substitutions := 0,
    skipped := 0, storedCount := 0, objects := [], bandLists := [[], []], ended := none }

/-- A part with these pages in its table and these ids in its print queue. -/
def holding (pages : List Page) (queue : List Nat) : State :=
  quiet.withComposer { quiet.composer with pages := pages, queue := queue, lastId := 5 }

/-- A part whose feed is in this state. -/
def feeding (state : FeedState) (s : State) : State := s.onFeed fun f => { f with state := state }

/-- A part that is printing line 0 of copy 0 of page 1, its burn in flight, with one object on it. -/
def printing : State :=
  after [.config 1 [2, 0, 0], .pageOpen 2 (le16 100 ++ le16 2),
    .objectAdd 3 [1, 0, 1, 0, 0, 0, 0, 0, 60, 0, 64, 0, 10, 0], .transmitFrameEnd, .pageClose 4 [1, 0],
    .objectBoundary, .objectBoundary, .transmitFrameEnd] quiet

/-! ### WellFormed: each check refuses an ill-formed command -/

theorem test_wf_unknown_kind_is_not_of_the_table : (Instr.unknownKind 1 0x20 []).wf = false := by decide
theorem test_wf_unknown_kind_payload : (Instr.unknownKind 1 0x77 (List.replicate 1025 0)).wf = false := by
  decide +kernel
theorem test_wf_payload_fits :
    ([Instr.hello 1, .status 1, .config 1, .noticeAck 1, .assetBegin 1, .assetData 1, .assetEnd 1,
      .assetDrop 1, .assetQuery 1, .pageOpen 1, .objectAdd 1, .pageClose 1, .pageCancel 1, .pageQuery 1,
      .feed 1, .calibrate 1, .stop 1, .hold 1, .release 1].all fun c =>
        !(c (List.replicate 1025 0)).wf && (c (List.replicate 1024 0)).wf) = true := by decide +kernel
theorem test_wf_accepts : (Instr.unknownKind 1 0x77 []).wf = true ∧ Instr.transmitFrameEnd.wf = true := by
  decide

/-- No row of the table gives bits, so no word spells a command and the queue stays as it is. -/
theorem test_no_word_spells_a_command :
    decodeTableWord 16 0x1234 = none ∧ quiet.withFetchWord 16 0x1234 = quiet := by decide +kernel

/-! ### Checksums: the check values of R176 and R161 over "123456789" -/

/-- "123456789" in ASCII. -/
def digits : List Byte := [0x31, 0x32, 0x33, 0x34, 0x35, 0x36, 0x37, 0x38, 0x39]

theorem test_crc16_check_value : crc16 digits = 0x29B1#16 := by decide +kernel
theorem test_crc32_check_value : crc32 digits = 0xCBF43926#32 := by decide +kernel

/-! ### Witnesses: the queue of commands, start-up and the reset line -/

theorem witness_StepRunsTheFrontCommand :
    (printing.withPending [.hold 9 [], .status 8 []]).pending = .hold 9 [] :: [.status 8 []] ∧
    (State.blank.pending = [] ∧ State.blank.power ≠ .running) ∧
    (busy.pending = [] ∧ busy.power = .running ∧ busy.link.tx.isSome = true) ∧
    (quiet.pending = [] ∧ quiet.power = .running) := by decide +kernel

/-- A part held in reset by its reset line. -/
def held : State := after [.resetLineAssert] printing

theorem witness_LinkAfterStartUpAndWhileClosed :
    printing.power ≠ .off ∧ held.power ≠ .off ∧ held.link.receiver.phase = .closed ∧
    State.blank.link.receiver.phase = .closed ∧
    requestFor (.hold 3 []) = some (requestOf 3 0x33 []) := by decide +kernel

theorem witness_ResetLineAndSupplyLossClear :
    State.blank.power = .off ∧ printing.power ≠ .off ∧ held.power ≠ .off := by decide +kernel

theorem witness_NothingActsWithoutPower :
    State.blank.power ≠ .running ∧ held.power ≠ .running ∧
    (∀ cause rate1 rate0 coverClosed mediaPresent,
      Instr.hold 3 [] ≠ .startUp cause rate1 rate0 coverClosed mediaPresent) ∧
    Instr.hold 3 [] ≠ .resetLineAssert ∧ Instr.hold 3 [] ≠ .supplyLoss := by
  refine ⟨by decide +kernel, by decide +kernel, by intros; simp, by simp, by simp⟩

/-! ### Witnesses: the receiver -/

/-- A part whose receiver holds these bytes of a frame in this state. -/
def receiving (phase : ReceiverPhase) (bytes : List Byte) : State :=
  quiet.withLink { quiet.link with receiver := { phase := phase, held := bytes, lastByteAt := 0 } }

theorem witness_ReceiverTakesBytes :
    quiet.power = .running ∧ quiet.link.receiver.phase = .hunt ∧ (0x33 : Byte) ≠ 0xA7 ∧
    ((receiving .header [0xA7]).link.receiver.phase = .header ∧ headerBad [0xA7, 0x01] = false) ∧
    headerBad [0xA7, 0x01, 0x07, 0x02, 0x00, 0x00] = false ∧
    headerBad [0xA7, 0x01, 0x07, 0x02, 0x00, 0x04] = false ∧
    (receiving .payload [0xA7, 0x01, 0x07, 0x34, 0x01, 0x00]).link.receiver.phase = .payload ∧
    ((receiving .check [0xA7, 0x01, 0x07, 0x02, 0x00, 0x00]).link.receiver.phase = .check ∧
      [(0xA7 : Byte), 0x01, 0x07, 0x02, 0x00, 0x00, 0x55].length ≠
        8 + headerLength [0xA7, 0x01, 0x07, 0x02, 0x00, 0x00, 0x55]) := by decide +kernel

theorem witness_HeaderErrorCountsAndHunts :
    (receiving .header [0xA7]).power = .running ∧
    (receiving .header [0xA7]).link.receiver.phase = .header ∧
    headerBad ([0xA7] ++ [0x05]) = true ∧ 0xA7 ∉ ([(0xA7 : Byte)] ++ [0x05]).drop 1 ∧
    headerBad ([0xA7] ++ [0xA7]) = true ∧
    headerBad ([0xA7, 0x01, 0x07, 0x02, 0x01] ++ [0x04]) = true := by decide +kernel

theorem witness_TimeoutDiscardsTheFrame :
    quiet.power = .running ∧ quiet.link.receiver.phase = .hunt ∧
    (receiving .closed []).link.receiver.phase = .closed ∧
    ((receiving .payload [0xA7]).power = .running ∧
      (receiving .payload [0xA7]).link.receiver.phase ≠ .hunt ∧
      (receiving .payload [0xA7]).link.receiver.phase ≠ .closed) := by decide +kernel

/-- A STATUS frame whose first CRC byte is wrong, but for its last byte. -/
def spoiled : List Byte := [0xA7, 0x01, 0x07, 0x02, 0x00, 0x00, 0x55]

theorem witness_CrcErrorIsCountedAndDiscarded :
    (receiving .check spoiled).power = .running ∧
    (receiving .check spoiled).link.receiver.phase = .check ∧
    (spoiled ++ [0x66]).length = 8 + headerLength (spoiled ++ [0x66]) ∧
    (spoiled ++ [0x66]).drop (6 + headerLength (spoiled ++ [0x66])) ≠
      be16 (crc16 (((spoiled ++ [0x66]).drop 1).take (5 + headerLength (spoiled ++ [0x66])))) := by
  decide +kernel

theorem witness_FrameBytesAreTheRequest :
    requestFor (.pageOpen 3 (le16 100 ++ le16 1)) = some (requestOf 3 0x20 (le16 100 ++ le16 1)) ∧
    (requestOf 3 0x20 (le16 100 ++ le16 1)).payload.length ≤ 1024 ∧
    requestFor (.assetData 3 (List.replicate 1024 0)) =
      some (requestOf 3 0x11 (List.replicate 1024 0)) ∧
    (requestOf 3 0x11 (List.replicate 1024 0)).payload.length ≤ 1024 ∧
    quiet.power = .running ∧ quiet.link.receiver.phase = .hunt ∧
    (let body := frameBody 0x01 3 0x20 (le16 100 ++ le16 1);
      let bytes := (0xA7 : Byte) :: body ++ [byteOf ((crc16 body).toNat / 256)];
      (receiving .check bytes).power = .running ∧ (receiving .check bytes).link.receiver.phase = .check ∧
      (receiving .check bytes).link.receiver.held = bytes) := by
  rw [show requestFor (.assetData 3 (List.replicate 1024 0)) =
    some (requestOf 3 0x11 (List.replicate 1024 0)) from rfl]
  simp only [requestOf, List.length_replicate, true_and]
  decide +kernel

/-! ### Witnesses: requests, replies and the transmitter -/

/-- The HOLD request of seq 3. -/
def holdRequest : Request := requestOf 3 0x33 []

/-- The cache entry of a HOLD that was answered. -/
def holdAnswered : CacheEntry := { key := holdRequest.key, frame := replyTo holdRequest .ok .empty 0 }

/-- The slot of a request that waits for its motion. -/
def motionSlot (seq : Byte) : Slot := { key := { seq := seq, crc := 0 }, kind := 0x30, reply := none }

/-- A busy link with these slots, cache entries and waiting replies. -/
def linked (slots : List Slot) (cache : List CacheEntry) (replies : List WaitingReply) : State :=
  busy.withLink { busy.link with slots := slots, cache := cache, replies := replies }

/-- Four NO_SLOT answers that wait. -/
def fourRefusals : List WaitingReply := List.replicate 4 (.refusal (replyTo holdRequest .noSlot .empty 0))

/-- The slots of four other requests. -/
def fourSlots : List Slot := [motionSlot 10, motionSlot 11, motionSlot 12, motionSlot 13]

/-- The slot of the HOLD request itself. -/
def holdSlot : Slot := { key := holdRequest.key, kind := 0x33, reply := some holdAnswered.frame }

theorem witness_RepeatsAndFullSlots :
    requestFor (.hold 3 []) = some holdRequest ∧
    (let s := linked [] [holdAnswered] [.resend holdRequest.key holdAnswered.frame];
      s.receives = true ∧ s.link.tx.isSome = true ∧
      s.link.cached? holdRequest.key = some holdAnswered ∧
      s.link.replies.any (WaitingReply.answers holdRequest.key) = true) ∧
    (let s := linked [] [holdAnswered] (fourRefusals.drop 1);
      s.receives = true ∧ s.link.tx.isSome = true ∧
      s.link.cached? holdRequest.key = some holdAnswered ∧
      s.link.replies.any (WaitingReply.answers holdRequest.key) = false ∧
      s.link.replies.countP WaitingReply.unslotted < 4) ∧
    (let s := linked [] [holdAnswered] fourRefusals;
      s.receives = true ∧ s.link.tx.isSome = true ∧
      s.link.cached? holdRequest.key = some holdAnswered ∧
      4 ≤ s.link.replies.countP WaitingReply.unslotted) ∧
    (let s := linked [holdSlot] [] [];
      s.receives = true ∧ s.link.tx.isSome = true ∧ s.link.cached? holdRequest.key = none ∧
      s.link.inSlot holdRequest.key = true) ∧
    (let s := linked fourSlots [] (fourRefusals.drop 1);
      s.receives = true ∧ s.link.tx.isSome = true ∧ s.link.cached? holdRequest.key = none ∧
      s.link.inSlot holdRequest.key = false ∧ 4 ≤ s.link.slots.length ∧
      s.link.replies.countP WaitingReply.unslotted < 4) ∧
    (let s := linked fourSlots [] fourRefusals;
      s.receives = true ∧ s.link.tx.isSome = true ∧ s.link.cached? holdRequest.key = none ∧
      s.link.inSlot holdRequest.key = false ∧ 4 ≤ s.link.slots.length ∧
      4 ≤ s.link.replies.countP WaitingReply.unslotted) := by decide +kernel

theorem witness_RepeatsExecuteNothing :
    requestFor (.hold 3 []) = some holdRequest ∧
    ((linked [] [holdAnswered] []).receives = true ∧
      ((linked [] [holdAnswered] []).link.cached? holdRequest.key).isSome = true) ∧
    ((linked [holdSlot] [] []).receives = true ∧
      (choose (linked [holdSlot] [] [])).link.inSlot holdRequest.key = true) := by decide +kernel

theorem witness_UnknownKindIsAnswered :
    knownKinds.contains 0x77 = false ∧ Takes (requestOf 3 0x77 [1]) quiet ∧
    Takes (requestOf 3 0x77 [1]) printing := by decide +kernel

/-- A notice with this number. -/
def ready (number : Byte) (sent : Bool) (last : Option Nat) : Notice :=
  { number := number, revision := 0, content := .ready .power (Config.identity .baud57600), sent := sent,
    lastSending := last }

/-- A part with these notices, 300 ms after start-up. -/
def noticed (entries : List Notice) (s : State) : State :=
  (s.withNotices { entries := entries, lastNumber := 9 }).withClock 300000

theorem witness_TransmitterChoosesNext :
    busy.power = .running ∧
    (let s := linked [holdSlot] [holdAnswered] [.ofSlot holdRequest.key];
      s.link.tx.isSome = true ∧ s.link.replies = .ofSlot holdRequest.key :: [] ∧
      (WaitingReply.ofSlot holdRequest.key).frame? s.link.slots = some holdAnswered.frame) ∧
    (let s := noticed [ready 1 true (some 0), ready 2 false none] busy;
      s.link.replies = [] ∧ s.notices.entries = [ready 1 true (some 0)] ++ ready 2 false none :: [] ∧
      (s.notices.entries.map Notice.number).Nodup ∧ (∀ m ∈ [ready 1 true (some 0)], m.sent = true) ∧
      (ready 2 false none).sent = false) ∧
    (let s := noticed [ready 1 true (some 50001), ready 2 true (some 50000)] busy;
      s.link.replies = [] ∧
      s.notices.entries = [ready 1 true (some 50001)] ++ ready 2 true (some 50000) :: [] ∧
      (s.notices.entries.map Notice.number).Nodup ∧ (∀ m ∈ s.notices.entries, m.sent = true) ∧
      (∀ m ∈ [ready 1 true (some 50001)],
        m.due s.clock (s.settings.resendInterval * 1000) = false) ∧
      (ready 2 true (some 50000)).due s.clock (s.settings.resendInterval * 1000) = true) ∧
    (let s := noticed [ready 1 true (some 50001)] busy;
      s.link.replies = [] ∧
      ∀ m ∈ s.notices.entries,
        m.sent = true ∧ m.due s.clock (s.settings.resendInterval * 1000) = false) := by
  decide +kernel

theorem witness_ResendSendsTheFirstDue :
    let s := noticed
      [ready 1 true (some 50002), ready 2 true (some 50001), ready 3 true (some 50001)] quiet;
    s.power = .running ∧ s.link.tx = none ∧ s.link.replies = [] ∧
    s.notices.entries = [ready 1 true (some 50002)] ++ ready 2 true (some 50001) :: [ready 3 true (some 50001)] ∧
    (s.notices.entries.map Notice.number).Nodup ∧ (∀ m ∈ s.notices.entries, m.sent = true) ∧
    (ready 2 true (some 50001)).lastSending = some 50001 ∧
    (∀ m ∈ [ready 1 true (some 50002)], ∃ t, m.lastSending = some t ∧ 50001 < t) ∧
    (∀ m ∈ [ready 3 true (some 50001)], ∃ t, m.lastSending = some t ∧ 50001 ≤ t) ∧
    s.clock ≤ 50001 + s.settings.resendInterval * 1000 := by
  simp only [List.mem_singleton, forall_eq, ready, Option.some.injEq, exists_eq_left']
  decide +kernel

/-! ### Witnesses: the laws that every step keeps -/

/-- A part that prints, its burn waiting to complete. -/
def running : State := printing.withPending [.burnCompletion]

theorem witness_step_answers_next : nextIs (step running) (fun t => t.feed.line = 1) = true := by
  decide +kernel
theorem witness_SlotsAccountedKept : LinkBounds running ∧ SlotsAccounted running := by decide +kernel
theorem witness_SettingsStayInRange : SettingsInRange running.settings := by decide +kernel
theorem witness_NoticeLawKept :
    PageLaw running ∧ (∀ p ∈ running.composer.pages, EntryLaw p) ∧ NoticeLaw running := by decide +kernel
theorem witness_AssetLawKept : AssetLaw running := by decide +kernel
theorem witness_ReferenceLawKept :
    PageLaw running ∧ (∀ p ∈ running.composer.pages, EntryLaw p) ∧ AssetLaw running ∧
    ReferenceLaw running := by decide +kernel
theorem witness_PageLawKept :
    PageLaw running ∧ ∀ p ∈ running.composer.pages, EntryLaw p := by decide +kernel
theorem witness_PoolsAndBinningKept :
    PageLaw running ∧ (∀ p ∈ running.composer.pages, EntryLaw p ∧ BinningLaw p) ∧ PoolLaw running := by
  decide +kernel

/-- The laws of the ring and of the request on the printing part. -/
theorem running_ring : BufferLaw running ∧ RequestLaw running ∧ RingLaw running := by decide +kernel

/-- The laws of the cursor and of motion on the printing part, which does not pause. -/
theorem running_feed :
    CursorLaw running ∧ MotionLaw running ∧ running.feed.state.paused? = none := by decide +kernel

/-- The laws of the head page and of the buffer being printed on the printing part. -/
theorem running_head : HeadLaw running ∧ DrainLaw running := by decide +kernel

theorem witness_PrintingLawKept : PrintingLaw running := by
  obtain ⟨pages, entries⟩ := witness_PageLawKept
  obtain ⟨buffers, requested, inRing⟩ := running_ring
  obtain ⟨cursor, motion, unpaused⟩ := running_feed
  obtain ⟨head, drain⟩ := running_head
  exact ⟨pages, entries, buffers, requested, inRing, cursor, motion, head, drain,
    by simp [ContextLaw, unpaused]⟩

theorem witness_NextBandContinuesThePrintOrder :
    PageLaw running ∧ (∀ p ∈ running.composer.pages, EntryLaw p) ∧ CursorLaw running ∧
    RingLaw running := by decide +kernel

/-! ### Witnesses: HELLO, STATUS, CONFIG and RESET -/

theorem witness_HelloAnswersIdentity :
    (0 : Byte).toNat ≤ 1 ∧ (1 : Byte).toNat ≤ 1 ∧ Takes (requestOf 9 0x01 [0]) printing ∧
    Takes (requestOf 9 0x01 [1]) printing := by decide +kernel

theorem witness_StatusIsOneSnapshot : Takes (requestOf 9 0x02 []) printing := by decide +kernel

/-- Every configuration field at an end of its range. -/
def everyField : List (Field × Nat) :=
  [(.printWidth, 64), (.mediaMode, 2), (.topOffset, 1023), (.tearOffset, 0), (.searchLimit, 32767),
    (.lineRate, 100), (.resendInterval, 2000)]

theorem witness_ConfigSetsTheNamedFields :
    (everyField ≠ [] ∧ (everyField.map Prod.fst).Nodup ∧ (∀ e ∈ everyField, e.1.accepts e.2 = true) ∧
      quiet.feed.state = .idle ∧ quiet.composer.pages = [] ∧
      Takes (requestOf 9 0x03 (configPayload everyField)) quiet) ∧
    ((∀ e ∈ [(Field.resendInterval, 50)], e.1.accepts e.2 = true) ∧
      (∀ e ∈ [(Field.resendInterval, 50)], e.1 = .resendInterval) ∧
      (∀ e ∈ [(Field.resendInterval, 50)], e.1 = .printWidth → e.2 = printing.settings.printWidth) ∧
      Takes (requestOf 9 0x03 (configPayload [(.resendInterval, 50)])) printing) := by decide +kernel

theorem witness_RefusedConfigChangesNothing :
    Takes (requestOf 9 0x03 []) printing ∧
    (Field.topOffset ≠ .resendInterval ∧
      (∀ e ∈ [(Field.resendInterval, 50)], e.1 = .resendInterval) ∧
      (([(Field.resendInterval, 50)] ++ (Field.topOffset, 1023) :: []).map Prod.fst).Nodup ∧
      (∀ e ∈ [(Field.resendInterval, 50)] ++ (Field.topOffset, 1023) :: [], e.1.accepts e.2 = true) ∧
      printing.feed.state ≠ .idle ∧
      Takes (requestOf 9 0x03 (configPayload ([(.resendInterval, 50)] ++ (Field.topOffset, 1023) :: [])))
        printing) := by decide +kernel

theorem witness_ResetPagesDiscards :
    (Takes (requestOf 9 0x04 [0]) printing ∧
      (printing.feed.pending.any = true → printing.feed.standing = false)) ∧
    (let s := feeding .stalled quiet;
      Takes (requestOf 9 0x04 [0]) s ∧ (s.feed.pending.any = true → s.feed.standing = false) ∧
      s.feed.state = .stalled) ∧
    (let s := after [.feed 1 (le16 5)] quiet;
      Takes (requestOf 9 0x04 [0]) s ∧ s.feed.pending.any = false ∧ s.feed.standing = false ∧
      s.feed.state.motionKey?.isSome = true) ∧
    (let s := after [.feed 1 (le16 5), .stepCompletion .labelOrNoMark] quiet;
      Takes (requestOf 9 0x04 [0]) s ∧ s.feed.pending.any = false ∧ s.feed.standing = true ∧
      s.feed.state.motionKey?.isSome = true) := by decide +kernel

/-- Sixteen notices. -/
def sixteen : List Notice := (List.range 16).map fun n => ready (BitVec.ofNat 8 n) true (some 0)

/-- A CALIBRATE that waits for its line period at a line boundary, with pitch 77 stored. -/
def calibratingAtBoundary : State :=
  (after [.calibrate 1 [], .stepCompletion .labelOrNoMark] quiet).onFeed fun f => { f with pitch := 77 }

theorem witness_ResetAllRestores_motion :
    let s := calibratingAtBoundary;
    Takes (requestOf 9 0x04 [1]) s ∧ s.notices.entries.length ≤ 16 ∧ SlotsAccounted s ∧
    s.feed.pending.any = false ∧ s.feed.standing = true ∧
    s.feed.state.motionKey? = some (requestOf 1 0x31 []).key := by decide +kernel

/-- R129, R212: the STOPPED reply gives the stored pitch, and the pitch is 0 after the reset. -/
theorem test_reset_all_reports_the_stored_pitch :
    nextIs (exec (.resetAll 9) calibratingAtBoundary) (fun t => decide (t.feed.pitch = 0) &&
      match t.link.tx with
      | some (.reply frame) =>
        decide (frame.status = .stopped ∧ frame.results = .calibrate 77 (some 1))
      | _ => false) = true := by decide +kernel

theorem witness_ResetAllRestores_pending :
    let s := ((after [.calibrate 1 []] quiet).onFeed fun f => { f with pitch := 77 }).withPending
      [.resetAll 9];
    (s.feed.pending.reset = some .all → s.feed.pitch = 0) ∧
    nextIs (step s) (fun t => decide (t.feed.pending.reset = some .all)) = true := by decide +kernel

theorem witness_ResetAllRestores :
    (Takes (requestOf 9 0x04 [1]) printing ∧ printing.notices.entries.length ≤ 16) ∧
    (Takes (requestOf 9 0x04 [1]) (noticed sixteen quiet) ∧
      (noticed sixteen quiet).notices.entries.length ≤ 16) := by decide +kernel

/-! ### Witnesses: notices and assets -/

theorem witness_NoticeAckRemovesOrRefuses :
    let s := noticed [ready 7 true (some 299999)] quiet;
    Takes (requestOf 9 0x05 (7 :: le16 (0 : Word16).toNat)) s ∧
    Takes (requestOf 9 0x05 (7 :: le16 (0xFFFF : Word16).toNat)) s ∧
    Takes (requestOf 9 0x05 (8 :: le16 (0 : Word16).toNat)) s ∧
    (s.notices.entries.find? fun n => n.number = 7) = some (ready 7 true (some 299999)) ∧
    (s.notices.entries.find? fun n => n.number = 8) = none := by decide +kernel

theorem witness_AssetBeginReserves :
    (1 ≤ 65535 ∧ geometryAgrees .bitmap 400 300 15000 = true ∧ quiet.asset? 65535 = none ∧
      quiet.assets.table.length < 96 ∧ (15000 + 63) / 64 ≤ quiet.assets.freeBlocks ∧
      Takes (requestOf 9 0x10 (le16 65535 ++ [1] ++ le16 400 ++ le16 300 ++ le32 15000)) quiet) ∧
    (geometryAgrees .pattern 32 32 128 = true ∧
      Takes (requestOf 9 0x10 (le16 1 ++ [2] ++ le16 32 ++ le16 32 ++ le32 128)) quiet) ∧
    (geometryAgrees .font 0 0 53 = true ∧
      Takes (requestOf 9 0x10 (le16 1 ++ [3] ++ le16 0 ++ le16 0 ++ le32 53)) quiet) := by decide +kernel

/-- An asset with this data. -/
def asset (id : Nat) (kind : AssetKind) (w h : Nat) (state : AssetState) (declared : Nat) (data : List Byte)
    (refs : Nat) : Asset :=
  { id := id, kind := kind, width := w, height := h, state := state, declared := declared, data := data,
    refCount := refs, font := none }

/-- The bitmap of chapter 4's example, 3 dots wide and 2 rows high. -/
def smallBitmap (state : AssetState) (refs : Nat) : Asset := asset 12 .bitmap 3 2 state 2 [0xC0, 0x40] refs

/-- The data of chapter 8's small font, with every glyph solid. -/
def smallFont : List Byte :=
  [3, 0, 0x3F, 0, 0x30, 6, 8, 0, 8, 7, 0x31, 10, 8, 0, 8, 11, 0x3F, 5, 7, 0, 7, 6] ++
    List.replicate 31 0xFF

/-- A part with these assets. -/
def storing (table : List Asset) : State := quiet.withAssets { table := table, freeBlocks := 3000 }

theorem witness_AssetDataAppends :
    let a := asset 12 .bitmap 3 2 .loading 2 [0xC0] 0;
    12 ≤ 65535 ∧ [(0x40 : Byte)] ≠ [] ∧ (storing [a]).asset? 12 = some a ∧ a.state = .loading ∧
    a.declared ≤ 65536 ∧ a.received + [(0x40 : Byte)].length ≤ a.declared ∧
    Takes (requestOf 9 0x11 (le16 12 ++ le32 a.received ++ [0x40])) (storing [a]) := by decide +kernel

theorem witness_AssetEndReadiesOrRemoves :
    let a := smallBitmap .loading 0;
    let f := asset 12 .font 0 0 .loading 53 smallFont 0;
    let g := asset 12 .font 0 0 .loading 1 [0] 0;
    let rq := requestOf 9 0x12 (le16 12 ++ le32 (crc32 a.data).toNat);
    ((crc32 a.data).toNat < 4294967296 ∧ (storing [a]).asset? 12 = some a ∧ a.received = a.declared ∧
      ((storing [a]).assets.table.map Asset.id).Nodup ∧ Takes rq (storing [a])) ∧
    ((crc32 a.data).toNat ≠ 0 ∧ Takes (requestOf 9 0x12 (le16 12 ++ le32 0)) (storing [a])) ∧
    (f.received = f.declared ∧ (parseFont f.data).isSome = true ∧
      Takes (requestOf 9 0x12 (le16 12 ++ le32 (crc32 f.data).toNat)) (storing [f])) ∧
    (g.received = g.declared ∧ parseFont g.data = none ∧
      Takes (requestOf 9 0x12 (le16 12 ++ le32 (crc32 g.data).toNat)) (storing [g])) := by decide +kernel

theorem witness_AssetDropRemovesOrDooms :
    let rq := requestOf 9 0x13 (le16 12);
    ((storing [smallBitmap .loading 0]).asset? 12 = some (smallBitmap .loading 0) ∧
      ((storing [smallBitmap .loading 0]).assets.table.map Asset.id).Nodup ∧
      Takes rq (storing [smallBitmap .loading 0])) ∧
    ((storing [smallBitmap .ready 0]).asset? 12 = some (smallBitmap .ready 0) ∧
      Takes rq (storing [smallBitmap .ready 0])) ∧
    ((storing [smallBitmap .ready 1]).asset? 12 = some (smallBitmap .ready 1) ∧
      Takes rq (storing [smallBitmap .ready 1])) ∧
    ((storing [smallBitmap .doomed 1]).asset? 12 = some (smallBitmap .doomed 1) ∧
      Takes rq (storing [smallBitmap .doomed 1])) := by decide +kernel

theorem witness_AssetQueryReports :
    (storing [smallBitmap .ready 1]).asset? 12 = some (smallBitmap .ready 1) ∧
    Takes (requestOf 9 0x14 (le16 12)) (storing [smallBitmap .ready 1]) := by decide +kernel

/-! ### Witnesses: pages and objects -/

theorem witness_PageOpenCreates :
    (∀ p ∈ printing.composer.pages, p.state ≠ .opened) ∧ printing.composer.pages.length < 8 ∧
    Takes (requestOf 9 0x20 (le16 16 ++ le16 1)) printing ∧
    Takes (requestOf 9 0x20 (le16 16384 ++ le16 9999)) printing := by decide +kernel

theorem witness_NewIdIsTheFirstFree :
    (holding [page 65535 .ended, page 1 .queued] [1]).composer.lastId ≤ 65535 ∧
    (holding [page 65535 .ended, page 1 .queued] [1]).composer.pages.length ≤ 8 := by decide +kernel

/-- One object of each kind with its fields at ends of their ranges. -/
def extremes : List Shape :=
  [.rule (-8192) 24575 1 16384, .stroke (-8192) (-8192) 24575 24575 8 .skipBoth,
    .fill [(-8192, -8192), (24575, 0), (0, 24575)], .place 65535 (-8192) 24575 .deg270 true,
    .text 1 24575 (-8192) .deg90 (-16) [0x00], .counter 65535 0 0 .deg180 64 999999999 (-9999) 10,
    .bars (-8192) 24575 16384 16 true [1, 15]]

theorem witness_ObjectPayloadReadsBack :
    ∀ sh ∈ extremes, ShapeInRange sh ∧ SourceAllowed 0 sh := by
  simp only [extremes, List.mem_cons, List.not_mem_nil, or_false]
  rintro sh (rfl | rfl | rfl | rfl | rfl | rfl | rfl) <;> decide

/-- A rule on page 7 from row `y` on. -/
def aRule (y : Int) : CheckedObject := { page := 7, mix := .set, source := 0, shape := .rule (-20) y 100 30 }

theorem witness_ObjectAddStores :
    let s := holding [page 7 .opened] [];
    (aRule 50).page ≤ 65535 ∧ ShapeInRange (aRule 50).shape ∧ SourceAllowed (aRule 50).source (aRule 50).shape ∧
    s.page? (aRule 50).page = some (page 7 .opened) ∧ checkAsset (aRule 50) s = .ok none ∧
    (((aRule 50).shape.box none).clip 832 100).isEmpty = false ∧ 1 ≤ s.composer.freeObjects ∧
    (aRule 50).shape.elements ≤ s.composer.freeElements ∧
    bandOfRow ((((aRule 50).shape.box none).clip 832 100).r1 - 1) + 1 -
      bandOfRow (((aRule 50).shape.box none).clip 832 100).r0 ≤ s.composer.freeLinks ∧
    Takes (requestOf 9 0x21 (objectPayload (aRule 50))) s := by
  simp only [aRule, ShapeInRange, SourceAllowed]
  refine ⟨by decide, by decide, by decide, ?_⟩
  decide +kernel

theorem witness_ObjectAddCulls :
    let s := holding [page 7 .opened] [];
    (aRule 100).page ≤ 65535 ∧ ShapeInRange (aRule 100).shape ∧
    SourceAllowed (aRule 100).source (aRule 100).shape ∧
    s.page? (aRule 100).page = some (page 7 .opened) ∧ checkAsset (aRule 100) s = .ok none ∧
    (((aRule 100).shape.box none).clip 832 100).isEmpty = true ∧
    Takes (requestOf 9 0x21 (objectPayload (aRule 100))) s := by
  simp only [aRule, ShapeInRange, SourceAllowed]
  refine ⟨by decide, by decide, by decide, ?_⟩
  decide +kernel

/-- A text of one character in font 12 on page 7. -/
def aText : CheckedObject :=
  { page := 7, mix := .set, source := 0, shape := .text 12 0 50 .deg0 0 [0x30] }

/-- Five bars and spaces on page 7. -/
def theBars : CheckedObject :=
  { page := 7, mix := .set, source := 0, shape := .bars 0 0 5 1 false [1, 2, 3, 4, 5] }

theorem witness_ObjectAddCulls_ranges :
    ∀ o ∈ [aRule 50, aText, theBars],
      o.page ≤ 65535 ∧ ShapeInRange o.shape ∧ SourceAllowed o.source o.shape := by
  simp only [List.mem_cons, List.not_mem_nil, or_false]
  rintro o (rfl | rfl | rfl) <;> refine ⟨?_, ?_, ?_⟩ <;>
    simp only [aRule, aText, theBars, ShapeInRange, SourceAllowed] <;> decide

/-- OBJECT_ADD of this object is taken. -/
def adds (o : CheckedObject) (s : State) : Bool := decide (Takes (requestOf 9 0x21 (objectPayload o)) s)

/-- A part with page 7 OPEN and these assets. -/
def opening (table : List Asset) : State :=
  (storing table).withComposer (holding [page 7 .opened] []).composer

theorem witness_ObjectAddCulls_lengths :
    lengthFailure [7, 0, 1, 0, 0] = some .badLength ∧ lengthFailure [7, 0, 9, 0, 0, 0] = some .badValue ∧
    Takes (requestOf 9 0x21 [7, 0, 1, 0, 0]) quiet := by decide +kernel

/-- A RULE whose mix is none of R29's. -/
def badMix : List Byte := [7, 0, 1, 3, 0, 0, 0, 0, 0, 0, 5, 0, 5, 0]

theorem witness_ObjectAddCulls_values :
    lengthFailure badMix = none ∧ Takes (requestOf 9 0x21 badMix) quiet ∧
    ∀ o : CheckedObject, objectPayload o ≠ badMix := by
  refine ⟨by decide, by decide +kernel, fun o h => ?_⟩
  have h3 : (objectPayload o)[3]? = some (mixCode o.mix) := by simp [objectPayload, le16]
  rw [h] at h3
  revert h3
  cases o.mix <;> decide

theorem witness_ObjectAddCulls_refusals :
    (adds (aRule 50) quiet = true ∧ quiet.page? 7 = none) ∧
    (adds (aRule 50) (holding [page 7 .queued] [7]) = true ∧
      (holding [page 7 .queued] [7]).page? 7 = some (page 7 .queued)) ∧
    (adds aText (opening []) = true ∧ (opening []).page? 7 = some (page 7 .opened) ∧
      aText.shape.assetId? aText.source = some 12 ∧ (opening []).asset? 12 = none) ∧
    ([smallBitmap .loading 0, smallBitmap .doomed 1, smallBitmap .ready 0].all fun a =>
      adds aText (opening [a]) && decide ((opening [a]).asset? 12 = some a ∧ a.kind ≠ .font)) = true ∧
    kindCode aText.shape = 5 := by decide +kernel

/-- The pools of a part with page 7 OPEN hold this much. -/
def pooled (objects elements links : Nat) : State :=
  (opening []).withComposer { (opening []).composer with
    freeObjects := objects, freeElements := elements, freeLinks := links }

theorem witness_ObjectAddCulls_pools :
    (adds (aRule 50) (pooled 0 0 0) = true ∧ checkAsset (aRule 50) (pooled 0 0 0) = .ok none ∧
      (((aRule 50).shape.box none).clip 832 100).isEmpty = false) ∧
    (adds theBars (pooled 1 0 1) = true ∧ checkAsset theBars (pooled 1 0 1) = .ok none ∧
      ((theBars.shape.box none).clip 832 100).isEmpty = false ∧ 0 < theBars.shape.elements) ∧
    (adds (aRule 50) (pooled 1 1 1) = true ∧ (aRule 50).shape.elements ≤ 1 ∧
      1 < bandOfRow ((((aRule 50).shape.box none).clip 832 100).r1 - 1) + 1 -
        bandOfRow (((aRule 50).shape.box none).clip 832 100).r0) := by decide +kernel

theorem witness_PageCloseQueues :
    let s := holding [page 7 .opened] [];
    (s.page? 7 = some (page 7 .opened) ∧ Takes (requestOf 9 0x22 (le16 7)) s ∧ s.feed.state = .idle ∧
      s.feed.hold = false) ∧
    (s.settings.mediaMode ≠ .continuous ∧ s.engine = none ∧ s.composer.queue = [] ∧
      s.ring.liveOrder = [] ∧ s.ring.lowestFree? = some 0) ∧
    ((s.onFeed fun f => { f with hold := true }).feed.hold = true ∧
      Takes (requestOf 9 0x22 (le16 7)) (s.onFeed fun f => { f with hold := true })) := by decide +kernel

/-- The starts of R114 and R115: parked or not, in CONTINUOUS mode or not, with a condition or not. -/
theorem witness_PageCloseQueues_starts :
    let s := holding [page 7 .opened] [];
    let p := s.onFeed fun f => { f with parked := 3 };
    let c (s : State) := s.withSettings { s.settings with mediaMode := .continuous };
    let out (s : State) := s.withSensors
      { cover := InputFilter.loaded true, media := InputFilter.loaded false };
    ([s, p, c s, c p, out s, out p].all fun s =>
      decide (s.page? 7 = some (page 7 .opened)) && decide (Takes (requestOf 9 0x22 (le16 7)) s) &&
        decide (s.feed.state = .idle) && !s.feed.hold) = true := by decide +kernel

/-- A part with page 1 ACTIVE and nothing rendered. -/
def active : State := holding [page 1 .active] [1]

/-- A PAGE_CANCEL of page 1, ACTIVE, is taken with the feed in this state and at a boundary or not. -/
def cancels (standing : Bool) (s : State) : Bool :=
  (s.page? 1).any (fun p => decide (p.state = .active)) && decide (s.feed.standing = standing) &&
    !s.feed.pending.any && decide (Takes (requestOf 9 0x23 (le16 1)) s)

theorem witness_PageCancelEndsThePage :
    (let s := holding [page 65535 .opened] [];
      s.page? 65535 = some (page 65535 .opened) ∧ Takes (requestOf 9 0x23 (le16 65535)) s) ∧
    active.settings.mediaMode ≠ .continuous ∧ 0 < active.settings.tearOffset ∧
    ([FeedState.idle, .trailing 3, .moving { seq := 1, crc := 0 } 5 2, .backfeed, .seekSearch 3 64,
        .seekOffset 2, .printing, .stalled, .paused .coverOpen (.print 1 0 0 true),
        .paused .mediaOut (.seek 1 0), .paused .mediaOut (.backfeed 3 false),
        .paused .coverOpen (.trail 3 true), .paused .coverOpen .none].all
      fun state => cancels true (feeding state active)) = true ∧
    cancels false printing = true ∧ printing.feed.state = .printing ∧
    ([FeedState.backfeed, .seekSearch 3 64, .seekOffset 2].all fun state =>
      cancels false ((feeding state active).onFeed fun f => { f with inFlight := .step .forward })) =
      true ∧
    (let s := (active.withSettings { active.settings with tearOffset := 0 }).onFeed
        fun f => { f with state := .stalled, hold := true };
      cancels true s = true ∧ s.settings.tearOffset = 0 ∧ s.feed.hold = true) := by decide +kernel

theorem witness_PageQueryReports :
    Takes (requestOf 9 0x24 [1]) printing ∧ Takes (requestOf 9 0x24 (le16 1)) printing ∧
    (printing.page? 1).isSome = true ∧ Takes (requestOf 9 0x24 (le16 65535)) printing ∧
    printing.page? 65535 = none ∧ PageLaw printing ∧ Takes (requestOf 9 0x24 [0, 0]) printing := by
  decide +kernel

/-! ### Witnesses: requests of the feed controller -/

/-- The line period of the last step has not elapsed. -/
def stepping (s : State) : State := s.onFeed fun f => { f with stepStarted := some 0 }

/-- Both filtered levels are bad: the cover is open and the media is out. -/
def conditioned (s : State) : State :=
  s.withSensors { cover := InputFilter.loaded false, media := InputFilter.loaded false }

theorem witness_FeedAndCalibrateStart :
    (Takes (requestOf 9 0x31 [1]) quiet ∧ Takes (requestOf 9 0x31 []) printing ∧
      printing.feed.state ≠ .idle ∧ printing.settings.mediaMode = .continuous ∧
      Takes (requestOf 9 0x31 []) (conditioned quiet) ∧
      (conditioned quiet).conditions ≠ { coverOpen := false, mediaOut := false }) ∧
    SlotsAccounted quiet ∧ quiet.feed.state = .idle ∧
    quiet.conditions = { coverOpen := false, mediaOut := false } ∧
    Takes (requestOf 9 0x30 (le16 1)) quiet ∧ Takes (requestOf 9 0x30 (le16 32767)) quiet ∧
    (quiet.settings.mediaMode ≠ .continuous ∧ Takes (requestOf 9 0x31 []) quiet) ∧
    (SlotsAccounted (stepping quiet) ∧ (stepping quiet).feed.state = .idle ∧
      Takes (requestOf 9 0x30 (le16 1)) (stepping quiet)) := by decide +kernel

theorem witness_StopEndsTheMotion :
    let rq := requestOf 9 0x32 [];
    let key := (requestOf 1 0x30 (le16 5)).key;
    let s := after [.feed 1 (le16 5)] quiet;
    let t := after [.feed 1 (le16 5), .stepCompletion .labelOrNoMark] quiet;
    (s.feed.state.motionKey? = some key ∧ s.feed.state.hostMotion? = some .feed ∧
      s.feed.pending.any = false ∧ Takes rq s ∧ s.feed.inFlight ≠ .none) ∧
    (t.feed.state.motionKey? = some key ∧ t.feed.state.hostMotion? = some .feed ∧
      t.feed.pending.any = false ∧ Takes rq t ∧ t.feed.inFlight = .none ∧ t.feed.openLine = none) := by
  decide +kernel

/-- The hold flag is set. -/
def onHold (s : State) : State := s.onFeed fun f => { f with hold := true }

theorem witness_HoldAndReleaseSetTheFlag :
    Takes (requestOf 9 0x33 []) printing ∧
    (Takes (requestOf 9 0x34 []) printing ∧ printing.feed.hold = false) ∧
    (Takes (requestOf 9 0x34 []) (onHold printing) ∧ (onHold printing).feed.hold = true ∧
      (onHold printing).feed.state ≠ .idle) ∧
    (Takes (requestOf 9 0x34 []) (onHold quiet) ∧ (onHold quiet).feed.hold = true ∧
      (onHold quiet).composer.queue = []) ∧
    (let s := onHold (holding [page 1 .queued] [1]);
      Takes (requestOf 9 0x34 []) s ∧ s.feed.hold = true ∧ s.feed.state = .idle ∧
      s.composer.queue ≠ []) := by decide +kernel

/-- The feed is PAUSED with this context. -/
def pausedIn (context : PausedContext) (s : State) : State :=
  feeding (.paused .mediaOut context) (s.onFeed fun f => { f with inFlight := .none, openLine := none })

/-- Parked by 3 lines. -/
def parked (s : State) : State := s.onFeed fun f => { f with parked := 3 }

theorem witness_ResumeContinueByContext :
    let rq := requestOf 9 0x35 [0];
    let good : ConditionSet := { coverOpen := false, mediaOut := false };
    (let s := pausedIn (.print 1 0 0 false) printing;
      s.feed.state = .paused .mediaOut (.print 1 0 0 false) ∧ s.conditions = good ∧ Takes rq s) ∧
    (let s := pausedIn (.print 1 0 0 true) printing;
      s.feed.state = .paused .mediaOut (.print 1 0 0 true) ∧ s.conditions = good ∧ Takes rq s ∧
      s.ring.draining?.isSome = true) ∧
    (let s := pausedIn (.print 1 0 0 true) active;
      s.conditions = good ∧ Takes rq s ∧ s.ring.draining? = none ∧ s.cursorTag?.isSome = true) ∧
    (let s := pausedIn (.seek 1 0) active;
      s.conditions = good ∧ Takes rq s ∧ s.settings.mediaMode ≠ .continuous) ∧
    (let s := parked (pausedIn (.backfeed 3 true) active);
      s.conditions = good ∧ Takes rq s ∧ 0 < s.feed.parked) ∧
    (let s := pausedIn (.backfeed 3 false) active;
      s.conditions = good ∧ Takes rq s ∧ s.settings.mediaMode ≠ .continuous) ∧
    (let s := pausedIn (.trail 1 true) quiet; s.conditions = good ∧ Takes rq s) ∧
    (let s := pausedIn (.trail 1 false) quiet;
      s.conditions = good ∧ Takes rq s ∧ s.composer.queue = []) ∧
    (let s := pausedIn (.trail 0 true) (onHold active);
      s.conditions = good ∧ Takes rq s ∧ s.feed.hold = true) ∧
    (let s := pausedIn .none active; s.conditions = good ∧ Takes rq s) := by decide +kernel

theorem witness_ResumeReprintBeginsAgain :
    let rq := requestOf 9 0x35 [1];
    let good : ConditionSet := { coverOpen := false, mediaOut := false };
    (let s := pausedIn (.print 1 0 0 false) printing;
      s.feed.state = .paused .mediaOut (.print 1 0 0 false) ∧ s.conditions = good ∧ Takes rq s ∧
      s.settings.mediaMode = .continuous ∧ s.cursor?.isSome = true ∧
      (s.page? 1).all (fun p => decide (p.state = .active)) = true ∧ (s.page? 1).isSome = true) ∧
    (let s := pausedIn (.print 1 0 0 true) active;
      s.conditions = good ∧ Takes rq s ∧ s.settings.mediaMode ≠ .continuous ∧ s.engine = none ∧
      (∀ i, (s.ring.stateOf i).isFilling = false) ∧ s.cursorTag?.isSome = true) ∧
    (let s := pausedIn (.print 1 0 0 true) (active.withEngine (some
        { buffer := 2, tag := { page := 1, copy := 0, band := 1 }, progress := 0 }));
      s.conditions = good ∧ Takes rq s ∧ s.engine.isSome = true) ∧
    (let s := pausedIn (.seek 1 0) active; s.conditions = good ∧ Takes rq s) := by decide +kernel

/-! ### Witnesses: sensors, steps and burns -/

/-- Both inputs hold a level against their filtered level since the clock was 7. -/
def bouncing (raw : Bool) (s : State) : State :=
  s.withSensors
    { cover := { raw := raw, filtered := !raw, since := some 7 },
      media := { raw := raw, filtered := !raw, since := some 7 } }

theorem witness_SensorsAndConditions :
    (quiet.power = .running ∧ (quiet.sensors.filter .cover).raw = true ∧
      (quiet.sensors.filter .media).raw ≠ false ∧ SensorInput.media ≠ .cover) ∧
    ((bouncing false quiet).sensors.filter (inputOf .coverOpen) =
        { raw := false, filtered := true, since := some 7 } ∧
      (bouncing false quiet).feed.state = .idle) ∧
    ((bouncing false printing).sensors.filter (inputOf .mediaOut) =
        { raw := false, filtered := true, since := some 7 } ∧
      (bouncing false printing).feed.state.moves = true ∧
      (bouncing false printing).feed.standing = false ∧
      (bouncing false printing).feed.pending.any = false) ∧
    (let s := (bouncing false printing).onFeed fun f =>
        { f with pending := { f.pending with
            condition := some { cause := .coverOpen, mediaOutJoined := false } } };
      s.feed.state.moves = true ∧ s.feed.standing = false ∧
      s.feed.pending.condition = some { cause := .coverOpen, mediaOutJoined := false }) ∧
    ([FeedState.moving { seq := 1, crc := 0 } 5 2, .calibrating { seq := 1, crc := 0 } 64 2 2 false,
        .trailing 3, .backfeed, .printing, .seekSearch 3 64, .seekOffset 2].all fun state =>
      let s := feeding state (bouncing false (active.onFeed fun f => { f with parked := 3 }));
      s.feed.state.moves && s.feed.standing && !s.feed.pending.any && s.cursor?.isSome &&
        decide (0 < s.feed.parked)) = true ∧
    (let s := pausedIn (.trail 3 true) (bouncing false active);
      s.feed.state = .paused .mediaOut (.trail 3 true) ∧ s.power = .running ∧
      s.sensors.filter (inputOf .coverOpen) = { raw := false, filtered := true, since := some 7 }) ∧
    (let s := feeding .stalled (bouncing false active);
      s.feed.state = .stalled ∧ s.cursor?.isSome = true) ∧
    (bouncing true printing).sensors.filter (inputOf .coverOpen) =
      { raw := true, filtered := false, since := some 7 } := by decide +kernel

theorem witness_LinePeriodStartsWhatWaits :
    (quiet.power = .running ∧ quiet.feed.stepStarted = none ∧ quiet.feed.burnStarted = none) ∧
    (let s := after [.feed 1 (le16 5), .stepCompletion .labelOrNoMark] quiet;
      s.feed.stepStarted = some 0 ∧ s.feed.called = some (.step .forward)) ∧
    ((stepping quiet).feed.stepStarted = some 0 ∧ (stepping quiet).feed.called = none) ∧
    (let s := after [.burnCompletion, .stepCompletion .labelOrNoMark] printing;
      s.feed.burnStarted = some 0 ∧ s.feed.called = some .burn) ∧
    (printing.feed.burnStarted = some 0 ∧ printing.feed.called ≠ some .burn) := by decide +kernel

/-- A step in this direction is in flight. -/
def inStep (dir : Direction) (s : State) : State :=
  s.onFeed fun f => { f with inFlight := .step dir, openLine := none }

theorem witness_StepOfMotionAndPark :
    let key : RequestKey := { seq := 1, crc := 0 };
    (let s := inStep .forward (feeding (.moving key 5 3) quiet);
      s.power = .running ∧ s.feed.inFlight = .step .forward ∧ s.feed.pending.any = false ∧ 3 + 1 ≠ 5) ∧
    (let s := inStep .forward (feeding (.moving key 5 4) quiet);
      s.feed.inFlight = .step .forward ∧ s.feed.pending.any = false) ∧
    (let s := inStep .forward (feeding (.calibrating key 64 62 80 true) quiet);
      s.feed.inFlight = .step .forward ∧ s.feed.pending.any = false ∧
      s.settings.mediaMode ≠ .continuous ∧ s.feed.edge ≠ some .gapOrMark ∧ 62 + 1 < 64) ∧
    (let s := inStep .forward (feeding (.calibrating key 64 63 63 false) quiet);
      s.feed.pending.any = false ∧ s.feed.edge ≠ some .gapOrMark ∧ 64 ≤ 63 + 1) ∧
    (let s := (inStep .forward (feeding (.calibrating key 64 63 63 false) quiet)).onFeed
        fun f => { f with edge := some .gapOrMark };
      s.feed.pending.any = false ∧ s.feed.edge = some .gapOrMark) ∧
    (let s := (inStep .forward (feeding (.calibrating key 64 30 90 true) quiet)).onFeed
        fun f => { f with edge := some .gapOrMark };
      s.feed.pending.any = false ∧ s.feed.edge = some .gapOrMark) ∧
    (let s := inStep .forward (feeding (.trailing 2) quiet);
      s.feed.state = .trailing 2 ∧ s.feed.pending.any = false) ∧
    (let s := inStep .forward (feeding (.trailing 1) quiet);
      s.feed.state = .trailing 1 ∧ s.composer.queue = []) ∧
    (let s := inStep .forward (feeding (.trailing 1) (onHold active)); s.feed.hold = true) ∧
    (let s := inStep .reverse (feeding .backfeed (parked active));
      s.feed.inFlight = .step .reverse ∧ 1 < s.feed.parked) ∧
    (let s := inStep .reverse (feeding .backfeed (active.onFeed fun f => { f with parked := 1 }));
      s.feed.parked = 1 ∧ s.settings.mediaMode ≠ .continuous) := by decide +kernel

/-- With these stops pending. -/
def stopping (p : PendingStops) (s : State) : State := s.onFeed fun f => { f with pending := p }

/-- A pending stop by this condition alone. -/
def byCondition (c : Condition) (joined : Bool) : PendingStops :=
  { PendingStops.none with condition := some { cause := c, mediaOutJoined := joined } }

/-- The stops pending at a boundary, with a page to start next. -/
theorem witness_StepOfMotionAndPark_stops :
    let key : RequestKey := { seq := 1, crc := 0 };
    let reset (scope : ResetScope) : PendingStops := { PendingStops.none with reset := some scope };
    ([FeedState.moving key 5 3, .calibrating key 64 2 2 false, .trailing 3, .backfeed, .printing,
        .seekSearch 3 64].all fun state =>
      let s := inStep .forward (feeding state active);
      s.feed.state.moves && (stopping (reset .pages) s).feed.pending.reset.isSome &&
        (stopping (reset .all) s).feed.pending.reset.isSome) = true ∧
    (let s := stopping { PendingStops.none with stop := true }
        (inStep .forward (feeding (.moving key 5 3) active));
      s.power = .running ∧ s.feed.pending.reset = none ∧ s.feed.pending.stop = true) ∧
    (let s := stopping (byCondition .coverOpen true)
        (inStep .forward (feeding (.calibrating key 64 2 2 false) active));
      s.feed.pending.reset = none ∧ s.feed.pending.stop = false ∧
      s.feed.pending.condition = some { cause := .coverOpen, mediaOutJoined := true }) ∧
    (let s := stopping (byCondition .mediaOut false) (inStep .forward (feeding (.trailing 1) quiet));
      s.feed.state = .trailing 1 ∧ s.feed.pending.condition.isSome = true) ∧
    (let s := inStep .reverse (feeding .backfeed (parked active));
      (stopping { PendingStops.none with cancel := true } s).feed.pending.cancel = true ∧
      1 < (stopping (byCondition .coverOpen false) s).feed.parked ∧
      (stopping (byCondition .coverOpen false) s).feed.pending.cancel = false) ∧
    (let s := stopping (byCondition .coverOpen false)
        (inStep .reverse (feeding .backfeed (active.onFeed fun f => { f with parked := 1 })));
      s.feed.parked ≤ 1 ∧ s.cursor?.isSome = true) := by decide +kernel

/-- The last sample of SEDGE showed the gap, and the top offset is 8. -/
def afterGap (s : State) : State :=
  (s.onFeed fun f => { f with edge := some .gapOrMark }).withSettings { s.settings with topOffset := 8 }

/-- A line of page 1 is open. -/
def lineOpen (s : State) : State :=
  s.onFeed fun f => { f with openLine := some { page := 1, line := 0, copyEnded := false } }

/-- A printing part in GAP mode whose step after line 0 is in flight. -/
def gapPrinting : State :=
  (lineOpen (inStep .forward printing)).withSettings { printing.settings with mediaMode := .gap }

/-- The step after a copy's last line is in flight, in GAP mode. -/
def afterCopy (s : State) : State :=
  s.onFeed fun f =>
    { f with state := .printing, inFlight := .step .forward,
             openLine := some { page := 1, line := 99, copyEnded := true } }

/-- Buffer 0 holds the cursor's band, READY. -/
def rendered (s : State) : State :=
  s.withRing { s.ring.setState 0 (.ready { page := 1, copy := 0, band := 0 }) with order := [0] }

theorem witness_StepOfSeekAndPrint :
    (let s := inStep .forward (feeding (.seekOffset 2) active);
      s.feed.inFlight = .step .forward ∧ s.feed.pending.any = false ∧
      s.settings.mediaMode ≠ .continuous ∧ 1 < 2) ∧
    (let s := inStep .forward (feeding (.seekOffset 1) active);
      s.ring.draining? = none ∧ s.cursorTag? = some { page := 1, copy := 0, band := 0 } ∧
      s.ring.oldestReady? { page := 1, copy := 0, band := 0 } = none ∧
      s.feed.burnStarted = none ∧
      (rendered s).ring.oldestReady? { page := 1, copy := 0, band := 0 } = some 0 ∧
      (s.onFeed fun f => { f with burnStarted := some 0 }).feed.burnStarted ≠ none) ∧
    ((inStep .forward (feeding (.seekOffset 1) printing)).ring.draining?.isSome = true) ∧
    (let s := inStep .forward (feeding (.seekSearch 3 64) active);
      (s.onFeed fun f => { f with edge := some .gapOrMark }).feed.edge = some .gapOrMark ∧
      s.settings.topOffset = 0) ∧
    (let s := afterCopy quiet;
      s.feed.pending.any = false ∧ s.settings.mediaMode ≠ .continuous ∧ s.composer.queue = [] ∧
      s.conditions = { coverOpen := false, mediaOut := false } ∧ 0 < s.settings.tearOffset ∧
      (s.withSettings { s.settings with tearOffset := 0 }).settings.tearOffset = 0 ∧
      (conditioned s).conditions.cause? = some .mediaOut) ∧
    (let s := afterCopy active;
      s.feed.hold = false ∧ s.composer.queue ≠ [] ∧ s.cursor?.isSome = true ∧
      s.conditions = { coverOpen := false, mediaOut := false } ∧ s.feed.edge ≠ some .gapOrMark ∧
      (afterGap s).feed.edge = some .gapOrMark ∧ 0 < (afterGap s).settings.topOffset ∧
      (conditioned s).conditions.cause? = some .mediaOut) ∧
    (let s := afterGap (inStep .forward (feeding (.seekSearch 3 64) active));
      s.power = .running ∧ s.feed.inFlight = .step .forward ∧ s.feed.pending.any = false ∧
      s.settings.mediaMode ≠ .continuous ∧ s.feed.edge = some .gapOrMark ∧ 0 < s.settings.topOffset) ∧
    (let s := inStep .forward (feeding (.seekSearch 62 64) active);
      s.feed.edge ≠ some .gapOrMark ∧ s.feed.state = .seekSearch 62 64 ∧ 62 + 1 < 64) ∧
    (let s := inStep .forward (feeding (.seekSearch 63 64) active);
      s.feed.edge ≠ some .gapOrMark ∧ s.feed.state = .seekSearch 63 64 ∧ s.cursor?.isSome = true) ∧
    (gapPrinting.feed.inFlight = .step .forward ∧ gapPrinting.feed.pending.any = false ∧
      gapPrinting.settings.mediaMode ≠ .continuous ∧ gapPrinting.feed.state = .printing ∧
      gapPrinting.feed.openLine = some { page := 1, line := 0, copyEnded := false } ∧
      gapPrinting.ring.draining?.isSome = true ∧ gapPrinting.feed.edge ≠ some .gapOrMark) ∧
    ((afterGap gapPrinting).feed.edge = some .gapOrMark ∧
      ((afterGap gapPrinting).page? 1).all (fun p => decide (p.state = .active)) = true ∧
      ((afterGap gapPrinting).page? 1).isSome = true) := by decide +kernel

/-- CONTINUOUS mode, and a band change inside a copy. -/
theorem witness_StepOfSeekAndPrint_goes_on :
    (let s := lineOpen (inStep .forward (feeding .printing active));
      s.feed.inFlight = .step .forward ∧ s.feed.pending.any = false ∧ s.ring.draining? = none ∧
      s.cursorTag? = some { page := 1, copy := 0, band := 0 } ∧
      s.ring.oldestReady? { page := 1, copy := 0, band := 0 } = none ∧
      (rendered s).ring.draining? = none ∧
      (rendered s).ring.oldestReady? { page := 1, copy := 0, band := 0 } = some 0) ∧
    (let s := lineOpen (inStep .forward printing);
      s.settings.mediaMode = .continuous ∧ s.feed.state = .printing ∧
      s.ring.draining?.isSome = true) ∧
    (let s := afterCopy (active.withSettings { active.settings with mediaMode := .continuous });
      s.settings.mediaMode = .continuous ∧ s.feed.hold = false ∧ s.composer.queue ≠ [] ∧
      s.conditions = { coverOpen := false, mediaOut := false }) ∧
    (let s := afterCopy (active.onFeed fun f => { f with edge := some .gapOrMark });
      s.feed.edge = some .gapOrMark ∧ s.settings.topOffset = 0) := by decide +kernel

/-- The stops pending at a boundary in SEEK and in PRINTING. -/
theorem witness_StepOfSeekAndPrint_stops :
    let cancel : PendingStops := { PendingStops.none with cancel := true };
    let both : PendingStops := { byCondition .coverOpen false with cancel := true };
    (let s := stopping cancel (inStep .forward (feeding (.seekSearch 3 64) active));
      s.power = .running ∧ s.feed.inFlight = .step .forward ∧ s.feed.pending.reset = none ∧
      s.feed.state.name = .seek ∧ s.feed.pending.cancel = true) ∧
    (let s := stopping (byCondition .mediaOut false) (inStep .forward (feeding (.seekOffset 2) active));
      s.feed.state.name = .seek ∧ s.feed.pending.cancel = false ∧ s.cursor?.isSome = true) ∧
    (let s := stopping cancel (inStep .forward (feeding .printing active));
      s.feed.pending.cancel = true ∧ s.feed.pending.condition = none) ∧
    (let s := stopping both (inStep .forward (feeding .printing active));
      s.feed.pending.cancel = true ∧ s.feed.pending.condition.isSome = true) ∧
    (let s := stopping (byCondition .coverOpen true) (afterCopy active);
      s.feed.pending.cancel = false ∧ s.feed.openLine.any OpenLine.copyEnded = true ∧
      s.feed.hold = false ∧ s.composer.queue ≠ [] ∧ s.cursor?.isSome = true ∧
      (onHold s).feed.hold = true) ∧
    (let s := stopping (byCondition .coverOpen true) gapPrinting;
      s.feed.pending.cancel = false ∧ s.cursor?.isSome = true ∧
      s.feed.openLine = some { page := 1, line := 0, copyEnded := false }) := by decide +kernel

/-- The last line of page 1, with its copies ordered, is being burned. -/
def lastLine (copies : Nat) : State :=
  ((printing.changePage 1 fun p => { p with copiesOrdered := copies }).onFeed fun f =>
    { f with line := 99, openLine := some { page := 1, line := 99, copyEnded := false } })

/-- The last line of band 0 is being burned, and buffers 1 to 3 are not FREE. -/
def bandEnd : State :=
  (((printing.withEngine none).withRing
      { (((printing.ring.setState 1 (.ready { page := 1, copy := 0, band := 1 })).setState 2
          (.ready { page := 1, copy := 1, band := 0 })).setState 3
            (.filling { page := 1, copy := 1, band := 1 } true)) with order := [0, 1, 2, 3] }).changePage 1
      fun p => { p with copiesOrdered := 3 }).onFeed fun f =>
    { f with line := 63, openLine := some { page := 1, line := 63, copyEnded := false } }

theorem witness_BurnMovesTheCursor_bands :
    (quiet.power = .running ∧ quiet.feed.inFlight ≠ .burn) ∧
    (let s := bandEnd;
      s.power = .running ∧ s.feed.inFlight = .burn ∧ s.ring.draining? = some 0 ∧ s.engine = none ∧
      s.ring.lowestFree? = none ∧
      (s.page? 1).any (fun p => decide (p.state = .active ∧ 63 + 1 ≠ p.length)) = true) := by
  decide +kernel

/-- R100, R103: buffer 0, FREE at the end of its band, is assigned the next band in the same event. -/
theorem test_burn_frees_and_assigns :
    nextIs (exec .burnCompletion bandEnd) (fun t =>
      decide (t.ring.stateOf 0 = .filling { page := 1, copy := 1, band := 1 } false) &&
        decide (t.ring.order = [1, 2, 3, 0])) = true := by decide +kernel

theorem witness_BurnMovesTheCursor :
    (printing.power = .running ∧ printing.feed.inFlight = .burn ∧
      printing.feed.openLine = some { page := 1, line := 0, copyEnded := false } ∧
      (printing.page? 1).all (fun p => decide (p.state = .active ∧ 0 + 1 ≠ p.length)) = true ∧
      (printing.page? 1).isSome = true) ∧
    (after [.pageCancel 9 [1, 0]] printing).feed.inFlight = .burn ∧
    ((after [.pageCancel 9 [1, 0]] printing).page? 1).all (fun p => decide (p.state ≠ .active)) = true ∧
    ((lastLine 2).feed.inFlight = .burn ∧ (lastLine 2).ring.draining? = some 0 ∧
      ((lastLine 2).page? 1).all (fun p => decide (99 + 1 = p.length ∧ p.copiesDone + 1 ≠ p.copiesOrdered)) =
        true) ∧
    ((lastLine 1).feed.inFlight = .burn ∧
      ((lastLine 1).page? 1).all (fun p => decide (99 + 1 = p.length ∧ p.copiesDone + 1 = p.copiesOrdered)) =
        true) := by decide +kernel

/-! ### Witnesses: rendering and the ring -/

/-- A part with page 1 closed and held, whose engine renders its band 0. -/
def rendering : State :=
  after [.hold 1 [], .pageOpen 2 (le16 100 ++ le16 2), .objectAdd 3 [1, 0, 1, 0, 0, 0, 0, 0, 60, 0, 64, 0, 10, 0],
    .transmitFrameEnd, .pageClose 4 [1, 0]] quiet

theorem witness_ObjectBoundaryDrawsOrCompletes :
    (quiet.power = .running ∧ quiet.engine = none) ∧
    (rendering.engine = some { buffer := 0, tag := { page := 1, copy := 0, band := 0 }, progress := 0 } ∧
      (rendering.ring.stateOf 0).isVoid = false ∧ (rendering.page? 1).isSome = true ∧
      (rendering.page? 1).all (fun p => (p.bandObjects 0)[0]?.isSome) = true) ∧
    (let s := after [.objectBoundary] rendering;
      s.engine = some { buffer := 0, tag := { page := 1, copy := 0, band := 0 }, progress := 1 } ∧
      (s.page? 1).all (fun p => decide ((p.bandObjects 0).length ≤ 1)) = true ∧
      s.ring.stateOf 0 = .filling { page := 1, copy := 0, band := 0 } false ∧
      s.ring.lowestFree? = some 1 ∧ s.nextBand? = some { page := 1, copy := 0, band := 1 } ∧
      (s.changePage 1 fun p => { p with bandCount := 1, copiesOrdered := 1 }).nextBand? = none ∧
      s.ring.waiting ≠ some { page := 1, copy := 0, band := 0 }) ∧
    (let s := feeding .stalled ((after [.objectBoundary] rendering).withRing
        { (after [.objectBoundary] rendering).ring with
          waiting := some { page := 1, copy := 0, band := 0 } });
      s.ring.waiting = some { page := 1, copy := 0, band := 0 } ∧ s.feed.state = .stalled) ∧
    (let s := after [.pageCancel 5 [1, 0]] rendering;
      s.ring.stateOf 0 = .filling { page := 1, copy := 0, band := 0 } true ∧
      s.engine.isSome = true ∧ s.nextBand? = none ∧
      (s.withComposer { s.composer with pages := [page 2 .queued], queue := [2] }).nextBand? =
        some { page := 2, copy := 0, band := 0 }) := by decide +kernel

/-- Sections 4.1 and 5.3: the render that completes leaves its buffer READY, and the engine goes on to the
next band in the lowest FREE buffer (R100, R101). -/
theorem test_engine_goes_on :
    nextIs (runCommands [.objectBoundary, .objectBoundary] rendering) (fun t =>
      decide (t.ring.stateOf 0 = .ready { page := 1, copy := 0, band := 0 } ∧
        t.engine = some { buffer := 1, tag := { page := 1, copy := 0, band := 1 }, progress := 0 })) =
      true := by decide +kernel

/-- A stored object of this shape. -/
def object (shape : Shape) : StoredObject :=
  { number := 1, mix := .set, source := 0, shape := shape, box := Box.none, firstBand := 0, bandsTouched := 1 }

theorem witness_BoxHoldsEveryDot :
    (object (.fill [(0, 0), (8, 0), (0, 8)])).selects none 0 6 0 = true ∧
    (object (.stroke 10 10 20 13 3 .all)).selects none 0 21 14 = true ∧
    (object (.place 12 10 20 .deg90 true)).selects (some (smallBitmap .ready 1)) 0 11 21 = true ∧
    (object (.place 12 10 20 .deg90 true)).whitens (some (smallBitmap .ready 1)) 10 22 = true := by
  decide +kernel

theorem witness_BoxesOfRulePlaceAndBars :
    ∀ byte ∈ (asset 12 .bitmap 3 2 .ready 2 [0, 0] 1).data, byte = 0 := by decide

/-! ### Worked examples of the manual -/

/-- Chapter 2, examples of bounding boxes: the rule in the guardband, clipped and binned. -/
theorem test_rule_box_and_bands :
    (Shape.rule (-20) 50 100 30).box none = { c0 := -20, c1 := 80, r0 := 50, r1 := 80 } ∧
    (((Shape.rule (-20) 50 100 30).box none).clip 832 100).firstBand = 0 ∧
    (((Shape.rule (-20) 50 100 30).box none).clip 832 100).bandsTouched = 2 := by decide

/-- Chapter 2: the shallow stroke, with ALL and with SKIP_FIRST. -/
theorem test_stroke_boxes :
    (Shape.stroke 10 10 20 13 3 .all).box none = { c0 := 9, c1 := 22, r0 := 9, r1 := 15 } ∧
    (Shape.stroke 10 10 20 13 3 .skipFirst).box none = { c0 := 10, c1 := 22, r0 := 9, r1 := 15 } ∧
    (List.range 11).map (fun i => (stepDot 10 10 20 13 i).2) =
      [10, 10, 11, 11, 11, 12, 12, 12, 12, 13, 13] := by decide

/-- The font of chapter 2's text run. -/
def textFont : FontInfo :=
  { substitute := some 0x3F,
    glyphs :=
      [{ code := 0x3F, width := 8, height := 12, bearing := 0, ascent := 12, advance := 9, offset := 0 },
        { code := 0x41, width := 10, height := 12, bearing := 1, ascent := 12, advance := 12, offset := 12 },
        { code := 0x42, width := 9, height := 12, bearing := 1, ascent := 12, advance := 11, offset := 36 }] }

/-- Chapter 2: the text run with a substitute, at orientations 0 and 90. -/
theorem test_text_boxes :
    textBox textFont 100 40 .deg0 2 [0x41, 0x42, 0x5A] = { c0 := 101, c1 := 135, r0 := 28, r1 := 40 } ∧
    textBox textFont 100 40 .deg90 2 [0x41, 0x42, 0x5A] = { c0 := 100, c1 := 112, r0 := 41, r1 := 75 } ∧
    substitutionCount textFont [0x41, 0x42, 0x5A] = 1 ∧ skipCount textFont [0x41, 0x42, 0x5A] = 0 := by
  decide

/-- Chapter 2: the counter's box, in a font of ten like digits. -/
theorem test_counter_box :
    counterBox { substitute := none, glyphs := digitCodes.map fun c =>
        { code := c, width := 8, height := 12, bearing := 1, ascent := 12, advance := 10, offset := 0 } }
      100 40 .deg0 0 3 = { c0 := 101, c1 := 129, r0 := 28, r1 := 40 } := by decide

/-- Chapter 2: the bar sequence, ending with a bar and with a space. -/
theorem test_bars_boxes :
    (Shape.bars 300 20 50 2 false [2, 1, 3, 2, 1]).box none = { c0 := 300, c1 := 318, r0 := 20, r1 := 70 } ∧
    (Shape.bars 300 20 50 2 false [2, 1, 3, 2]).box none = { c0 := 300, c1 := 312, r0 := 20, r1 := 70 } := by
  decide

/-- Chapter 4, examples of coverage: two fills that share an edge, row by row. -/
theorem test_fills_share_an_edge :
    ((List.range 8).map fun y => (List.range 8).countP fun x => fillCovers [(0, 0), (8, 0), (0, 8)] x y) =
      [7, 6, 5, 4, 3, 2, 1, 0] ∧
    ((List.range 8).map fun y => (List.range 8).countP fun x => fillCovers [(8, 0), (8, 8), (0, 8)] x y) =
      [1, 2, 3, 4, 5, 6, 7, 8] := by decide +kernel

/-- Chapter 4: the bitmap turned by 90 degrees. -/
theorem test_bitmap_turned :
    [(11, 20), (11, 21), (11, 22), (10, 20), (10, 21), (10, 22)].map
        (fun (d : Int × Int) => placedDot (smallBitmap .ready 1) 10 20 .deg90 d.1 d.2) =
      [some true, some true, some false, some false, some true, some false] := by decide +kernel

/-- Chapter 4: a counter across copies. -/
theorem test_counter_codes :
    (List.range 4).map (counterCodes 5 (-3) 2) =
      [[0x30, 0x35], [0x30, 0x32], [0x39, 0x39], [0x39, 0x36]] := by decide +kernel

/-- Chapter 8: the small font laid out. -/
theorem test_small_font :
    (parseFont smallFont).map (fun f => (f.substitute, f.glyphs.map Glyph.offset)) =
      some (some 0x3F, [22, 30, 46]) ∧
    parseFont (smallFont ++ [0]) = none ∧ parseFont ([3, 0, 0x41, 0] ++ smallFont.drop 4) = none := by
  decide +kernel

/-- OBJECT_ADD is refused at this check with this status (R25). -/
def refusesAt (check : Nat) (status : Status) (payload : List Byte) (s : State) : Bool :=
  nextIs (exec (.objectAdd 9 payload) s) fun t =>
    t.link.cache.getLast?.any fun e =>
      decide (e.frame.status = status ∧ e.frame.results = refusedObject check) &&
        decide (t.composer = s.composer)

/-- The refusals of chapter 2's table of checks. -/
theorem test_object_add_refusals :
    (refusesAt 1 .badLength [7, 0, 1, 0, 0] quiet && refusesAt 2 .badValue badMix quiet &&
      refusesAt 3 .notFound (objectPayload aText) quiet &&
      refusesAt 3 .wrongState (objectPayload aText) (holding [page 7 .queued] [7]) &&
      refusesAt 4 .notFound (objectPayload aText) (opening []) &&
      refusesAt 4 .assetNotReady (objectPayload aText) (opening [smallBitmap .loading 0]) &&
      refusesAt 4 .assetGone (objectPayload aText) (opening [smallBitmap .doomed 1]) &&
      refusesAt 4 .badValue (objectPayload aText) (opening [smallBitmap .ready 0]) &&
      refusesAt 6 .noRoomObjects (objectPayload (aRule 50)) (pooled 0 0 0) &&
      refusesAt 6 .noRoomElements (objectPayload theBars) (pooled 1 0 1) &&
      refusesAt 6 .noRoomBandLinks (objectPayload (aRule 50)) (pooled 1 1 1)) = true := by
  decide +kernel

/-- A condition pending at the boundary of PRINTING pauses there with the cursor's line (R140). -/
theorem test_pause_inside_a_copy :
    nextIs (exec (.stepCompletion .labelOrNoMark) (stopping (byCondition .coverOpen true) gapPrinting))
      (fun t => decide (t.feed.state = .paused .coverOpen (.print 1 0 0 false))) = true := by
  decide +kernel

/-- R2: after 65534, with pages 65535, 1 and 3 in the table, the next page is page 2. -/
theorem test_new_page_id :
    { quiet.composer with
      lastId := 65534, pages := [page 65535 .ended, page 1 .queued, page 3 .queued] }.newId = 2 := by
  decide +kernel

/-- R178: the bytes A7 05 and then the frame A7 01 07 02: one header error, and the new frame goes on. -/
theorem test_header_error_then_frame :
    nextIs (runCommands ([0xA7, 0x05, 0xA7, 0x01, 0x07, 0x02].map fun b => .byteReceived b .high) quiet)
      (fun t => decide (t.link.headerErrors = 1 ∧ t.link.receiver.held = [0xA7, 0x01, 0x07, 0x02])) =
      true := by decide +kernel

/-- Chapter 8, loading a bitmap: 235 blocks of 15000 bytes leave 2837. -/
theorem test_asset_begin_blocks :
    nextIs (exec (.assetBegin 1 (le16 12 ++ [1] ++ le16 400 ++ le16 300 ++ le32 15000)) quiet)
      (fun t => decide (t.assets.freeBlocks = 2837)) = true := by decide +kernel

/-- Chapter 12.4: a cancel of a queued page voids its render in flight and keeps the head page's. -/
theorem test_cancel_voids_the_render :
    nextIs (exec (.pageCancel 5 [1, 0]) rendering)
      (fun t => decide (t.ring.stateOf 0 = .filling { page := 1, copy := 0, band := 0 } true ∧
        t.composer.queue = [])) = true := by decide +kernel

/-- R152, R136: MEDIA_OUT on an IDLE feed is told by a FEED_STATE notice and starts nothing. -/
theorem test_condition_is_told :
    nextIs (exec (.conditionJoins .mediaOut) (bouncing false quiet))
      (fun t => decide (t.clock = 10007 ∧ t.feed.state = .idle) &&
        t.notices.entries.any fun n => decide (n.content = .feedState t.feedReport)) = true := by
  decide +kernel

/-- R137, R143: a MEDIA_OUT that joined after a pending COVER_OPEN and left before the boundary makes the
position invalid, with COVER_OPEN as the cause. -/
theorem test_media_out_joined_and_left :
    nextIs (exec (.stepCompletion .labelOrNoMark) (gapPrinting.onFeed fun f =>
        { f with pending := { f.pending with
            condition := some { cause := .coverOpen, mediaOutJoined := true } } }))
      (fun t => decide (t.feed.state = .paused .coverOpen (.print 1 0 0 false) ∧
        t.conditions = { coverOpen := false, mediaOut := false })) = true := by decide +kernel

/-- R188, R204: READY is the first frame the part sends, and the reply of a HELLO waits for its end. -/
theorem test_ready_is_sent_first :
    nextIs (exec (.hello 1 [0]) State.reset) (fun t =>
      t.link.tx.any (fun f => match f with | .notice n => decide (n.number = 0) | .reply _ => false) &&
        decide (t.link.replies.length = 1)) = true := by decide +kernel

/-- R168, chapter 12.5: a drop of a bitmap that an object names dooms it. -/
theorem test_drop_dooms :
    nextIs (exec (.assetDrop 9 (le16 12)) (storing [smallBitmap .ready 1]))
      (fun t => decide (t.asset? 12 = some (smallBitmap .doomed 1))) = true := by decide +kernel

/-- Chapter 4, a band rendered object by object: the rule's rows 60 to 63 fall in band 0. -/
theorem test_band_after_the_rule :
    nextIs (exec .objectBoundary rendering) (fun t =>
      let dot := (t.ring.buffers.get 0).raster.dot
      !dot 59 0 && dot 60 0 && dot 63 63 && !dot 60 64) = true := by decide +kernel

end Sys2Proof.Tests
end

section
/-! PROOF. PAGE_QUERY (R19, R20): the request only reads, so its reply is the one that the page table, the
print queue and the cursor's line give before the link takes it. -/

namespace Sys2Proof.Machine

/-! ### The id of the payload -/

/-- A 2-byte field reads as the number it was built from. -/
theorem u16At_le16 {n : Nat} (h : n ≤ 65535) : u16At (le16 n) 0 = n := by
  simp only [u16At, u8At, le16, byteOf, List.getD_cons_zero, List.getD_cons_succ, BitVec.toNat_ofNat]
  omega

/-- Id 0 names no entry (R2). -/
theorem State.page?_zero {s : State} (h : PageLaw s) : s.page? 0 = none := by
  obtain ⟨_, _, hids, _⟩ := h
  refine List.find?_eq_none.mpr fun p hp => ?_
  have hpos : 1 ≤ p.id := (hids p hp).1
  simp only [decide_eq_true_eq]
  omega

/-! ### The summary -/

/-- The position in the print queue is the index of the first place at which the id stands, plus 1. -/
theorem queuePosition?_eq (queue : List Nat) (id : Nat) :
    queuePosition? queue id = if id ∈ queue then some (queue.idxOf id + 1) else none := by
  induction queue with
  | nil => rfl
  | cons a rest ih =>
    by_cases ha : a = id
    · simp [queuePosition?, ha]
    · by_cases hmem : id ∈ rest
      · simp [queuePosition?, ha, ih, hmem, List.idxOf_cons_ne rest ha]
      · simp [queuePosition?, ha, ih, hmem, Ne.symm ha]

/-- The summary reads the print queue and the cursor's line, and nothing else of the state (R20). -/
theorem Page.summary_congr (p : Page) {s t : State} (hcomposer : t.composer = s.composer)
    (hfeed : t.feed = s.feed) : p.summary t = p.summary s := by
  simp only [Page.summary, hcomposer, hfeed]

/-! ### The owner -/

/-- PAGE_QUERY changes no state (R19). -/
theorem queryPage_state (rq : Request) (s : State) : (queryPage rq s).1 = s := by
  unfold queryPage
  split
  · rfl
  · split <;> rfl

theorem queryPage_of_length_ne {rq : Request} (s : State) (h : rq.payload.length ≠ 2) :
    queryPage rq s = (s, .badLength, .unstated) := by
  simp [queryPage, h]

theorem queryPage_of_page?_none {rq : Request} {s : State} (hlen : rq.payload.length = 2)
    (h : s.page? (u16At rq.payload 0) = none) : queryPage rq s = (s, .notFound, .unstated) := by
  simp [queryPage, hlen, h]

theorem queryPage_of_page?_some {rq : Request} {s : State} {p : Page} (hlen : rq.payload.length = 2)
    (h : s.page? (u16At rq.payload 0) = some p) :
    queryPage rq s = (s, .ok, .pageQuery (p.summary s)) := by
  simp [queryPage, hlen, h]

/-! ### A request that only reads -/

theorem taken_composer (rq : Request) (s : State) : (takeSlot rq (choose s)).composer = s.composer :=
  taken_keeps rq s .composer (by decide)

theorem taken_feed (rq : Request) (s : State) : (takeSlot rq (choose s)).feed = s.feed :=
  taken_keeps rq s .feed (by decide)

theorem taken_page? (rq : Request) (s : State) (id : Nat) :
    (takeSlot rq (choose s)).page? id = s.page? id := by
  simp only [State.page?, taken_composer]

/-- A taken request whose owner answers and leaves the state as it is: it is answered as the owner says on
the state with its slot held, and it changes nothing but the link's own lists. -/
theorem reading_request {rq : Request} {s : State} (f : Request → State → State × Status × Results)
    (h : Takes rq s) (hf : (f rq (takeSlot rq (choose s))).1 = takeSlot rq (choose s)) :
    Answered rq (f rq (takeSlot rq (choose s))).2.1 (f rq (takeSlot rq (choose s))).2.2 s
        (request (answering f) id rq s) ∧
      RequestKeeps [] s (request (answering f) id rq s) := by
  have hpower : (takeSlot rq (choose s)).power = s.power := choose_power s
  obtain ⟨_, rfl, hanswered, hkeeps, hlink, _, hnotices⟩ :=
    answered_request f h (Prod.ext hf rfl) rfl hpower
  exact ⟨hanswered, (taken_keeps rq s).trans hkeeps, hlink, hnotices (taken_notices rq s)⟩

/-! ### The obligation -/

/-- Settles O40: the owner only reads, and on the state with its slot held it finds the page table, the print
queue and the cursor's line of the state before. -/
theorem pageQueryReports : Obligations.PageQueryReports := by
  unfold Obligations.PageQueryReports
  intro seq payload s htakes
  obtain ⟨hanswered, hkeeps⟩ := reading_request queryPage htakes (queryPage_state _ _)
  refine ⟨_, _, _, rfl, hanswered, hkeeps, fun hlen => ?_, ?_, ?_⟩
  · rw [queryPage_of_length_ne _ hlen]
  · rintro id hid rfl
    have hid' : u16At (requestOf seq 0x24 (le16 id)).payload 0 = id := u16At_le16 hid
    refine ⟨fun hnone => ?_, fun p hp => ?_⟩
    · rw [queryPage_of_page?_none rfl (by rw [hid', taken_page?, hnone])]
    · obtain rfl : p.id = id := State.page?_id hp
      rw [queryPage_of_page?_some rfl (by rw [hid', taken_page?, hp])]
      refine ⟨rfl, ?_⟩
      rw [p.summary_congr (taken_composer _ s) (taken_feed _ s)]
      simp only [Page.summary, queuePosition?_eq, ite_and]
  · rintro hlaw rfl
    rw [queryPage_of_page?_none rfl (by rw [taken_page?]; exact State.page?_zero hlaw)]

end Sys2Proof.Machine
end

section
/-! PROOF. The boxes of RULE, PLACE and BARS (R43, R46, R50): which box each kind has, which dots a RULE
selects, and why a bitmap of 0-dots placed without the opaque flag changes nothing. -/

namespace Sys2Proof.Machine

/-! ### Boxes, kind by kind -/

@[simp] theorem Shape.box_rule (asset : Option Asset) (x y : Int) (w h : Nat) :
    (Shape.rule x y w h).box asset = { c0 := x, c1 := x + w, r0 := y, r1 := y + h } := rfl

@[simp] theorem Shape.box_place (id : Nat) (x y : Int) (turn : Orientation) (whitens : Bool) (a : Asset) :
    (Shape.place id x y turn whitens).box (some a) = placeBox a.width a.height x y turn := rfl

@[simp] theorem Shape.box_bars_across (asset : Option Asset) (x y : Int) (height m : Nat)
    (widths : List Nat) :
    (Shape.bars x y height m false widths).box asset =
      { c0 := x, c1 := x + (barExtent widths * m : Nat), r0 := y, r1 := y + height } := rfl

@[simp] theorem Shape.box_bars_alongFeed (asset : Option Asset) (x y : Int) (height m : Nat)
    (widths : List Nat) :
    (Shape.bars x y height m true widths).box asset =
      { c0 := x, c1 := x + height, r0 := y, r1 := y + (barExtent widths * m : Nat) } := rfl

/-! ### The dots of a RULE -/

/-- A RULE covers its box and nothing else (R43, R78). -/
theorem Shape.covers_rule (asset : Option Asset) (copy : Nat) (px py x y : Int) (w h : Nat) :
    (Shape.rule x y w h).covers asset copy px py = ((Shape.rule x y w h).box asset).has px py := rfl

/-- A RULE selects the dots of its box that its source gives: all of them when the source is SOLID, and those
of the pattern otherwise (R43, R76). -/
theorem StoredObject.selects_rule {o : StoredObject} {x y : Int} {w h : Nat} (hshape : o.shape = .rule x y w h)
    (asset : Option Asset) (copy : Nat) (px py : Int) :
    o.selects asset copy px py =
      ((o.shape.box asset).has px py && (decide (o.source = 0) || patternDot asset px py)) := by
  have hpatterned : (!o.shape.patterned o.source) = decide (o.source = 0) := by
    simp [hshape, Shape.patterned]
  have hcovers : o.shape.covers asset copy px py = (o.shape.box asset).has px py := by
    rw [hshape, Shape.covers_rule]
  rw [StoredObject.selects, hcovers, hpatterned]

/-! ### A bitmap of 0-dots -/

/-- Data of 0-bytes hold only 0-dots, inside their length and beyond it (R77). -/
theorem imageDot_of_zeros {data : List Byte} (hzero : ∀ byte ∈ data, byte = 0) (offset width u v : Nat) :
    imageDot data offset width u v = false := by
  have hbyte : ∀ i, data.getD i 0 = 0 := fun i => by
    rcases lt_or_ge i data.length with hin | hout
    · rw [List.getD_eq_getElem _ _ hin]
      exact hzero _ (List.getElem_mem hin)
    · exact List.getD_eq_default _ _ hout
  rw [imageDot, hbyte, BitVec.ofNat_eq_ofNat, BitVec.getLsbD_zero]

/-- No 1-dot of a bitmap of 0-bytes lands on a page dot (R84). -/
theorem placedDot_getD_of_zeros {a : Asset} (hzero : ∀ byte ∈ a.data, byte = 0) (x y : Int)
    (turn : Orientation) (px py : Int) : (placedDot a x y turn px py).getD false = false := by
  simp only [placedDot]
  split
  · exact imageDot_of_zeros hzero ..
  · rfl

/-- An object leaves every dot that it neither selects nor whitens (R75, R85). -/
theorem StoredObject.dotAfter_of_untouched {o : StoredObject} {asset : Option Asset} {copy : Nat}
    {px py : Int} (hselects : o.selects asset copy px py = false) (hwhitens : o.whitens asset px py = false)
    (before : Bool) : o.dotAfter asset copy px py before = before := by
  simp [StoredObject.dotAfter, hselects, hwhitens]

/-- A PLACE of a bitmap of 0-bytes selects no dot (R46, R84). -/
theorem StoredObject.selects_place_of_zeros {o : StoredObject} {id : Nat} {x y : Int} {turn : Orientation}
    {whitens : Bool} (hshape : o.shape = .place id x y turn whitens) {a : Asset}
    (hzero : ∀ byte ∈ a.data, byte = 0) (copy : Nat) (px py : Int) :
    o.selects (some a) copy px py = false := by
  have hcovers : o.shape.covers (some a) copy px py = false := by
    rw [hshape]
    exact placedDot_getD_of_zeros hzero x y turn px py
  rw [StoredObject.selects, hcovers, Bool.false_and]

/-- A PLACE without the opaque flag whitens no dot (R85). -/
theorem StoredObject.whitens_place_of_not_opaque {o : StoredObject} {id : Nat} {x y : Int}
    {turn : Orientation} (hshape : o.shape = .place id x y turn false) (asset : Option Asset) (px py : Int) :
    o.whitens asset px py = false := by
  simp [StoredObject.whitens, hshape]

/-! ### The obligation -/

/-- Settles O56, kind by kind: a RULE covers its box and selects through its source; a PLACE takes its box
from the size alone, and 0-dots without the opaque flag touch nothing; a BARS box ends with `barExtent`, which
drops the final space of a list of even length. -/
theorem boxesOfRulePlaceAndBars : Obligations.BoxesOfRulePlaceAndBars := by
  unfold Obligations.BoxesOfRulePlaceAndBars
  refine ⟨?rule, ?place, ?bars⟩
  case rule =>
    intro number mix source x y w h b first bands asset copy px py
    exact ⟨Shape.box_rule asset x y w h, StoredObject.selects_rule rfl asset copy px py⟩
  case place =>
    intro id x y turn whitens a
    refine ⟨?_, fun number mix b first bands copy px py before hzero => ?_⟩
    · rw [Shape.box_place]
      cases turn <;> rfl
    · exact StoredObject.dotAfter_of_untouched (StoredObject.selects_place_of_zeros rfl hzero copy px py)
        (StoredObject.whitens_place_of_not_opaque rfl (some a) px py) before
  case bars =>
    intro x y height m widths asset
    exact ⟨Shape.box_bars_across asset x y height m widths,
      Shape.box_bars_alongFeed asset x y height m widths⟩

end Sys2Proof.Machine
end

section
/-! PROOF. A CRC error (R179): the last byte of a frame ends it, and the end of a frame whose CRC bytes do not
agree with its own bytes is a hunt and one count, whatever request the frame carried. -/

namespace Sys2Proof.Machine

/-! ### The byte that ends a frame -/

/-- A running part receives every character whose stop bit is high (R173). -/
theorem receiveCharacter_of_running {s : State} (hrunning : s.power = .running) (b : Byte) :
    receiveCharacter b .high s = receiveByte b s :=
  if_pos ⟨hrunning, rfl⟩

/-- In CHECK the byte that brings the frame to its full length ends it (R177). -/
theorem receiveByte_of_full_length {s : State} {b : Byte} (hcheck : s.link.receiver.phase = .check)
    (hfull : (s.link.receiver.held ++ [b]).length = 8 + headerLength (s.link.receiver.held ++ [b])) :
    receiveByte b s = frameEnds (s.link.receiver.held ++ [b]) s := by
  simp only [receiveByte, hcheck, if_pos hfull]

/-! ### The CRC-16 -/

/-- The CRC bytes disagree exactly when they are not the CRC-16 of the bytes from the class to the last
payload byte, most significant byte first (R176). -/
theorem crcMatches_eq_false_iff (held : List Byte) :
    crcMatches held = false ↔
      held.drop (6 + headerLength held) ≠
        be16 (crc16 ((held.drop 1).take (5 + headerLength held))) :=
  decide_eq_false_iff_not

/-- The end of a frame with a CRC error changes the link alone: the receiver hunts, and the counter rises by
1 up to its top (R179, R181). -/
theorem frameEnds_of_crc_error {held : List Byte} (s : State) (herror : crcMatches held = false) :
    frameEnds held s = s.withLink { s.link with
      receiver := { s.link.receiver with phase := .hunt, held := [] },
      crcErrors := saturate s.link.crcErrors 1 } := by
  rw [frameEnds, if_neg (Bool.eq_false_iff.mp herror)]
  rfl

/-! ### The obligation -/

/-- Settles O9: the byte ends the frame, the frame is a CRC error, and such an end decides no request. -/
theorem crcErrorIsCountedAndDiscarded : Obligations.CrcErrorIsCountedAndDiscarded := by
  unfold Obligations.CrcErrorIsCountedAndDiscarded
  intro b s hrunning hcheck held hfull hcrc
  have herror : crcMatches held = false := (crcMatches_eq_false_iff held).mpr hcrc
  have hend : receiveCharacter b .high s = frameEnds held s :=
    (receiveCharacter_of_running hrunning b).trans (receiveByte_of_full_length hcheck hfull)
  calc exec (.frameComplete b) s
      = .next (receiveCharacter b .high s) := rfl
    _ = .next (frameEnds held s) := by rw [hend]
    _ = .next (s.withLink { s.link with
          receiver := { s.link.receiver with phase := .hunt, held := [] },
          crcErrors := min 65535 (s.link.crcErrors + 1) }) := by
        rw [frameEnds_of_crc_error s herror]
        rfl

end Sys2Proof.Machine
end

section
/-! SUPPORT. The changes that a command can make to the page table, the asset store, the notice queue and the
configuration, and the theorem that every step is a sequence of them. A law of these blocks is kept by every
step once each of the changes keeps it. -/

namespace Sys2Proof.Machine

/-! ### The changes -/

/-- Two page entries that differ in nothing but their counters of events (R12, R51). -/
structure Page.SameRecord (p q : Page) : Prop where
  id : q.id = p.id
  state : q.state = p.state
  length : q.length = p.length
  bandCount : q.bandCount = p.bandCount
  copiesOrdered : q.copiesOrdered = p.copiesOrdered
  copiesDone : q.copiesDone = p.copiesDone
  storedCount : q.storedCount = p.storedCount
  objects : q.objects = p.objects
  bandLists : q.bandLists = p.bandLists
  ended : q.ended = p.ended

theorem Page.SameRecord.refl (p : Page) : p.SameRecord p := ⟨rfl, rfl, rfl, rfl, rfl, rfl, rfl, rfl, rfl, rfl⟩

/-- The composer once a page has ended, with the copies done raised by `k` in the same event (R11, R13). -/
def Composer.endAfter (c : Composer) (p : Page) (k : Nat) (outcome : PageOutcome) (number : Byte) :
    Composer :=
  { c.endPage p outcome number with
    pages := changePage p.id
      (fun q => { q with copiesDone := q.copiesDone + k }.endWith outcome number) c.pages }

/-- One change of the page table, the asset store, the notice queue or the configuration, from `s` to `t`. -/
inductive Change (s t : State) : Prop
  /-- Nothing but what the arbiter marks on a notice. -/
  | quiet (hc : t.composer = s.composer) (ha : t.assets = s.assets)
      (hn : t.notices.entries.map Notice.face = s.notices.entries.map Notice.face)
      (hs : t.settings = s.settings)
  /-- CONFIG (R209). -/
  | configured (hc : t.composer = s.composer) (ha : t.assets = s.assets) (hn : t.notices = s.notices)
      (hs : SettingsInRange s.settings → SettingsInRange t.settings)
  /-- FEED_STATE content is handed to the queue (R197). -/
  | told (report : FeedReport) (hc : t.composer = s.composer) (ha : t.assets = s.assets)
      (hn : t.notices = s.notices.feedState report) (hs : t.settings = s.settings)
  /-- NOTICE_ACK removes a notice and the page entry that it reports (R21, R200). -/
  | acked (n : Notice) (hmem : n ∈ s.notices.entries)
      (hc : t.composer = { s.composer with
        pages := s.composer.pages.filter fun p =>
          !(decide (some p.id = n.pageEndedId?) && decide (p.state = .ended)) })
      (ha : t.assets = s.assets)
      (hn : t.notices.entries = s.notices.entries.filter fun m => decide (m.number ≠ n.number))
      (hs : t.settings = s.settings)
  /-- ASSET_BEGIN creates an asset (R157). -/
  | assetBegun (a : Asset) (hnew : s.asset? a.id = none) (hid : 1 ≤ a.id ∧ a.id ≤ 65535)
      (hstate : a.state = .loading) (hcount : a.refCount = 0) (hdata : a.data = [])
      (hsize : a.declared ≤ 65536) (hroom : s.assets.table.length < 96)
      (hfree : a.blocks ≤ s.assets.freeBlocks) (hc : t.composer = s.composer)
      (ha : t.assets = { table := s.assets.table ++ [a], freeBlocks := s.assets.freeBlocks - a.blocks })
      (hn : t.notices = s.notices) (hs : t.settings = s.settings)
  /-- An asset grows, becomes READY or is DOOMED (R159, R160, R165). -/
  | assetChanged (a : Asset) (f : Asset → Asset) (hfound : s.asset? a.id = some a)
      (hf : ∀ x, (f x).id = x.id ∧ (f x).declared = x.declared ∧ (f x).refCount = x.refCount)
      (hlen : a.received ≤ a.declared → (f a).received ≤ a.declared)
      (hstate : (f a).state = a.state ∨ (f a).state = .ready ∨
        (f a).state = .doomed ∧ 0 < a.refCount)
      (hc : t.composer = s.composer)
      (ha : t.assets = { s.assets with table := changeAsset a.id f s.assets.table })
      (hn : t.notices = s.notices) (hs : t.settings = s.settings)
  /-- An asset that no object names is removed (R160, R165). -/
  | assetDropped (a : Asset) (hfound : s.asset? a.id = some a)
      (hunused : a.state = .loading ∨ a.refCount = 0) (hc : t.composer = s.composer)
      (ha : t.assets = s.assets.remove fun x => decide (x.id = a.id))
      (hn : t.notices = s.notices) (hs : t.settings = s.settings)
  /-- A counter of a page rises (R12, R51). -/
  | counted (id : Nat) (f : Page → Page) (hf : ∀ p : Page, p.SameRecord (f p))
      (hc : t.composer = { s.composer with pages := changePage id f s.composer.pages })
      (ha : t.assets = s.assets) (hn : t.notices = s.notices) (hs : t.settings = s.settings)
  /-- The head page is begun (R10). -/
  | begun (hc : t.composer = (beginHead s).composer) (ha : t.assets = s.assets)
      (hn : t.notices = s.notices) (hs : t.settings = s.settings)
  /-- PAGE_OPEN creates a page (R1, R6). -/
  | opened (width length copies : Nat) (hlength : 16 ≤ length ∧ length ≤ 16384)
      (hcopies : 1 ≤ copies ∧ copies ≤ 9999) (hnone : ∀ p ∈ s.composer.pages, p.state ≠ .opened)
      (hroom : s.composer.pages.length < 8)
      (hc : t.composer = { s.composer with
        pages := s.composer.pages ++ [newPage s.composer.newId width length copies],
        lastId := s.composer.newId })
      (ha : t.assets = s.assets) (hn : t.notices = s.notices) (hs : t.settings = s.settings)
  /-- OBJECT_ADD stores an object (R62). -/
  | stored (page : Page) (o : StoredObject) (warnings : Nat × Nat) (hfound : s.page? page.id = some page)
      (hopen : page.state = .opened) (hnumber : o.number = page.storedCount + 1)
      (hasset : ∀ id ∈ o.assetId?, ∃ a, s.asset? id = some a ∧ a.state = .ready)
      (hpools : poolShortfall s.composer o.shape.elements o.bandsTouched = none)
      (hc : t.composer = (storeObject o page warnings s).composer)
      (ha : t.assets = s.assets.lendTo o) (hn : t.notices = s.notices) (hs : t.settings = s.settings)
  /-- PAGE_CLOSE queues the OPEN page (R8). -/
  | enqueued (page : Page) (hfound : s.page? page.id = some page) (hopen : page.state = .opened)
      (hc : t.composer = (enqueuePage page.id s).composer)
      (ha : t.assets = s.assets) (hn : t.notices = s.notices) (hs : t.settings = s.settings)
  /-- A copy ends that is not the last (R11). -/
  | copied (page : Page) (hfound : s.page? page.id = some page) (hactive : page.state = .active)
      (hmore : page.copiesDone + 1 ≠ page.copiesOrdered)
      (hc : t.composer = { s.composer with
        pages := changePage page.id (fun q => { q with copiesDone := q.copiesDone + 1 }) s.composer.pages })
      (ha : t.assets = s.assets) (hn : t.notices = s.notices) (hs : t.settings = s.settings)
  /-- A page ends (R13). -/
  | ended (page : Page) (k : Nat) (outcome : PageOutcome) (report : PageReport)
      (hfound : s.page? page.id = some page) (hlive : page.state ≠ .ended)
      (hreport : report.page = page.id)
      (hc : t.composer = s.composer.endAfter page k outcome (s.notices.nextNumber []))
      (ha : t.assets = s.assets.release page.objects)
      (hn : t.notices = s.notices.create [] (.pageEnded report)) (hs : t.settings = s.settings)
  /-- RESET discards the pages (R211). -/
  | discarded (hc : t.composer = s.composer.discardPages) (ha : t.assets = s.assets.releaseAll)
      (hn : t.notices = s.notices.dropPageEnded) (hs : t.settings = s.settings)
  /-- RESET(ALL), start-up and the end of power bring back the start-up values (R204, R212). -/
  | restored (hc : t.composer = Composer.blank) (ha : t.assets = AssetStore.blank)
      (hn : t.notices.entries.length ≤ 1)
      (hready : ∀ n ∈ t.notices.entries, n.content.kind = .ready) (hs : t.settings = Config.defaults)

/-- A sequence of changes. -/
abbrev Evolves : State → State → Prop := Relation.ReflTransGen Change

/-- A law that every change keeps is kept by every sequence of changes. -/
theorem Evolves.keeps {Law : State → Prop} (hlaw : ∀ s t, Change s t → Law s → Law t) {s t : State}
    (h : Evolves s t) (hs : Law s) : Law t := by
  induction h with
  | refl => exact hs
  | tail _ hchange ih => exact hlaw _ _ hchange ih

theorem Evolves.trans {s t u : State} (h : Evolves s t) (h' : Evolves t u) : Evolves s u :=
  Relation.ReflTransGen.trans h h'

/-- An event that has its condition, or none. -/
theorem Evolves.guarded {c : Prop} [Decidable c] {s t : State} (h : Evolves s t) :
    Evolves s (if c then t else s) := by
  split
  · exact h
  · exact .refl

/-- The parts that no change touches. -/
def asideParts : List Part := [.power, .clock, .link, .engine, .ring, .feed, .sensors, .pending]

theorem Evolves.of_keeps {s t : State} (h : Keeps asideParts s t) : Evolves s t :=
  .single (.quiet (h .composer (by decide)) (h .assets (by decide))
    (congrArg (fun q => q.entries.map Notice.face) (h .notices (by decide))) (h .settings (by decide)))

/-! ### The feed controller -/

theorem State.onFeed_evolves (s : State) (f) : Evolves s (s.onFeed f) :=
  .of_keeps ((State.onFeed_keeps s f).weaken (by decide))

theorem State.withRing_evolves (s : State) (r) : Evolves s (s.withRing r) :=
  .of_keeps ((State.withRing_keeps s r).weaken (by decide))

theorem callStep_evolves (d) (s : State) : Evolves s (callStep d s) :=
  .of_keeps ((callStep_keeps d s).weaken (by decide))

theorem callBurn_evolves (s : State) : Evolves s (callBurn s) :=
  .of_keeps ((callBurn_keeps s).weaken (by decide))

/-- A report on the ACTIVE page raises counters (R12). -/
theorem onActive_evolves (id : Nat) (f : Page → Page) (hf : ∀ p : Page, p.SameRecord (f p)) (s : State) :
    Evolves s (onActive id f s) := by
  refine .single (.counted id (fun p => if p.state = .active then f p else p) (fun p => ?_) rfl rfl rfl rfl)
  split
  · exact hf p
  · exact .refl p

theorem reportStall_evolves (id) (s : State) : Evolves s (reportStall id s) := by
  unfold reportStall
  exact onActive_evolves _ _ (fun _ => by constructor <;> rfl) s

theorem reportEdge_evolves (id) (s : State) : Evolves s (reportEdge id s) := by
  unfold reportEdge
  exact onActive_evolves _ _ (fun _ => by constructor <;> rfl) s

theorem reportReprint_evolves (id) (s : State) : Evolves s (reportReprint id s) := by
  unfold reportReprint
  exact onActive_evolves _ _ (fun _ => by constructor <;> rfl) s

theorem beginHead_evolves (s : State) : Evolves s (beginHead s) :=
  .single (.begun rfl (beginHead_keeps s .assets (by decide)) (beginHead_keeps s .notices (by decide))
    (beginHead_keeps s .settings (by decide)))

theorem requestBand_evolves (t) (s : State) : Evolves s (requestBand t s) := by
  unfold requestBand
  split
  · exact ((State.withRing_evolves _ _).trans (State.onFeed_evolves _ _)).trans (callBurn_evolves _)
  · exact ((State.withRing_evolves _ _).trans (State.onFeed_evolves _ _)).trans (reportStall_evolves _ _)

theorem printLine_evolves (s : State) : Evolves s (printLine s) := by
  unfold printLine
  split
  · exact (State.onFeed_evolves _ _).trans (callBurn_evolves _)
  · split
    · exact (State.onFeed_evolves _ _).trans (requestBand_evolves _ _)
    · exact State.onFeed_evolves _ _

theorem enterOffset_evolves (s : State) : Evolves s (enterOffset s) := by
  unfold enterOffset
  split
  · exact printLine_evolves s
  · exact (State.onFeed_evolves _ _).trans (callStep_evolves _ _)

theorem enterSeek_evolves (s : State) : Evolves s (enterSeek s) := by
  unfold enterSeek
  split
  · exact printLine_evolves s
  · exact (State.onFeed_evolves _ _).trans (callStep_evolves _ _)

theorem pause_evolves (c x) (s : State) : Evolves s (pause c x s) := State.onFeed_evolves _ _

theorem pausePrint_evolves (j c) (s : State) : Evolves s (pausePrint j c s) := by
  unfold pausePrint; split <;> exact pause_evolves _ _ _

theorem pauseSeek_evolves (c) (s : State) : Evolves s (pauseSeek c s) := by
  unfold pauseSeek; split <;> exact pause_evolves _ _ _

theorem keepParked_evolves (b) (s : State) : Evolves s (keepParked b s) := by
  unfold keepParked; split
  · exact .refl
  · exact State.onFeed_evolves _ _

theorem pauseBackfeed_evolves (j c) (s : State) : Evolves s (pauseBackfeed j c s) := by
  unfold pauseBackfeed; split
  · exact pauseSeek_evolves _ _
  · exact (pause_evolves _ _ _).trans (keepParked_evolves _ _)

theorem pauseTrail_evolves (j c r) (s : State) : Evolves s (pauseTrail j c r s) :=
  (pause_evolves _ _ _).trans (keepParked_evolves _ _)

theorem start_evolves (s : State) : Evolves s (start s) := by
  unfold start; dsimp only; split
  · exact (beginHead_evolves _).trans (pauseBackfeed_evolves _ _ _)
  · split
    · exact (beginHead_evolves _).trans (enterSeek_evolves _)
    · exact ((beginHead_evolves _).trans (State.onFeed_evolves _ _)).trans (callStep_evolves _ _)

theorem startDecision_evolves (s : State) : Evolves s (startDecision s) := by
  unfold startDecision; split
  · exact start_evolves s
  · exact .refl

theorem enterIdle_evolves (s : State) : Evolves s (enterIdle s) :=
  (State.onFeed_evolves _ _).trans (startDecision_evolves _)

theorem startOrIdle_evolves (s : State) : Evolves s (startOrIdle s) := by
  unfold startOrIdle; split
  · exact start_evolves s
  · exact State.onFeed_evolves _ _

theorem enterTrailing_evolves (s : State) : Evolves s (enterTrailing s) := by
  unfold enterTrailing; split
  · exact enterIdle_evolves s
  · exact (State.onFeed_evolves _ _).trans (callStep_evolves _ _)

theorem endOfCopyDecision_evolves (p e) (s : State) : Evolves s (endOfCopyDecision p e s) := by
  unfold endOfCopyDecision; dsimp only; split
  · refine (beginHead_evolves s).trans ?_
    split
    · exact pauseSeek_evolves _ _
    · split
      · exact enterOffset_evolves _
      · exact enterSeek_evolves _
  · split
    · exact pauseTrail_evolves _ _ _ _
    · exact enterTrailing_evolves s

theorem State.withLink_evolves (s : State) (l) : Evolves s (s.withLink l) :=
  .single (.quiet rfl rfl rfl rfl)

theorem endFeed_evolves (k st m) (s : State) : Evolves s (endFeed k st m s) :=
  (State.withLink_evolves s _).trans (enterIdle_evolves _)

theorem endCalibrate_evolves (k st m) (s : State) : Evolves s (endCalibrate k st m s) :=
  (State.withLink_evolves s _).trans (enterIdle_evolves _)

theorem stopForReset_evolves (scope) (s : State) : Evolves s (stopForReset scope s) := by
  have hcleared : Evolves s (if scope = .all then s.onFeed fun f => { f with parked := 0 } else s) := by
    split
    · exact State.onFeed_evolves _ _
    · exact .refl
  unfold stopForReset; dsimp only
  split
  · exact hcleared.trans (endFeed_evolves _ _ _ _)
  · exact hcleared.trans (endCalibrate_evolves _ _ _ _)
  all_goals exact hcleared.trans (enterIdle_evolves _)

theorem boundaryBackfeed_evolves (p) (s : State) : Evolves s (boundaryBackfeed p s) := by
  unfold boundaryBackfeed; split
  · exact startOrIdle_evolves s
  · split
    · exact pauseBackfeed_evolves _ _ _
    · split
      · exact enterSeek_evolves _
      · exact callStep_evolves _ _

theorem boundarySearch_evolves (p e c l) (s : State) : Evolves s (boundarySearch p e c l s) := by
  unfold boundarySearch; split
  · exact startOrIdle_evolves s
  · split
    · exact pauseSeek_evolves _ _
    · split
      · exact enterOffset_evolves _
      · split
        · exact pauseSeek_evolves _ _
        · exact callStep_evolves _ _

theorem boundaryOffset_evolves (p r) (s : State) : Evolves s (boundaryOffset p r s) := by
  unfold boundaryOffset; split
  · exact startOrIdle_evolves s
  · split
    · exact pauseSeek_evolves _ _
    · split
      · exact printLine_evolves _
      · exact callStep_evolves _ _

theorem boundaryPrinting_evolves (p e d) (s : State) : Evolves s (boundaryPrinting p e d s) := by
  unfold boundaryPrinting; split
  · split
    · exact pauseTrail_evolves _ _ _ _
    · exact enterTrailing_evolves s
  · split
    · exact endOfCopyDecision_evolves _ _ _
    · split
      · exact pausePrint_evolves _ _ _
      · exact printLine_evolves _

theorem boundaryTrailing_evolves (p r) (s : State) : Evolves s (boundaryTrailing p r s) := by
  unfold boundaryTrailing; split
  · exact pauseTrail_evolves _ _ _ _
  · split
    · exact enterIdle_evolves s
    · exact callStep_evolves _ _

theorem boundaryMoving_evolves (p k l d) (s : State) : Evolves s (boundaryMoving p k l d s) := by
  unfold boundaryMoving; split
  · exact endFeed_evolves _ _ _ _
  · split
    · exact endFeed_evolves _ _ _ _
    · exact callStep_evolves _ _

theorem boundaryCalibrating_evolves (p e k l c m f) (s : State) :
    Evolves s (boundaryCalibrating p e k l c m f s) := by
  unfold boundaryCalibrating; split
  · exact endCalibrate_evolves _ _ _ _
  · split
    · exact (State.onFeed_evolves _ _).trans (endCalibrate_evolves _ _ _ _)
    · split
      · exact (State.onFeed_evolves _ _).trans (callStep_evolves _ _)
      · split
        · exact endCalibrate_evolves _ _ _ _
        · exact callStep_evolves _ _

theorem atBoundary_evolves (e d) (s : State) : Evolves s (atBoundary e d s) := by
  unfold atBoundary; dsimp only
  refine (State.onFeed_evolves s fun f => { f with pending := PendingStops.none, called := none }).trans ?_
  split
  · exact stopForReset_evolves _ _
  · split
    · exact .refl
    · exact boundaryBackfeed_evolves _ _
    · exact boundarySearch_evolves _ _ _ _ _
    · exact boundaryOffset_evolves _ _ _
    · exact boundaryPrinting_evolves _ _ _ _
    · exact .refl
    · exact boundaryTrailing_evolves _ _ _
    · exact boundaryMoving_evolves _ _ _ _ _
    · exact boundaryCalibrating_evolves _ _ _ _ _ _ _ _
    · exact .refl

theorem actIfStanding_evolves (s : State) : Evolves s (actIfStanding s) := by
  unfold actIfStanding; split
  · exact atBoundary_evolves _ _ _
  · exact .refl

theorem reportFeed_evolves {s t : State} (h : Evolves s t) (before : State) :
    Evolves s (reportFeed before t) := by
  unfold reportFeed; split
  · exact h.tail (.told _ rfl rfl rfl rfl)
  · exact h

theorem recordCancel_evolves (s : State) : Evolves s (recordCancel s) :=
  (State.onFeed_evolves _ _).trans (actIfStanding_evolves _)

theorem recordCondition_evolves (h c) (s : State) : Evolves s (recordCondition h c s) :=
  (State.onFeed_evolves _ _).trans (actIfStanding_evolves _)

theorem resetFeed_evolves (scope) (s : State) : Evolves s (resetFeed scope s) := by
  have hcleared := State.onFeed_evolves s fun f => { f with hold := false, line := 0, edge := none }
  unfold resetFeed; dsimp only
  split
  · exact hcleared.trans (stopForReset_evolves _ _)
  · exact hcleared.trans (stopForReset_evolves _ _)
  · exact hcleared.trans (stopForReset_evolves _ _)
  all_goals exact (hcleared.trans (State.onFeed_evolves _ _)).trans (actIfStanding_evolves _)

theorem conditionActs_evolves (c) (s : State) : Evolves s (conditionActs c s) := by
  unfold conditionActs; split
  · exact .refl
  all_goals first
    | exact recordCondition_evolves _ _ _
    | exact (State.withRing_evolves _ _).trans (pausePrint_evolves _ _ _)
    | (split
       · exact State.onFeed_evolves _ _
       · exact .refl)

theorem cancelActs_evolves (id) (s : State) : Evolves s (cancelActs id s) := by
  unfold cancelActs; split
  all_goals first
    | exact .refl
    | exact recordCancel_evolves _
    | exact enterTrailing_evolves _
    | exact State.onFeed_evolves _ _

/-! ### The band ring and the raster engine -/

theorem assignBand_keeps (s : State) : Keeps [.ring, .engine] s (assignBand s) := by
  rcases assignBand_cases s with h | ⟨i, t, -, -, -, h⟩
  · rw [h]; exact .refl _ _
  · rw [h]; intro p hp; cases p <;> first | rfl | simp at hp

theorem assignBand_evolves (s : State) : Evolves s (assignBand s) :=
  .of_keeps ((assignBand_keeps s).weaken (by decide))

theorem freeDraining_keeps (s : State) : Keeps [.ring] s (freeDraining s) := by
  unfold freeDraining; split
  · exact State.withRing_keeps _ _
  · exact .refl _ _

theorem grantWaiting_keeps (i t) (s : State) : Keeps [.ring, .feed] s (grantWaiting i t s) := by
  unfold grantWaiting; dsimp only; split
  · split
    · exact ((State.withRing_keeps _ _).weaken (by decide)).trans
        (((State.onFeed_keeps _ _).weaken (by decide)).trans ((callBurn_keeps _).weaken (by decide)))
    · exact (State.withRing_keeps _ _).weaken (by decide)
  · exact .refl _ _

theorem objectBoundary_keeps (s : State) : Keeps [.engine, .ring, .feed] s (objectBoundary s) := by
  have hsub : ∀ p ∈ [Part.ring, .engine], p ∈ [Part.engine, .ring, .feed] := by decide
  have hwith (r e) : Keeps [.engine, .ring, .feed] s ((s.withRing r).withEngine e) := by
    intro p hp; cases p <;> first | rfl | simp at hp
  unfold objectBoundary; split
  · unfold boundaryOf; split
    · exact (hwith _ _).trans ((assignBand_keeps _).weaken hsub)
    · split
      · exact hwith _ _
      · exact ((hwith _ _).trans ((grantWaiting_keeps _ _ _).weaken (by decide))).trans
          ((assignBand_keeps _).weaken hsub)
  · exact .refl _ _

/-! ### The end of a page -/

theorem endPage_evolves {s : State} {p : Page} (hfound : s.page? p.id = some p) (hlive : p.state ≠ .ended)
    (outcome) : Evolves s (endPage p outcome s) :=
  .single (.ended p 0 outcome (p.report outcome) hfound hlive rfl rfl rfl rfl rfl)

/-- Two changes of one entry are one. -/
theorem changePage_changePage (id : Nat) (f g : Page → Page) (hf : ∀ p, (f p).id = p.id)
    (pages : List Page) : changePage id g (changePage id f pages) = changePage id (fun p => g (f p)) pages := by
  simp only [changePage, List.map_map]
  apply List.map_congr_left
  intro p _
  by_cases h : p.id = id <;> simp [h, hf]

theorem endCopy_evolves {s : State} {p : Page} (hfound : s.page? p.id = some p)
    (hactive : p.state = .active) : Evolves s (endCopy p.id s) := by
  unfold endCopy
  simp only [hfound]
  split
  · refine .single (.ended p 1 .done ({ p with copiesDone := p.copiesDone + 1 }.report .done) hfound
      (by simp [hactive]) rfl ?_ rfl rfl rfl)
    rw [Composer.endAfter, ← changePage_changePage p.id (fun q => { q with copiesDone := q.copiesDone + 1 })
      (fun q => q.endWith _ _) (fun _ => rfl)]
    rfl
  · exact .single (.copied p hfound hactive ‹_› rfl rfl rfl rfl)

theorem completeBurn_evolves (s : State) : Evolves s (completeBurn s) := by
  unfold completeBurn; split
  · exact .refl
  · exact .refl
  · refine Evolves.trans ?_ (callStep_evolves _ _)
    have hlanded := State.onFeed_evolves s fun f => { f with inFlight := .none }
    split
    · exact hlanded
    · split
      · exact hlanded
      · split
        · rename_i l p hfound hactive
          refine (hlanded.trans ?_).trans (assignBand_evolves _)
          have hid := State.page?_id hfound
          unfold burnActive; dsimp only
          generalize hfreed : (if lastOfBand _ _ then freeDraining _ else _ : State) = freed
          have hkeeps : Keeps [.ring] (s.onFeed fun f => { f with inFlight := .none }) freed := by
            rw [← hfreed]; split
            · exact freeDraining_keeps _
            · exact .refl _ _
          have hcomposer := hkeeps .composer (by decide)
          have hfound' : freed.page? p.id = some p := by
            rw [hid]; simpa [State.page?, show freed.composer = s.composer from hcomposer] using hfound
          refine (Evolves.of_keeps (hkeeps.weaken (by decide))).trans ?_
          split
          · exact (endCopy_evolves hfound' hactive).trans (State.onFeed_evolves _ _)
          · exact State.onFeed_evolves _ _
        · exact hlanded

/-! ### STEP_COMPLETION and the sensors -/

theorem completeStep_evolves (sample) (s : State) : Evolves s (completeStep sample s) := by
  unfold completeStep; split
  · exact .refl
  · exact .refl
  · rename_i dir _
    refine reportFeed_evolves (Evolves.trans ?_ (atBoundary_evolves _ _ _)) s
    have hcounted : Evolves s (countStep dir sample s) := State.onFeed_evolves s _
    refine hcounted.trans ?_
    unfold reportCrossing; split
    · split
      · exact reportEdge_evolves _ _
      · exact .refl
    · exact .refl

theorem settle_evolves (i l t) (s : State) : Evolves s (settle i l t s) := .single (.quiet rfl rfl rfl rfl)

theorem choose_evolves (s : State) : Evolves s (choose s) := by
  obtain ⟨hkeeps, -, hnotices, -⟩ := choose_keeps s
  exact .single (.quiet (hkeeps .composer (by decide)) (hkeeps .assets (by decide)) hnotices.2
    (hkeeps .settings (by decide)))

theorem conditionJoins_evolves (c) (s : State) : Evolves s (conditionJoins c s) := by
  unfold conditionJoins; split
  · exact (reportFeed_evolves ((settle_evolves _ _ _ s).trans (conditionActs_evolves _ _)) s).trans
      (choose_evolves _)
  · exact .refl

theorem conditionLeaves_evolves (c) (s : State) : Evolves s (conditionLeaves c s) := by
  unfold conditionLeaves; split
  · exact (reportFeed_evolves (settle_evolves _ _ _ s) s).trans (choose_evolves _)
  · exact .refl

theorem periodElapsed_evolves (w) (s : State) : Evolves s (periodElapsed w s) := by
  have hclock (n f) : Evolves s ((s.advanceTo n).onFeed f) := .single (.quiet rfl rfl rfl rfl)
  unfold periodElapsed; dsimp only
  split
  all_goals
    split
    · exact .refl
    · split
      · exact (hclock _ _).trans (State.onFeed_evolves _ _)
      · exact hclock _ _
      · exact hclock _ _

/-! ### The owners of the requests -/

theorem helloRequest_evolves (rq) (s : State) : Evolves s (helloRequest rq s).1 := by
  unfold helloRequest; split
  · split
    · exact .refl
    · dsimp only; split
      · refine .single (.quiet rfl rfl ?_ rfl)
        simp [NoticeQueue.resendAll, Function.comp_def, Notice.face]
      · exact .refl
  · exact .refl

theorem statusRequest_evolves (rq) (s : State) : Evolves s (statusRequest rq s).1 := by
  unfold statusRequest; split <;> exact .refl

/-- A field takes only values of its range (R207, R209). -/
theorem Field.assign_inRange {f : Field} {v : Nat} {c : Settings} (h : f.accepts v = true)
    (hc : SettingsInRange c) : SettingsInRange (f.assign v c) := by
  cases f <;> simp [Field.accepts, inRange] at h <;> simp_all [Field.assign, SettingsInRange]

theorem assignAll_inRange {fields : List (Field × Nat)} (h : ∀ e ∈ fields, e.1.accepts e.2 = true)
    {c : Settings} (hc : SettingsInRange c) : SettingsInRange (assignAll fields c) := by
  unfold assignAll
  induction fields generalizing c with
  | nil => exact hc
  | cons e rest ih =>
    exact ih (fun x hx => h x (List.mem_cons_of_mem _ hx))
      (Field.assign_inRange (h e List.mem_cons_self) hc)

/-- The fields that check 2 passes have values of their ranges (R208). -/
theorem checkEntries_accepts {entries : List (Nat × Nat)} {seen : List Nat} {fields : List (Field × Nat)}
    (h : checkEntries seen entries = .ok fields) : ∀ e ∈ fields, e.1.accepts e.2 = true := by
  induction entries generalizing seen fields with
  | nil => cases h; simp
  | cons entry rest ih =>
    obtain ⟨code, v⟩ := entry
    unfold checkEntries at h
    split at h
    · cases h
    · split at h
      · cases h
      · rename_i hok
        split at h
        · rename_i found hrest
          cases h
          have haccept : _ = true := (by simpa using hok : _ ∧ _).2
          exact List.forall_mem_cons.mpr ⟨haccept, ih hrest⟩
        · cases h

theorem configure_evolves {fields : List (Field × Nat)} (h : ∀ e ∈ fields, e.1.accepts e.2 = true)
    (s : State) : Evolves s (configure fields s).1 := by
  unfold configure; split
  · exact .refl
  · split
    · exact .refl
    · exact .single (.configured rfl rfl rfl (assignAll_inRange h))

theorem configRequest_evolves (rq) (s : State) : Evolves s (configRequest rq s).1 := by
  unfold configRequest; dsimp only; split
  · exact .refl
  · split
    · exact .refl
    · exact configure_evolves (checkEntries_accepts ‹_›) s

theorem ackNotice_evolves (rq) (s : State) : Evolves s (ackNotice rq s).1 := by
  unfold ackNotice; split
  · dsimp only; split
    · exact .refl
    · rename_i number lo hi _ _ n hfound
      have hmem := List.mem_of_find?_eq_some hfound
      have hnumber : n.number = number := by simpa using List.find?_some hfound
      split
      · split
        · rename_i id hid
          refine .single (.acked n hmem ?_ rfl (by rw [hnumber]; rfl) rfl)
          simp [freePageEntry, hid]
        · rename_i hid
          refine .single (.acked n hmem ?_ rfl (by rw [hnumber]; rfl) rfl)
          simp [hid]
      · exact .refl
  · exact .refl

/-- An asset looked up has the id looked up. -/
theorem State.asset?_id {s : State} {id : Nat} {a : Asset} (h : s.asset? id = some a) : a.id = id := by
  simpa using List.find?_some h

theorem u8At_lt (p : List Byte) (i : Nat) : u8At p i < 256 := (p.getD i 0).isLt

theorem u16At_le (p : List Byte) (i : Nat) : u16At p i ≤ 65535 := by
  have h := u8At_lt p i
  have h' := u8At_lt p (i + 1)
  unfold u16At
  omega

/-- No geometry that agrees with its kind declares more than the greatest size (R153, R155). -/
theorem geometryAgrees_size {kind : AssetKind} {w h size : Nat} (hg : geometryAgrees kind w h size = true) :
    size ≤ 65536 := by
  cases kind with
  | bitmap => simp only [geometryAgrees, Bool.and_eq_true, decide_eq_true_eq] at hg; exact hg.2
  | pattern =>
    simp only [geometryAgrees, Bool.and_eq_true, Bool.or_eq_true, decide_eq_true_eq] at hg
    obtain ⟨⟨hw, -⟩, rfl⟩ := hg
    rcases hw with (rfl | rfl) | rfl <;> decide
  | font => simp [geometryAgrees, inRange, Config.largestAsset] at hg; exact of_decide_eq_true hg.2.2

theorem beginAsset_evolves (rq) (s : State) : Evolves s (beginAsset rq s).1 := by
  unfold beginAsset; dsimp only; split
  · exact .refl
  · split
    · exact .refl
    · rename_i kind _
      split
      · exact .refl
      · rename_i hvalue
        simp only [Bool.or_eq_true, decide_eq_true_eq, Bool.not_eq_true', not_or,
          Bool.not_eq_false] at hvalue
        obtain ⟨hid, hgeometry⟩ := hvalue
        split
        · exact .refl
        · split
          · exact .refl
          · split
            · exact .refl
            · refine .single (.assetBegun (newAsset _ kind _ _ _) ?_ ?_ rfl rfl rfl
                (geometryAgrees_size hgeometry) ?_ ?_ rfl rfl rfl rfl)
              · simpa using ‹¬(s.asset? _).isSome = true›
              · exact ⟨Nat.one_le_iff_ne_zero.mpr hid, u16At_le _ _⟩
              · exact Nat.lt_of_not_le ‹_›
              · exact Nat.le_of_not_lt ‹_›

theorem loadAsset_evolves (rq) (s : State) : Evolves s (loadAsset rq s).1 := by
  unfold loadAsset; dsimp only; split
  · exact .refl
  · split
    · exact .refl
    · rename_i a hfound
      obtain hid := State.asset?_id hfound
      rw [← hid] at hfound ⊢
      split
      · exact .refl
      · split
        · exact .refl
        · split
          · exact .refl
          · rename_i hlen
            refine .single (.assetChanged a (fun x => { x with data := x.data ++ rq.payload.drop 6 }) hfound
              (fun _ => ⟨rfl, rfl, rfl⟩) (fun _ => ?_) (.inl rfl) rfl rfl rfl rfl)
            simp only [Asset.received, List.length_append, List.length_drop] at hlen ⊢
            omega

theorem dropAsset_evolves {s : State} {a : Asset} (hfound : s.asset? a.id = some a)
    (hunused : a.state = .loading ∨ a.refCount = 0) : Evolves s (dropAsset a.id s) :=
  .single (.assetDropped a hfound hunused rfl rfl rfl rfl)

theorem makeReady_evolves {s : State} {a : Asset} (hfound : s.asset? a.id = some a) (font) :
    Evolves s (makeReady a.id font s) :=
  .single (.assetChanged a (fun a => { a with state := .ready, font := font }) hfound
    (fun _ => ⟨rfl, rfl, rfl⟩) id (.inr (.inl rfl)) rfl rfl rfl rfl)

theorem endAsset_evolves (rq) (s : State) : Evolves s (endAsset rq s).1 := by
  unfold endAsset; dsimp only; split
  · exact .refl
  · split
    · exact .refl
    · rename_i a hfound
      obtain hid := State.asset?_id hfound
      rw [← hid] at hfound ⊢
      split
      · exact .refl
      · rename_i hloading
        have hloading : a.state = .loading := not_not.mp hloading
        split
        · exact .refl
        · split
          · exact dropAsset_evolves hfound (.inl hloading)
          · split
            · split
              · exact dropAsset_evolves hfound (.inl hloading)
              · exact makeReady_evolves hfound _
            · exact makeReady_evolves hfound _

theorem dropRequest_evolves (rq) (s : State) : Evolves s (dropRequest rq s).1 := by
  unfold dropRequest; dsimp only; split
  · exact .refl
  · split
    · exact .refl
    · rename_i a hfound
      obtain hid := State.asset?_id hfound
      rw [← hid] at hfound ⊢
      split
      · exact dropAsset_evolves hfound (.inl ‹_›)
      · split
        · exact dropAsset_evolves hfound (.inr ‹_›)
        · exact .single (.assetChanged a (fun a => { a with state := .doomed }) hfound
            (fun _ => ⟨rfl, rfl, rfl⟩) id (.inr (.inr ⟨rfl, Nat.pos_of_ne_zero ‹_›⟩)) rfl rfl rfl rfl)
      · exact .refl

theorem queryAsset_evolves (rq) (s : State) : Evolves s (queryAsset rq s).1 := by
  unfold queryAsset; split
  · exact .refl
  · split <;> exact .refl

theorem openPage_evolves (rq) (s : State) : Evolves s (openPage rq s).1 := by
  unfold openPage; dsimp only; split
  · exact .refl
  · split
    · exact .refl
    · rename_i hrange
      simp [inRange] at hrange
      split
      · exact .refl
      · split
        · exact .refl
        · rename_i hnone hroom
          refine .single (.opened _ _ _ ⟨hrange.1.1, hrange.1.2⟩ ⟨Nat.one_le_iff_ne_zero.mpr hrange.2.1, hrange.2.2⟩ ?_
            (Nat.lt_of_not_le hroom) rfl rfl rfl rfl)
          simpa using hnone

theorem cullObject_evolves (page) (s : State) : Evolves s (cullObject page s) :=
  .single (.counted page.id (fun p => { p with culled := saturate p.culled 1 })
    (fun _ => ⟨rfl, rfl, rfl, rfl, rfl, rfl, rfl, rfl, rfl, rfl⟩) rfl rfl rfl rfl)

/-- An asset that passes check 4 is READY (R40). -/
theorem checkAsset_ready {o : CheckedObject} {s : State} {asset : Option Asset}
    (h : checkAsset o s = .ok asset) :
    ∀ id ∈ o.shape.assetId? o.source, ∃ a, s.asset? id = some a ∧ a.state = .ready := by
  unfold checkAsset at h
  split at h
  · simp [*]
  · rename_i id hid
    split at h
    · cases h
    · rename_i a hfound
      split at h
      · cases h
      · cases h
      · simpa [hid] using ⟨a, hfound, ‹_›⟩

theorem placeObject_evolves {o : CheckedObject} {page : Page} {asset : Option Asset} {s : State}
    (hfound : s.page? page.id = some page) (hopen : page.state = .opened)
    (hasset : checkAsset o s = .ok asset) : Evolves s (placeObject o page asset s).1 := by
  unfold placeObject; dsimp only; split
  · exact cullObject_evolves _ _
  · split
    · exact .refl
    · exact .single (.stored page (recordOf o page _) _ hfound hopen rfl (checkAsset_ready hasset) ‹_› rfl
        rfl rfl rfl)

theorem addObject_evolves (rq) (s : State) : Evolves s (addObject rq s).1 := by
  unfold addObject; split
  · exact .refl
  · split
    · exact .refl
    · split
      · exact .refl
      · rename_i page hfound
        split
        · exact .refl
        · rename_i hopen
          split
          · exact .refl
          · rw [← State.page?_id hfound] at hfound
            exact placeObject_evolves hfound (not_not.mp hopen) ‹_›

theorem closePage_evolves (rq) (s : State) : Evolves s (closePage rq s).1 := by
  unfold closePage; dsimp only; split
  · exact .refl
  · split
    · exact .refl
    · rename_i page hfound
      rw [← State.page?_id hfound] at hfound
      split
      · exact .refl
      · rename_i hopen
        have henqueued : Evolves s (enqueuePage page.id s) :=
          .single (.enqueued page hfound (not_not.mp hopen) rfl rfl rfl rfl)
        exact reportFeed_evolves
          ((henqueued.trans (startDecision_evolves _)).trans (assignBand_evolves _)) s

theorem cancelPage_evolves (rq) (s : State) : Evolves s (cancelPage rq s).1 := by
  unfold cancelPage; dsimp only; split
  · exact .refl
  · split
    · exact .refl
    · rename_i page hfound
      rw [← State.page?_id hfound] at hfound
      split
      · exact .refl
      · rename_i hlive
        refine reportFeed_evolves (Evolves.trans ?_ (assignBand_evolves _)) s
        have hgone : Evolves s (dropCursor (decide (s.composer.queue.head? = some page.id))
            (endPage page .cancelled s)) := by
          refine (endPage_evolves hfound hlive .cancelled).trans ?_
          unfold dropCursor; split
          · exact State.onFeed_evolves _ _
          · exact .refl
        split
        · exact hgone.trans (cancelActs_evolves _ _)
        · exact hgone

theorem queryPage_evolves (rq) (s : State) : Evolves s (queryPage rq s).1 := by
  rw [queryPage_state]

theorem feedLines_evolves (rq) (s : State) : Evolves s (feedLines rq s).1 := by
  unfold feedLines; dsimp only; split
  · exact .refl
  · split
    · exact .refl
    · split
      · exact .refl
      · split
        · exact .refl
        · exact (State.onFeed_evolves _ _).trans (callStep_evolves _ _)

theorem calibratePitch_evolves (rq) (s : State) : Evolves s (calibratePitch rq s).1 := by
  unfold calibratePitch; split
  · exact .refl
  · split
    · exact .refl
    · split
      · exact .refl
      · exact (State.onFeed_evolves _ _).trans (callStep_evolves _ _)

theorem stopMotion_evolves (rq) (s : State) : Evolves s (stopMotion rq s).1 := by
  unfold stopMotion; split
  · exact .refl
  · split
    · exact .refl
    · split
      · exact .refl
      · dsimp only; exact State.onFeed_evolves s _

theorem stopAct_evolves (s : State) : Evolves s (stopAct s) :=
  reportFeed_evolves (actIfStanding_evolves s) s

theorem holdQueue_evolves (rq) (s : State) : Evolves s (holdQueue rq s).1 := by
  unfold holdQueue; split
  · exact .refl
  · dsimp only; exact State.onFeed_evolves s _

theorem releaseQueue_evolves (rq) (s : State) : Evolves s (releaseQueue rq s).1 := by
  unfold releaseQueue; split
  · exact .refl
  · split
    · exact reportFeed_evolves ((State.onFeed_evolves _ _).trans (startDecision_evolves _)) s
    · exact .refl

theorem continueFrom_evolves (c) (s : State) : Evolves s (continueFrom c s) := by
  have honFeed := fun f => State.onFeed_evolves s f
  unfold continueFrom; split
  · exact printLine_evolves _
  · exact enterSeek_evolves _
  · exact enterIdle_evolves _
  · split
    · split
      · exact enterIdle_evolves _
      · exact (State.onFeed_evolves _ _).trans (callStep_evolves _ _)
    · exact (honFeed _).trans (enterIdle_evolves _)
  · split
    · split
      · exact enterSeek_evolves _
      · exact (State.onFeed_evolves _ _).trans (callStep_evolves _ _)
    · exact (honFeed _).trans (enterSeek_evolves _)

theorem reprintFrom_evolves (p) (s : State) : Evolves s (reprintFrom p s) := by
  unfold reprintFrom
  have hvoid : Evolves s ((voidAll s).onFeed fun f => { f with line := 0, edge := none }) :=
    (State.withRing_evolves s _).trans (State.onFeed_evolves _ _)
  exact ((hvoid.trans (reportReprint_evolves _ _)).trans (enterSeek_evolves _)).trans (assignBand_evolves _)

theorem resumeFeed_evolves (rq) (s : State) : Evolves s (resumeFeed rq s).1 := by
  unfold resumeFeed; split
  · split
    · exact .refl
    · split
      · exact .refl
      · split
        · exact .refl
        · dsimp only; split
          · unfold resumeWithContinue; split
            · exact .refl
            all_goals exact reportFeed_evolves (continueFrom_evolves _ _) s
          · unfold resumeWithReprint; split
            · exact reportFeed_evolves (reprintFrom_evolves _ _) s
            all_goals exact .refl
  · exact .refl

/-! ### RESET -/

/-- With no page queued an IDLE feed stays IDLE (R114). -/
theorem enterIdle_of_queue_nil {s : State} (h : s.composer.queue = []) : enterIdle s = goIdle s := by
  simp [enterIdle, startDecision, mayStart, goIdle, h]

/-- With no page queued, acting on a reset leaves every block but the link and the feed (R134). -/
theorem stopForReset_keeps {s : State} (h : s.composer.queue = []) (scope) :
    Keeps [.link, .feed] s (stopForReset scope s) := by
  have hcleared : Keeps [.feed] s (if scope = .all then s.onFeed fun f => { f with parked := 0 } else s) := by
    split
    · exact State.onFeed_keeps _ _
    · exact .refl _ _
  have hqueue : (if scope = .all then s.onFeed fun f => { f with parked := 0 } else s).composer.queue = [] :=
    (congrArg Composer.queue (hcleared .composer (by decide))).trans h
  have hidle {t : State} (ht : t.composer.queue = []) : Keeps [.feed] t (enterIdle t) := by
    rw [enterIdle_of_queue_nil ht]; exact State.onFeed_keeps _ _
  have hdone (k n st r) (t : State) (ht : t.composer.queue = []) :
      Keeps [.link, .feed] t (enterIdle (completeReply k n st r t)) := by
    refine Keeps.trans ?_ ((hidle (t := completeReply k n st r t) ht).weaken (by decide))
    intro p hp; cases p <;> first | rfl | simp at hp
  unfold stopForReset; dsimp only
  split
  · exact (hcleared.weaken (by decide)).trans (hdone _ _ _ _ _ hqueue)
  · exact (hcleared.weaken (by decide)).trans (hdone _ _ _ _ _ hqueue)
  all_goals exact (hcleared.trans (hidle hqueue)).weaken (by decide)

/-- A RESET that is recorded is pending (R214). -/
theorem PendingStops.addReset_isSome (p : PendingStops) (scope) : (p.addReset scope).reset.isSome = true := by
  unfold PendingStops.addReset; dsimp only; split <;> rfl

/-- With no page queued, RESET's part of the feed leaves every block but the link and the feed (R134). -/
theorem resetFeed_keeps {s : State} (h : s.composer.queue = []) (scope) :
    Keeps [.link, .feed] s (resetFeed scope s) := by
  have hcleared (f) : Keeps [.link, .feed] s (s.onFeed f) := (State.onFeed_keeps s f).weaken (by decide)
  have hact (t : State) (ht : t.composer.queue = []) (hreset : t.feed.pending.reset.isSome = true) :
      Keeps [.link, .feed] t (actIfStanding t) := by
    unfold actIfStanding; split
    · obtain ⟨scope', hscope⟩ := Option.isSome_iff_exists.mp hreset
      simp only [atBoundary, hscope]
      exact ((State.onFeed_keeps t _).weaken (by decide)).trans (stopForReset_keeps (by exact ht) _)
    · exact .refl _ _
  unfold resetFeed; dsimp only
  split
  · exact (hcleared _).trans (stopForReset_keeps (by exact h) _)
  · exact (hcleared _).trans (stopForReset_keeps (by exact h) _)
  · exact (hcleared _).trans (stopForReset_keeps (by exact h) _)
  all_goals
    refine ((hcleared _).trans ((State.onFeed_keeps _ _).weaken (by decide))).trans (hact _ h ?_)
    exact PendingStops.addReset_isSome _ _

theorem reportFeed_keeps (before after : State) : Keeps [.notices] after (reportFeed before after) := by
  unfold reportFeed; split
  · intro p hp; cases p <;> first | rfl | simp at hp
  · exact .refl _ _

theorem discardPages_composer (scope) (s : State) :
    (discardPages scope s).composer = s.composer.discardPages := by
  unfold discardPages; dsimp only
  exact ((reportFeed_keeps _ _) .composer (by decide)).trans
    (resetFeed_keeps (s := voidAll _) rfl scope .composer (by decide))

theorem discardPages_evolves (scope) (s : State) : Evolves s (discardPages scope s) := by
  unfold discardPages; dsimp only
  refine reportFeed_evolves (Evolves.trans ?_ (resetFeed_evolves _ _)) s
  exact .single (.discarded rfl rfl rfl rfl)

theorem applyReset_evolves (scope) (s : State) : Evolves s (applyReset scope s) := by
  cases scope with
  | pages => exact discardPages_evolves _ s
  | all =>
    refine (discardPages_evolves .all s).tail (.restored ?_ rfl (Nat.le_refl 1) ?_ rfl)
    · change { (discardPages .all s).composer with lastId := 0 } = _
      rw [discardPages_composer]
      rfl
    · intro n hn
      rw [List.mem_singleton.mp (hn : n ∈ [_])]
      rfl

theorem resetRequest_evolves (rq) (s : State) : Evolves s (resetRequest rq s).1 := by
  unfold resetRequest; split
  · split
    · exact applyReset_evolves .pages s
    · split
      · exact applyReset_evolves .all s
      · exact .refl
  · exact .refl

/-! ### Requests and commands -/

/-- What holds of every owner of the request table holds of the owner of any kind (R185). -/
theorem ownerOf_induction {P : Owner → Prop} {kind : Byte} (hello : P (answering helloRequest))
    (status : P (answering statusRequest)) (config : P (answering configRequest))
    (reset : P (answering resetRequest)) (ack : P (answering ackNotice))
    (assetBegin : P (answering beginAsset)) (assetData : P (answering loadAsset))
    (assetEnd : P (answering endAsset)) (assetDrop : P (answering dropRequest))
    (assetQuery : P (answering queryAsset)) (pageOpen : P (answering openPage))
    (objectAdd : P (answering addObject)) (pageClose : P (answering closePage))
    (pageCancel : P (answering cancelPage)) (pageQuery : P (answering queryPage)) (feed : P feedLines)
    (calibrate : P calibratePitch) (stop : kind = 0x32 → P (answering stopMotion)) (hold : P (answering holdQueue))
    (release : P (answering releaseQueue)) (resume : P (answering resumeFeed))
    (unknown : P (answering unknownRequest)) : P (ownerOf kind) := by
  unfold ownerOf
  exact iteInduction (fun _ => hello) fun _ => iteInduction (fun _ => status) fun _ =>
    iteInduction (fun _ => config) fun _ => iteInduction (fun _ => reset) fun _ =>
    iteInduction (fun _ => ack) fun _ => iteInduction (fun _ => assetBegin) fun _ =>
    iteInduction (fun _ => assetData) fun _ =>
    iteInduction (fun _ => assetEnd) fun _ =>
    iteInduction (fun _ => assetDrop) fun _ =>
    iteInduction (fun _ => assetQuery) fun _ =>
    iteInduction (fun _ => pageOpen) fun _ =>
    iteInduction (fun _ => objectAdd) fun _ =>
    iteInduction (fun _ => pageClose) fun _ =>
    iteInduction (fun _ => pageCancel) fun _ =>
    iteInduction (fun _ => pageQuery) fun _ => iteInduction (fun _ => feed) fun _ =>
    iteInduction (fun _ => calibrate) fun _ => iteInduction stop fun _ =>
    iteInduction (fun _ => hold) fun _ => iteInduction (fun _ => release) fun _ =>
    iteInduction (fun _ => resume) fun _ => unknown

theorem ownerOf_evolves (kind rq) (s : State) : Evolves s (ownerOf kind rq s).1 :=
  ownerOf_induction (P := fun owner => Evolves s (owner rq s).1) (helloRequest_evolves _ _)
    (statusRequest_evolves _ _) (configRequest_evolves _ _) (resetRequest_evolves _ _)
    (ackNotice_evolves _ _) (beginAsset_evolves _ _) (loadAsset_evolves _ _) (endAsset_evolves _ _)
    (dropRequest_evolves _ _) (queryAsset_evolves _ _) (openPage_evolves _ _) (addObject_evolves _ _)
    (closePage_evolves _ _) (cancelPage_evolves _ _) (queryPage_evolves _ _) (feedLines_evolves _ _)
    (calibratePitch_evolves _ _) (fun _ => stopMotion_evolves _ _) (holdQueue_evolves _ _)
    (releaseQueue_evolves _ _) (resumeFeed_evolves _ _) .refl

theorem followUp_evolves (kind) (s : State) : Evolves s (followUp kind s) := by
  unfold followUp; split
  · exact stopAct_evolves s
  · exact .refl

theorem execute_evolves {owner : Owner} {rq : Request} {s : State} (h : Evolves s (owner rq s).1) :
    Evolves s (execute owner rq s) := by
  unfold execute; split <;> rename_i hout <;> rw [hout] at h
  · exact h.trans (State.withLink_evolves _ _)
  · exact h

theorem goodFrame_evolves (kind rq) (s : State) :
    Evolves s (goodFrame (ownerOf kind) (followUp kind) rq s) := by
  refine (choose_evolves s).trans (Evolves.trans ?_ (choose_evolves _))
  unfold decideFrame; split
  · split
    · exact .refl
    · exact State.withLink_evolves _ _
  · split
    · exact .refl
    · split
      · exact ((State.withLink_evolves _ _).trans (execute_evolves (ownerOf_evolves _ _ _))).trans
          (followUp_evolves _ _)
      · exact State.withLink_evolves _ _

theorem request_evolves (kind rq) (s : State) :
    Evolves s (request (ownerOf kind) (followUp kind) rq s) := by
  unfold request; split
  · exact goodFrame_evolves _ _ _
  · exact .refl

/-- The command of a request is the request handed to the owner of its kind (R184, R185). -/
theorem exec_request {c : Instr} {rq : Request} (h : requestFor c = some rq) (s : State) :
    exec c s = .next (request (ownerOf rq.kind) (followUp rq.kind) rq s) := by
  cases c <;> cases h <;> rfl

theorem receiveByte_evolves (b) (s : State) : Evolves s (receiveByte b s) := by
  unfold receiveByte; dsimp only; split
  · exact .refl
  · split
    · exact State.withLink_evolves _ _
    · exact .refl
  · unfold headerByte; dsimp only; split
    · exact (State.withLink_evolves s _).trans (State.withLink_evolves _ _)
    · exact State.withLink_evolves _ _
  · exact State.withLink_evolves _ _
  · split
    · unfold frameEnds; split
      · exact (State.withLink_evolves s _).trans (goodFrame_evolves _ _ _)
      · exact (State.withLink_evolves s _).trans (State.withLink_evolves _ _)
    · exact State.withLink_evolves _ _

theorem receiveCharacter_evolves (b l) (s : State) : Evolves s (receiveCharacter b l s) := by
  unfold receiveCharacter; split
  · exact receiveByte_evolves _ _
  · exact .refl

theorem byteTimeout_evolves (s : State) : Evolves s (byteTimeout s) := by
  unfold byteTimeout; split
  · exact .refl
  · split
    · exact .refl
    · exact .refl
    all_goals exact .single (.quiet rfl rfl rfl rfl)

theorem cleared_evolves (s : State) (p r) : Evolves s (s.cleared p r) :=
  .single (.restored rfl rfl (Nat.zero_le 1) (by simp [State.cleared, State.blank, NoticeQueue.blank]) rfl)

theorem startUp_evolves (c r1 r0 cc mp) (s : State) : Evolves s (startUp c r1 r0 cc mp s) := by
  refine Evolves.trans ?_ (choose_evolves _)
  refine .single (.restored rfl rfl (Nat.le_refl 1) (fun n hn => ?_) rfl)
  rw [List.mem_singleton.mp (hn : n ∈ [_])]
  rfl

theorem resendDue_evolves (s : State) : Evolves s (resendDue s) := by
  unfold resendDue; split
  · exact (Evolves.of_keeps fun p hp => by cases p <;> first | rfl | simp [asideParts] at hp).trans
      (choose_evolves _)
  · exact choose_evolves s

theorem idle_evolves (s : State) : Evolves s (idle s) := by
  unfold idle; split
  · exact (Relation.ReflTransGen.single (.quiet rfl rfl rfl rfl) :
      Evolves s (s.withClock (s.clock + idleMicros))).trans (choose_evolves _)
  · exact .refl

/-- The effect of every command on these blocks is a sequence of changes. -/
theorem exec_evolves {c : Instr} {s t : State} (h : exec c s = .next t) : Evolves s t := by
  cases hrq : requestFor c with
  | some rq =>
    rw [exec_request hrq] at h
    cases h
    exact request_evolves _ _ _
  | none =>
    cases c <;> first | simp [requestFor] at hrq; done | obtain rfl := Host.Outcome.next.inj h
    case startUp => exact startUp_evolves _ _ _ _ _ s
    case resetLineAssert =>
      unfold assertReset; split
      · exact .refl
      · exact cleared_evolves _ _ _
    case supplyLoss => exact cleared_evolves _ _ _
    case byteReceived => exact receiveCharacter_evolves _ _ _
    case headerError => exact receiveCharacter_evolves _ _ _
    case frameComplete => exact receiveCharacter_evolves _ _ _
    case interByteTimeout => exact byteTimeout_evolves _
    all_goals refine Evolves.guarded ?_
    case sensorInputChange =>
      unfold inputChange; split
      · exact .refl
      · exact .single (.quiet rfl rfl rfl rfl)
    case conditionJoins => exact conditionJoins_evolves _ _
    case conditionLeaves => exact conditionLeaves_evolves _ _
    case linePeriodElapsed => exact periodElapsed_evolves _ _
    case stepCompletion => exact (completeStep_evolves _ _).trans (choose_evolves _)
    case burnCompletion => exact (completeBurn_evolves _).trans (choose_evolves _)
    case objectBoundary => exact .of_keeps ((objectBoundary_keeps s).weaken (by decide))
    case transmitFrameEnd => exact (State.withLink_evolves s _).trans (choose_evolves _)
    case noticeResendDue => exact resendDue_evolves _

/-- Every step is a sequence of changes. -/
theorem step_evolves {s t : State} (h : step s = .next t) : Evolves s t := by
  have hrest (rest) : Evolves s (s.withPending rest) := .single (.quiet rfl rfl rfl rfl)
  unfold step at h
  split at h
  · exact (hrest _).trans (exec_evolves h)
  · cases h
    exact idle_evolves s

end Sys2Proof.Machine
end

section
/-! PROOF. The laws of the page table and the print queue: the search for a new id and for a new notice
number, and why each change keeps the laws (R2, R3, R5, R194). -/

namespace Sys2Proof.Machine

/-! ### The search for a free candidate -/

/-- Among more candidates than a list holds, all different, one is not in the list. -/
theorem exists_not_mem_of_length_lt {α : Type} {held : List α} {n : Nat} {candidate : Nat → α}
    (hinj : ∀ i < n, ∀ j < n, candidate i = candidate j → i = j) (hlen : held.length < n) :
    ∃ i < n, candidate i ∉ held := by
  by_contra hall
  push Not at hall
  have hnodup : ((List.range n).map candidate).Nodup :=
    List.nodup_range.map_on fun i hi j hj => hinj i (List.mem_range.mp hi) j (List.mem_range.mp hj)
  have hsub : (List.range n).map candidate ⊆ held := by
    intro x hx
    obtain ⟨i, hi, rfl⟩ := List.mem_map.mp hx
    exact hall i (List.mem_range.mp hi)
  have := (hnodup.subperm hsub).length_le
  simp at this
  omega

/-- The search takes the first candidate that is not held, or the last one it may try. -/
theorem searchId_eq (fuel candidate : Nat) (held : List Nat) :
    ∃ k ≤ fuel, searchId fuel candidate held = times nextId k candidate ∧
      (∀ j < k, times nextId j candidate ∈ held) ∧ (k = fuel ∨ times nextId k candidate ∉ held) := by
  induction fuel generalizing candidate with
  | zero => exact ⟨0, le_rfl, rfl, by simp, .inl rfl⟩
  | succ fuel ih =>
    unfold searchId
    split
    · rename_i hheld
      obtain ⟨k, hk, heq, hbefore, hlast⟩ := ih (nextId candidate)
      refine ⟨k + 1, Nat.succ_le_succ hk, heq, fun j hj => ?_, hlast.imp (congrArg Nat.succ) id⟩
      cases j with
      | zero => simpa [times] using hheld
      | succ j => exact hbefore j (Nat.lt_of_succ_lt_succ hj)
    · rename_i hfree
      exact ⟨0, Nat.zero_le _, rfl, by simp, .inr (by simpa [times] using hfree)⟩

theorem nextId_mem (id : Nat) : 1 ≤ nextId id ∧ nextId id ≤ 65535 := by
  unfold nextId; split <;> omega

/-- The candidates run through 1 to 65535 and round again (R2). -/
theorem times_nextId {id : Nat} (h : 1 ≤ id ∧ id ≤ 65535) (k : Nat) :
    times nextId k id = (id - 1 + k) % 65535 + 1 := by
  induction k generalizing id with
  | zero => simp only [times]; omega
  | succ k ih =>
    rw [times, ih (nextId_mem id)]
    unfold nextId
    split <;> omega

/-- Settles O34: the search tries at most 9 different candidates, and at most 8 of them are held. -/
theorem newIdIsTheFirstFree : Obligations.NewIdIsTheFirstFree := by
  unfold Obligations.NewIdIsTheFirstFree
  intro c hlast hlen
  have hfirst := nextId_mem c.lastId
  obtain ⟨k, hk, heq, hbefore, hstop⟩ := searchId_eq 8 (nextId c.lastId) (c.pages.map Page.id)
  have hvalue := times_nextId hfirst k
  have hfree : times nextId k (nextId c.lastId) ∉ c.pages.map Page.id := by
    rcases hstop with rfl | hfree
    · obtain ⟨i, hi, hnot⟩ := exists_not_mem_of_length_lt (held := c.pages.map Page.id) (n := 9)
        (candidate := fun i => times nextId i (nextId c.lastId))
        (fun i hi j hj hij => by
          rw [times_nextId hfirst, times_nextId hfirst] at hij
          omega)
        (by simpa using Nat.lt_succ_of_le hlen)
      rcases Nat.lt_succ_iff_lt_or_eq.mp hi with hlt | rfl
      · exact absurd (hbefore i hlt) hnot
      · exact hnot
    · exact hfree
  refine ⟨?_, ?_, ?_, k, hk, heq, hbefore⟩
  · rw [Composer.newId, heq, hvalue]; omega
  · rw [Composer.newId, heq, hvalue]; omega
  · rw [Composer.newId, heq]; exact hfree

/-! ### The page law -/

/-- The laws of the page table, the print queue and the page entries (R2, R3, R5, R11, R13). -/
def PagesLaw (s : State) : Prop := PageLaw s ∧ ∀ p ∈ s.composer.pages, EntryLaw p

theorem PagesLaw.of_composer {s t : State} (hc : t.composer = s.composer) (h : PagesLaw s) :
    PagesLaw t := by
  unfold PagesLaw PageLaw at *
  rw [hc]
  exact h

/-- The page of a lawful table with an id. -/
theorem PageLaw.eq_of_id {s : State} (h : PageLaw s) {p q : Page} (hp : p ∈ s.composer.pages)
    (hq : q ∈ s.composer.pages) (hid : p.id = q.id) : p = q :=
  List.inj_on_of_nodup_map h.2.1 hp hq hid

theorem State.page?_mem {s : State} {id : Nat} {p : Page} (h : s.page? id = some p) :
    p ∈ s.composer.pages := List.mem_of_find?_eq_some h

/-- Entries that keep their ids, with a queue that agrees with their states, keep the laws when no entry
becomes OPEN. -/
theorem PagesLaw.map {s t : State} (h : PagesLaw s) (g : Page → Page)
    (hpages : t.composer.pages = s.composer.pages.map g) (hlast : t.composer.lastId = s.composer.lastId)
    (hid : ∀ p ∈ s.composer.pages, (g p).id = p.id)
    (hopen : ∀ p ∈ s.composer.pages, (g p).state = .opened → p.state = .opened)
    (hnodup : t.composer.queue.Nodup)
    (hqueue : ∀ id ∈ t.composer.queue, ∃ p ∈ s.composer.pages, p.id = id ∧ (g p).state.inQueue = true)
    (hin : ∀ p ∈ s.composer.pages, (g p).state.inQueue = true → p.id ∈ t.composer.queue)
    (hhead : ∀ p ∈ s.composer.pages, (g p).state = .active → t.composer.queue.head? = some p.id)
    (hentry : ∀ p ∈ s.composer.pages, EntryLaw p → EntryLaw (g p)) : PagesLaw t := by
  obtain ⟨⟨hlen, hids, hrange, hlast', hopened, -, -, -⟩, hentries⟩ := h
  have hmap : (s.composer.pages.map g).map Page.id = s.composer.pages.map Page.id := by
    rw [List.map_map]
    exact List.map_congr_left hid
  refine ⟨⟨?_, ?_, ?_, hlast ▸ hlast', ?_, hnodup, ?_, ?_⟩, ?_⟩
  · rw [hpages, List.length_map]; exact hlen
  · rw [hpages, hmap]; exact hids
  · rw [hpages]
    simp only [List.forall_mem_map]
    intro p hp
    rw [hid p hp]
    exact hrange p hp
  · rw [hpages, List.countP_map]
    refine (List.countP_mono_left fun p hp hopen' => ?_).trans hopened
    simpa using hopen p hp (by simpa using hopen')
  · intro id hmem
    obtain ⟨p, hp, hpid, hstate⟩ := hqueue id hmem
    exact ⟨g p, hpages ▸ List.mem_map_of_mem hp, (hid p hp).trans hpid, hstate⟩
  · rw [hpages]
    simp only [List.forall_mem_map]
    intro p hp
    rw [hid p hp]
    exact ⟨hin p hp, hhead p hp⟩
  · rw [hpages]
    simp only [List.forall_mem_map]
    exact fun p hp => hentry p hp (hentries p hp)

/-- The same with the queue as it was and no entry that joins or leaves it. -/
theorem PagesLaw.map_of_queue {s t : State} (h : PagesLaw s) (g : Page → Page)
    (hc : t.composer.pages = s.composer.pages.map g) (hlast : t.composer.lastId = s.composer.lastId)
    (hqueue : t.composer.queue = s.composer.queue)
    (hid : ∀ p ∈ s.composer.pages, (g p).id = p.id)
    (hopen : ∀ p ∈ s.composer.pages, (g p).state = .opened → p.state = .opened)
    (hin : ∀ p ∈ s.composer.pages, (g p).state.inQueue = p.state.inQueue)
    (hhead : ∀ p ∈ s.composer.pages, (g p).state = .active → s.composer.queue.head? = some p.id)
    (hentry : ∀ p ∈ s.composer.pages, EntryLaw p → EntryLaw (g p)) : PagesLaw t := by
  obtain ⟨-, -, -, -, -, hnodup, hof, hstates⟩ := h.1
  refine h.map g hc hlast hid hopen (hqueue ▸ hnodup) ?_ ?_ ?_ hentry
  · intro id hmem
    obtain ⟨p, hp, hpid, hstate⟩ := hof id (hqueue ▸ hmem)
    exact ⟨p, hp, hpid, (hin p hp).trans hstate⟩
  · intro p hp hstate
    rw [hqueue]
    exact (hstates p hp).1 ((hin p hp).symm.trans hstate)
  · intro p hp hstate
    rw [hqueue]
    exact hhead p hp hstate

/-- One entry changed, its id and its state kept. -/
theorem PagesLaw.changePage {s t : State} (h : PagesLaw s) (id : Nat) (f : Page → Page)
    (hc : t.composer.pages = Machine.changePage id f s.composer.pages)
    (hlast : t.composer.lastId = s.composer.lastId)
    (hqueue : t.composer.queue = s.composer.queue) (hid : ∀ p, (f p).id = p.id)
    (hstate : ∀ p, (f p).state = p.state)
    (hentry : ∀ p ∈ s.composer.pages, p.id = id → EntryLaw p → EntryLaw (f p)) : PagesLaw t := by
  refine h.map_of_queue (fun p => if p.id = id then f p else p) hc hlast hqueue ?_ ?_ ?_ ?_ ?_
  · intro p _; split <;> simp [hid]
  · intro p _; split <;> simp [hstate]
  · intro p _; split <;> simp [hstate]
  · intro p hp hactive
    refine (h.1.2.2.2.2.2.2.2 p hp).2 ?_
    split at hactive
    · exact (hstate p).symm.trans hactive
    · exact hactive
  · intro p hp hlaw
    split
    · exact hentry p hp ‹_› hlaw
    · exact hlaw

theorem EntryLaw.of_sameRecord {p q : Page} (h : p.SameRecord q) (hp : EntryLaw p) : EntryLaw q := by
  unfold EntryLaw at *
  rw [h.state, h.ended, h.objects, h.bandLists, h.length, h.copiesOrdered, h.copiesDone, h.bandCount]
  exact hp

/-- The law of an entry that has not ended. -/
theorem EntryLaw.live {p : Page} (h : EntryLaw p) (hlive : p.state ≠ .ended) :
    p.ended = none ∧ (16 ≤ p.length ∧ p.length ≤ 16384) ∧ p.copiesOrdered ≤ 9999 ∧
      p.copiesDone < p.copiesOrdered ∧ p.bandCount = bandCountOf p.length ∧
      p.bandLists.length = p.bandCount := by
  unfold EntryLaw at h
  rwa [if_neg hlive] at h

theorem EntryLaw.of_live {p : Page} (hlive : p.state ≠ .ended)
    (h : p.ended = none ∧ (16 ≤ p.length ∧ p.length ≤ 16384) ∧ p.copiesOrdered ≤ 9999 ∧
      p.copiesDone < p.copiesOrdered ∧ p.bandCount = bandCountOf p.length ∧
      p.bandLists.length = p.bandCount) : EntryLaw p := by
  unfold EntryLaw
  rwa [if_neg hlive]

theorem EntryLaw.endWith (p : Page) (outcome number) : EntryLaw (p.endWith outcome number) := by
  simp [EntryLaw, Page.endWith]

theorem appendLinks_length (lists : List (List Nat)) (first count number : Nat) :
    (appendLinks lists first count number).length = lists.length := by
  simp [appendLinks]

/-- Storing an object keeps the law of its page. -/
theorem EntryLaw.store {p : Page} (h : EntryLaw p) (hopen : p.state = .opened) (o w) :
    EntryLaw (p.store o w) := by
  have hlive : p.state ≠ .ended := by simp [hopen]
  obtain ⟨hended, hlength, hordered, hdone, hbands, hlists⟩ := h.live hlive
  exact .of_live hlive ⟨hended, hlength, hordered, hdone, hbands,
    (appendLinks_length _ _ _ _).trans hlists⟩

/-- The head page's entry begins and no other entry changes (R10). -/
theorem beginHead_composer (s : State) :
    (beginHead s).composer = { s.composer with
      pages := s.composer.pages.map fun p =>
        if s.composer.queue.head? = some p.id ∧ p.state = .queued then { p with state := .active } else p } := by
  unfold beginHead
  split
  · rename_i id hhead
    simp only [State.changePage, State.withComposer_composer, changePage, hhead, Option.some.injEq]
    congr 1
    apply List.map_congr_left
    intro p _
    by_cases hid : p.id = id
    · simp [hid]
    · simp [hid, Ne.symm hid]
  · rename_i hhead
    simp [hhead]

theorem PagesLaw.begun {s t : State} (h : PagesLaw s) (hc : t.composer = (beginHead s).composer) :
    PagesLaw t := by
  have hc := hc.trans (beginHead_composer s)
  refine h.map_of_queue _ (congrArg Composer.pages hc :) (congrArg Composer.lastId hc :)
    (congrArg Composer.queue hc :) ?_ ?_ ?_ ?_ ?_
  · intro p _; split <;> rfl
  · intro p _ hstate; split at hstate
    · cases hstate
    · exact hstate
  · intro p _; split
    · simp [PageState.inQueue, *]
    · rfl
  · intro p hp hactive; split at hactive
    · exact (‹_ ∧ _› : _ ∧ _).1
    · exact (h.1.2.2.2.2.2.2.2 p hp).2 hactive
  · intro p _ hlaw; split
    · exact .of_live (by simp) (hlaw.live (by simp [*]))
    · exact hlaw

theorem newPage_entryLaw {id width length copies : Nat} (hlength : 16 ≤ length ∧ length ≤ 16384)
    (hcopies : 1 ≤ copies ∧ copies ≤ 9999) : EntryLaw (newPage id width length copies) :=
  .of_live (by simp [newPage]) ⟨rfl, hlength, hcopies.2, hcopies.1, rfl, by simp [newPage]⟩

/-- PAGE_OPEN keeps the page laws: the new id is free and in range (R2, R6). -/
theorem PagesLaw.opened {s t : State} (h : PagesLaw s) {width length copies : Nat}
    (hlength : 16 ≤ length ∧ length ≤ 16384) (hcopies : 1 ≤ copies ∧ copies ≤ 9999)
    (hnone : ∀ p ∈ s.composer.pages, p.state ≠ .opened) (hroom : s.composer.pages.length < 8)
    (hc : t.composer = { s.composer with
      pages := s.composer.pages ++ [newPage s.composer.newId width length copies],
      lastId := s.composer.newId }) : PagesLaw t := by
  obtain ⟨⟨hlen, hids, hrange, hlast, hopened, hnodup, hof, hstates⟩, hentries⟩ := h
  obtain ⟨hpos, htop, hfree, -⟩ := newIdIsTheFirstFree s.composer hlast hlen
  have hcount : s.composer.pages.countP (fun p => decide (p.state = .opened)) = 0 :=
    List.countP_eq_zero.mpr fun p hp => by simpa using hnone p hp
  unfold PagesLaw PageLaw
  rw [hc]
  refine ⟨⟨by simpa using hroom, ?_, ?_, htop, ?_, hnodup, ?_, ?_⟩, ?_⟩
  · rw [List.map_append]
    exact hids.append (by simp) (by simpa [newPage] using hfree)
  · simp only [List.forall_mem_append, List.forall_mem_singleton]
    exact ⟨hrange, hpos, htop⟩
  · simp [hcount, newPage]
  · intro id hid
    obtain ⟨p, hp, hpid⟩ := hof id hid
    exact ⟨p, List.mem_append_left _ hp, hpid⟩
  · simp only [List.forall_mem_append, List.forall_mem_singleton]
    exact ⟨hstates, by simp [newPage, PageState.inQueue], by simp [newPage]⟩
  · simp only [List.forall_mem_append, List.forall_mem_singleton]
    exact ⟨hentries, newPage_entryLaw hlength hcopies⟩

/-- PAGE_CLOSE keeps the page laws: the OPEN page joins the queue at its tail (R8). -/
theorem PagesLaw.enqueued {s t : State} (h : PagesLaw s) {page : Page}
    (hfound : s.page? page.id = some page) (hopen : page.state = .opened)
    (hc : t.composer = (enqueuePage page.id s).composer) : PagesLaw t := by
  have hmem := State.page?_mem hfound
  obtain ⟨-, -, -, -, -, hnodup, hof, hstates⟩ := h.1
  have hout : page.id ∉ s.composer.queue := fun hin => by
    obtain ⟨p, hp, hpid, hstate⟩ := hof _ hin
    rw [h.1.eq_of_id hp hmem hpid, hopen] at hstate
    cases hstate
  have hqueue : t.composer.queue = s.composer.queue ++ [page.id] := congrArg Composer.queue hc
  have hother {p : Page} (hp : p ∈ s.composer.pages) (hid : ¬p.id = page.id)
      (hactive : p.state = .active) : (s.composer.queue ++ [page.id]).head? = some p.id := by
    have := (hstates p hp).2 hactive
    rw [List.head?_append, this]
    rfl
  refine h.map (fun p => if p.id = page.id then { p with state := .queued } else p)
    (congrArg Composer.pages hc :) (congrArg Composer.lastId hc :) ?_ ?_ ?_ ?_ ?_ ?_ ?_
  · intro p _; split <;> rfl
  · intro p _ hstate; split at hstate
    · cases hstate
    · exact hstate
  · rw [hqueue]; exact hnodup.append (by simp) (by simpa using hout)
  · rw [hqueue]
    simp only [List.forall_mem_append, List.forall_mem_singleton]
    refine ⟨fun id hid => ?_, page, hmem, rfl, by simp [PageState.inQueue]⟩
    obtain ⟨p, hp, hpid, hstate⟩ := hof id hid
    exact ⟨p, hp, hpid, by split <;> [rfl; exact hstate]⟩
  · intro p hp hstate
    rw [hqueue, List.mem_append]
    split at hstate
    · exact .inr (by simpa using ‹p.id = _›)
    · exact .inl ((hstates p hp).1 hstate)
  · intro p hp hactive
    rw [hqueue]
    split at hactive
    · cases hactive
    · exact hother hp ‹_› hactive
  · intro p hp hlaw
    split
    · rename_i hid
      rw [h.1.eq_of_id hp hmem hid] at hlaw ⊢
      exact .of_live (by simp) (hlaw.live (by simp [hopen]))
    · exact hlaw

/-- The end of a page keeps the page laws: its entry leaves the queue (R13). -/
theorem PagesLaw.ended {s t : State} (h : PagesLaw s) {page : Page} {k outcome number}
    (hc : t.composer = s.composer.endAfter page k outcome number) : PagesLaw t := by
  obtain ⟨-, -, -, -, -, hnodup, hof, hstates⟩ := h.1
  have hqueue : t.composer.queue = s.composer.queue.filter (fun id => id ≠ page.id) :=
    congrArg Composer.queue hc
  refine h.map (fun p : Page => if p.id = page.id then
      Page.endWith { p with copiesDone := p.copiesDone + k } outcome number else p)
    (congrArg Composer.pages hc :) (congrArg Composer.lastId hc :) ?_ ?_ ?_ ?_ ?_ ?_ ?_
  · intro p _; split <;> rfl
  · intro p _ hstate; split at hstate
    · cases hstate
    · exact hstate
  · rw [hqueue]; exact hnodup.filter _
  · rw [hqueue]
    intro id hid
    obtain ⟨hid, hne⟩ := List.mem_filter.mp hid
    obtain ⟨p, hp, rfl, hstate⟩ := hof id hid
    exact ⟨p, hp, rfl, by rw [if_neg (by simpa using hne)]; exact hstate⟩
  · intro p hp hstate
    rw [hqueue]
    split at hstate
    · cases hstate
    · exact List.mem_filter.mpr ⟨(hstates p hp).1 hstate, by simpa using ‹¬p.id = _›⟩
  · intro p hp hactive
    rw [hqueue]
    split at hactive
    · cases hactive
    · obtain ⟨rest, hrest⟩ := List.head?_eq_some_iff.mp ((hstates p hp).2 hactive)
      rw [hrest, List.filter_cons_of_pos (by simpa using ‹¬p.id = _›)]
      rfl
  · intro p _ hlaw
    split
    · exact .endWith _ _ _
    · exact hlaw

/-- Freeing ENDED entries keeps the page laws: none of them is in the queue (R21). -/
theorem PagesLaw.filter {s t : State} (h : PagesLaw s) (gone : Page → Bool)
    (hgone : ∀ p, gone p = true → p.state = .ended)
    (hc : t.composer = { s.composer with pages := s.composer.pages.filter fun p => !gone p }) :
    PagesLaw t := by
  obtain ⟨⟨hlen, hids, hrange, hlast, hopened, hnodup, hof, hstates⟩, hentries⟩ := h
  have hsub : List.Sublist (s.composer.pages.filter fun p => !gone p) s.composer.pages :=
    List.filter_sublist
  unfold PagesLaw PageLaw
  rw [hc]
  refine ⟨⟨hsub.length_le.trans hlen, (hsub.map _).nodup hids, fun p hp => hrange p (hsub.subset hp),
    hlast, (hsub.countP_le).trans hopened, hnodup, fun id hid => ?_,
    fun p hp => hstates p (hsub.subset hp)⟩, fun p hp => hentries p (hsub.subset hp)⟩
  obtain ⟨p, hp, hpid, hstate⟩ := hof id hid
  refine ⟨p, List.mem_filter.mpr ⟨hp, ?_⟩, hpid, hstate⟩
  by_contra hg
  rw [hgone p (by simpa using hg)] at hstate
  cases hstate

/-- Every change keeps the page laws. -/
theorem Change.pagesLaw {s t : State} (hchange : Change s t) (h : PagesLaw s) : PagesLaw t := by
  cases hchange with
  | quiet hc | configured hc | told _ hc | assetBegun _ _ _ _ _ _ _ _ _ hc
  | assetChanged _ _ _ _ _ _ hc | assetDropped _ _ _ hc => exact h.of_composer hc
  | acked n _ hc => exact h.filter _ (fun p hp => by simp at hp; exact hp.2) hc
  | counted id f hf hc =>
    exact h.changePage id f (congrArg Composer.pages hc :) (congrArg Composer.lastId hc :)
      (congrArg Composer.queue hc :) (fun p => (hf p).id) (fun p => (hf p).state)
      (fun p _ _ hlaw => hlaw.of_sameRecord (hf p))
  | begun hc => exact h.begun hc
  | opened _ _ _ hlength hcopies hnone hroom hc => exact h.opened hlength hcopies hnone hroom hc
  | stored page o w hfound hopen _ _ _ hc =>
    refine h.changePage page.id (fun p => p.store o w) (congrArg Composer.pages hc :)
      (congrArg Composer.lastId hc :) (congrArg Composer.queue hc :) (fun _ => rfl) (fun _ => rfl) ?_
    intro p hp hid hlaw
    rw [h.1.eq_of_id hp (State.page?_mem hfound) hid] at hlaw ⊢
    exact hlaw.store hopen o w
  | enqueued page hfound hopen hc => exact h.enqueued hfound hopen hc
  | copied page hfound hactive hmore hc =>
    refine h.changePage page.id (fun q => { q with copiesDone := q.copiesDone + 1 })
      (congrArg Composer.pages hc :) (congrArg Composer.lastId hc :) (congrArg Composer.queue hc :)
      (fun _ => rfl) (fun _ => rfl) ?_
    intro p hp hid hlaw
    rw [h.1.eq_of_id hp (State.page?_mem hfound) hid] at hlaw ⊢
    have hlive : page.state ≠ .ended := by simp [hactive]
    obtain ⟨hended, hlength, hordered, hdone, hbands⟩ := hlaw.live hlive
    exact .of_live hlive ⟨hended, hlength, hordered, by dsimp only; omega, hbands⟩
  | ended page k outcome report _ _ _ hc => exact h.ended hc
  | discarded hc =>
    obtain ⟨⟨-, -, -, hlast, -⟩, -⟩ := h
    unfold PagesLaw PageLaw
    rw [hc]
    simpa [Composer.discardPages] using hlast
  | restored hc =>
    unfold PagesLaw PageLaw
    rw [hc]
    simp [Composer.blank]

/-- Settles O41: every step is a sequence of changes, each of which keeps the page laws. -/
theorem pageLawKept : Obligations.PageLawKept := by
  unfold Obligations.PageLawKept
  intro s t h hstep
  exact (step_evolves hstep).keeps (Law := PagesLaw) (fun _ _ => Change.pagesLaw) h

end Sys2Proof.Machine
end

section
/-! PROOF. The law of the notice queue (R193, R194, R196) and the ranges of the configuration (R207): why
each change keeps them. -/

namespace Sys2Proof.Machine

/-! ### The configuration -/

/-- Every change keeps the ranges of the configuration. -/
theorem Change.settingsInRange {s t : State} (hchange : Change s t) (h : SettingsInRange s.settings) :
    SettingsInRange t.settings := by
  cases hchange
  case configured hs => exact hs h
  case restored hs => rw [hs]; decide
  all_goals rename_i hs; rw [hs]; exact h

/-- Settles O21: CONFIG alone sets fields, and only to values that their ranges hold; the other commands leave
them or bring back the defaults. -/
theorem settingsStayInRange : Obligations.SettingsStayInRange := by
  unfold Obligations.SettingsStayInRange
  intro s t h hstep
  exact (step_evolves hstep).keeps (Law := fun s => SettingsInRange s.settings)
    (fun _ _ => Change.settingsInRange) h

/-! ### Notice numbers -/

/-- The search takes the first number that is not held, or the last one it may try (R194). -/
theorem searchNumber_eq (fuel : Nat) (candidate : Byte) (held : List Byte) :
    ∃ k ≤ fuel, searchNumber fuel candidate held = candidate + BitVec.ofNat 8 k ∧
      (∀ j < k, candidate + BitVec.ofNat 8 j ∈ held) ∧
      (k = fuel ∨ candidate + BitVec.ofNat 8 k ∉ held) := by
  induction fuel generalizing candidate with
  | zero => exact ⟨0, le_rfl, by simp [searchNumber], by simp, .inl rfl⟩
  | succ fuel ih =>
    have hnext (j : Nat) : candidate + 1 + BitVec.ofNat 8 j = candidate + BitVec.ofNat 8 (j + 1) := by
      rw [Nat.add_comm j 1, BitVec.ofNat_add, BitVec.add_assoc]; rfl
    unfold searchNumber
    split
    · rename_i hheld
      obtain ⟨k, hk, heq, hbefore, hlast⟩ := ih (candidate + 1)
      refine ⟨k + 1, Nat.succ_le_succ hk, heq.trans (hnext k), fun j hj => ?_, ?_⟩
      · cases j with
        | zero => simpa using hheld
        | succ j => exact hnext j ▸ hbefore j (Nat.lt_of_succ_lt_succ hj)
      · rw [← hnext]; exact hlast.imp (congrArg Nat.succ) id
    · rename_i hfree
      exact ⟨0, Nat.zero_le _, by simp, by simp, .inr (by simpa using hfree)⟩

/-- With fewer numbers held than there are, the search finds one that is not held (R194). -/
theorem searchNumber_not_mem {held : List Byte} (hlen : held.length < 256) (candidate : Byte) :
    searchNumber 255 candidate held ∉ held := by
  obtain ⟨k, hk, heq, hbefore, hstop⟩ := searchNumber_eq 255 candidate held
  rw [heq]
  rcases hstop with rfl | hfree
  · obtain ⟨i, hi, hnot⟩ := exists_not_mem_of_length_lt (held := held) (n := 256)
      (candidate := fun i => candidate + BitVec.ofNat 8 i)
      (fun i hi j hj hij => by
        have hij : (BitVec.ofNat 8 i).toNat = (BitVec.ofNat 8 j).toNat :=
          congrArg BitVec.toNat (by simpa using hij)
        simp only [BitVec.toNat_ofNat] at hij
        omega) hlen
    rcases Nat.lt_succ_iff_lt_or_eq.mp hi with hlt | rfl
    · exact absurd (hbefore i hlt) hnot
    · exact hnot
  · exact hfree

/-! ### The notice law -/

/-- What the notice law reads of a notice. -/
def Notice.core (n : Notice) : Byte × NoticeKind × Option Nat := (n.number, n.content.kind, n.pageEndedId?)

/-- The notice law as a law of what it reads of the notices, and of the page table. -/
def CoreLaw (cores : List (Byte × NoticeKind × Option Nat)) (pages : List Page) : Prop :=
  (cores.map fun c => c.1).Nodup ∧ cores.countP (fun c => decide (c.2.1 = .ready)) ≤ 1 ∧
  cores.countP (fun c => decide (c.2.1 = .feedState)) ≤ 1 ∧ (cores.filterMap fun c => c.2.2).Nodup ∧
  (∀ c ∈ cores, ∀ id ∈ c.2.2, ∃ p ∈ pages, p.id = id ∧ p.state = .ended) ∧
  ∀ p ∈ pages, (p.state = .ended → p.ended.isSome = true) ∧
    ∀ e ∈ p.ended, p.state = .ended ∧ ∃ c ∈ cores, c.1 = e.noticeNumber ∧ c.2.2 = some p.id

theorem noticeLaw_iff (s : State) :
    NoticeLaw s ↔ CoreLaw (s.notices.entries.map Notice.core) s.composer.pages := by
  simp only [NoticeLaw, CoreLaw, List.map_map, List.countP_map, List.filterMap_map, List.forall_mem_map,
    NoticeQueue.reportedPages, Function.comp_def]
  simp only [List.mem_map, exists_exists_and_eq_and, Notice.core]
  rfl

theorem map_core_of_faces {before after : List Notice}
    (h : after.map Notice.face = before.map Notice.face) :
    after.map Notice.core = before.map Notice.core := by
  have hcore (n : Notice) : n.core =
      (n.face.1, n.face.2.2.kind,
        match n.face.2.2 with
        | .pageEnded report => some report.page
        | .ready _ _ => none
        | .feedState _ => none) := by
    cases n with | mk _ _ content => cases content <;> rfl
  have := congrArg (List.map fun f => (f.1, f.2.2.kind,
    match f.2.2 with
    | .pageEnded report => some report.page
    | .ready _ _ => none
    | .feedState _ => none)) h
  simp only [List.map_map, Function.comp_def] at this
  simpa only [funext hcore] using this

/-- The notices, by kind: each is READY, FEED_STATE or the report of a page. -/
theorem length_eq_kinds (entries : List Notice) :
    entries.length = entries.countP (fun n => decide (n.content.kind = .ready)) +
      entries.countP Notice.isFeedState + (entries.filterMap Notice.pageEndedId?).length := by
  induction entries with
  | nil => rfl
  | cons n rest ih =>
    have hkind : n.content.kind = .ready ∧ n.pageEndedId? = none ∨
        n.content.kind = .feedState ∧ n.pageEndedId? = none ∨
        n.content.kind = .pageEnded ∧ n.pageEndedId?.isSome = true := by
      unfold Notice.pageEndedId?
      cases n.content <;> simp [NoticeContent.kind]
    rcases hkind with ⟨hk, hp⟩ | ⟨hk, hp⟩ | ⟨hk, hp⟩
    · simp [hk, hp, Notice.isFeedState, ih]; omega
    · simp [hk, hp, Notice.isFeedState, ih]; omega
    · obtain ⟨id, hid⟩ := Option.isSome_iff_exists.mp hp
      simp [hk, hid, Notice.isFeedState, ih]; omega

/-- A lawful queue holds few notices (R193), so that a new number is not held. -/
theorem nextNumber_not_mem {s : State} (hpages : PagesLaw s) (h : NoticeLaw s) :
    s.notices.nextNumber [] ∉ s.notices.entries.map Notice.number := by
  obtain ⟨-, hready, hfeed, hnodup, hended, -⟩ := h
  have hsub : s.notices.reportedPages ⊆ s.composer.pages.map Page.id := by
    intro id hid
    obtain ⟨n, hn, hnid⟩ := List.mem_filterMap.mp hid
    obtain ⟨p, hp, rfl, -⟩ := hended n hn id hnid
    exact List.mem_map_of_mem hp
  have hreported : s.notices.reportedPages.length ≤ 8 := by
    have := (hnodup.subperm hsub).length_le
    rw [List.length_map] at this
    exact this.trans hpages.1.1
  have hlen := length_eq_kinds s.notices.entries
  unfold NoticeQueue.nextNumber
  rw [List.append_nil]
  refine searchNumber_not_mem ?_ _
  rw [List.length_map, hlen]
  unfold NoticeQueue.reportedPages at hreported
  omega

theorem NoticeLaw.of_cores {s t : State} (h : NoticeLaw s)
    (hcores : t.notices.entries.map Notice.core = s.notices.entries.map Notice.core)
    (hpages : t.composer.pages = s.composer.pages) : NoticeLaw t := by
  rw [noticeLaw_iff, hcores, hpages, ← noticeLaw_iff]
  exact h

/-- Entries that neither end nor change what they hold of their end keep the law. -/
theorem NoticeLaw.map_pages {s t : State} (h : NoticeLaw s) (g : Page → Page)
    (hpages : t.composer.pages = s.composer.pages.map g) (hn : t.notices = s.notices)
    (hid : ∀ p ∈ s.composer.pages, (g p).id = p.id)
    (hstate : ∀ p ∈ s.composer.pages, (g p).state = .ended ↔ p.state = .ended)
    (hended : ∀ p ∈ s.composer.pages, (g p).ended = p.ended) : NoticeLaw t := by
  obtain ⟨hnumbers, hready, hfeed, hnodup, hof, hentries⟩ := h
  unfold NoticeLaw
  rw [hn, hpages]
  refine ⟨hnumbers, hready, hfeed, hnodup, fun n hn id hid' => ?_, ?_⟩
  · obtain ⟨p, hp, hpid, hpstate⟩ := hof n hn id hid'
    exact ⟨g p, List.mem_map_of_mem hp, (hid p hp).trans hpid, (hstate p hp).mpr hpstate⟩
  · simp only [List.forall_mem_map]
    intro p hp
    rw [hstate p hp, hended p hp, hid p hp]
    exact hentries p hp

/-- One entry changed that neither ends nor changes what it holds of its end. -/
theorem NoticeLaw.changePage {s t : State} (h : NoticeLaw s) (id : Nat) (f : Page → Page)
    (hpages : t.composer.pages = Machine.changePage id f s.composer.pages) (hn : t.notices = s.notices)
    (hid : ∀ p, (f p).id = p.id) (hended : ∀ p, (f p).ended = p.ended)
    (hstate : ∀ p ∈ s.composer.pages, p.id = id → ((f p).state = .ended ↔ p.state = .ended)) :
    NoticeLaw t := by
  refine h.map_pages (fun p => if p.id = id then f p else p) hpages hn ?_ ?_ ?_
  · intro p _; split <;> simp [hid]
  · intro p hp; split
    · exact hstate p hp ‹_›
    · rfl
  · intro p _; split <;> simp [hended]

/-- Entries whose values under a function, where it has one, are all different are told apart by them. -/
theorem eq_of_nodup_filterMap {α β : Type} {f : α → Option β} {l : List α} (h : (l.filterMap f).Nodup)
    {a a' : α} {b : β} (ha : a ∈ l) (ha' : a' ∈ l) (hb : f a = some b) (hb' : f a' = some b) : a = a' := by
  have hrest (x : α) (rest : List α) (hx : f x = some b) (hnodup : ((x :: rest).filterMap f).Nodup)
      (y : α) (hy : y ∈ rest) : f y ≠ some b := fun hyb => by
    rw [List.filterMap_cons_some hx, List.nodup_cons] at hnodup
    exact hnodup.1 (List.mem_filterMap.mpr ⟨y, hy, hyb⟩)
  induction l with
  | nil => cases ha
  | cons x rest ih =>
    rcases List.mem_cons.mp ha with rfl | hmem <;> rcases List.mem_cons.mp ha' with rfl | hmem'
    · rfl
    · exact absurd hb' (hrest _ _ hb h _ hmem')
    · exact absurd hb (hrest _ _ hb' h _ hmem)
    · exact ih (h.sublist ((List.sublist_cons_self x rest).filterMap f)) hmem hmem'

/-- A FEED_STATE entry is created or revised (R197). -/
theorem NoticeLaw.told {s t : State} (hpages : PagesLaw s) (h : NoticeLaw s) {report : FeedReport}
    (hc : t.composer = s.composer) (hn : t.notices = s.notices.feedState report) : NoticeLaw t := by
  have hfree := nextNumber_not_mem hpages h
  unfold NoticeQueue.feedState at hn
  split at hn
  · refine h.of_cores ?_ (congrArg Composer.pages hc)
    rw [hn, List.map_map]
    refine List.map_congr_left fun n _ => ?_
    simp only [Function.comp_apply]
    split
    · rename_i hfeed
      have hkind : n.content.kind = .feedState := by simpa [Notice.isFeedState] using hfeed
      have hpage : n.pageEndedId? = none := by
        unfold Notice.pageEndedId?
        cases hcontent : n.content <;> simp_all [NoticeContent.kind]
      simp [Notice.core, Notice.revise, hkind, hpage]
      exact ⟨rfl, rfl⟩
    · rfl
  · rename_i hnone
    obtain ⟨hnumbers, hready, hfeed, hnodup, hof, hentries⟩ := h
    have hzero : s.notices.entries.countP Notice.isFeedState = 0 :=
      List.countP_eq_zero.mpr fun n hn hf => hnone (List.any_eq_true.mpr ⟨n, hn, hf⟩)
    unfold NoticeLaw NoticeQueue.reportedPages
    rw [hn, hc, NoticeQueue.create_entries]
    refine ⟨?_, ?_, ?_, ?_, ?_, ?_⟩
    · rw [List.map_append]
      exact hnumbers.append (by simp) (by simpa using hfree)
    · simpa [NoticeContent.kind] using hready
    · rw [List.countP_append, hzero, Nat.zero_add]
      exact List.countP_le_length
    · rw [List.filterMap_append]
      refine hnodup.append ?_ ?_ <;> simp [Notice.pageEndedId?, List.filterMap]
    · simp only [List.forall_mem_append, List.forall_mem_singleton]
      exact ⟨hof, by simp [Notice.pageEndedId?]⟩
    · intro p hp
      refine ⟨(hentries p hp).1, fun e he => ⟨((hentries p hp).2 e he).1, ?_⟩⟩
      obtain ⟨n, hn, hnid⟩ := ((hentries p hp).2 e he).2
      exact ⟨n, List.mem_append_left _ hn, hnid⟩

/-- A removed notice takes the ENDED entry that it reports with it (R21, R200). -/
theorem NoticeLaw.acked {s t : State} (h : NoticeLaw s) {n : Notice} (hmem : n ∈ s.notices.entries)
    (hc : t.composer = { s.composer with
      pages := s.composer.pages.filter fun p =>
        !(decide (some p.id = n.pageEndedId?) && decide (p.state = .ended)) })
    (hn : t.notices.entries = s.notices.entries.filter fun m => decide (m.number ≠ n.number)) :
    NoticeLaw t := by
  obtain ⟨hnumbers, hready, hfeed, hnodup, hof, hentries⟩ := h
  have hsub : List.Sublist t.notices.entries s.notices.entries := hn ▸ List.filter_sublist
  have hreported : List.Sublist t.notices.reportedPages s.notices.reportedPages := hsub.filterMap _
  have hkeptPage {p : Page} : p ∈ t.composer.pages ↔
      p ∈ s.composer.pages ∧ ¬(some p.id = n.pageEndedId? ∧ p.state = .ended) := by
    rw [hc]; simp [List.mem_filter, imp_iff_not_or]
  have hkept {m : Notice} : m ∈ t.notices.entries ↔ m ∈ s.notices.entries ∧ m.number ≠ n.number := by
    rw [hn]; simp [List.mem_filter]
  refine ⟨(hsub.map _).nodup hnumbers, hsub.countP_le.trans hready, hsub.countP_le.trans hfeed,
    hreported.nodup hnodup, fun m hm id hid => ?_, fun p hp => ?_⟩
  · obtain ⟨hm, hne⟩ := hkept.mp hm
    obtain ⟨p, hp, rfl, hstate⟩ := hof m hm id hid
    refine ⟨p, hkeptPage.mpr ⟨hp, fun hgone => hne ?_⟩, rfl, hstate⟩
    have hsame := eq_of_nodup_filterMap hnodup hm hmem hid hgone.1.symm
    rw [hsame]
  · obtain ⟨hp, hleft⟩ := hkeptPage.mp hp
    refine ⟨(hentries p hp).1, fun e he => ?_⟩
    obtain ⟨hstate, m, hm, hnumber, hid⟩ := (hentries p hp).2 e he
    refine ⟨hstate, m, hkept.mpr ⟨hm, fun hsame => hleft ⟨?_, hstate⟩⟩, hnumber, hid⟩
    rw [← List.inj_on_of_nodup_map hnumbers hm hmem hsame, hid]

/-- The end of a page creates its notice (R13, R196). -/
theorem NoticeLaw.ended {s t : State} (hpages : PagesLaw s) (h : NoticeLaw s) {page : Page} {k outcome}
    {report : PageReport} (hfound : s.page? page.id = some page) (hlive : page.state ≠ .ended)
    (hreport : report.page = page.id)
    (hc : t.composer = s.composer.endAfter page k outcome (s.notices.nextNumber []))
    (hn : t.notices = s.notices.create [] (.pageEnded report)) : NoticeLaw t := by
  have hfree := nextNumber_not_mem hpages h
  have hmem := State.page?_mem hfound
  obtain ⟨hnumbers, hready, hfeed, hnodup, hof, hentries⟩ := h
  have hnew : page.id ∉ s.notices.reportedPages := fun hin => by
    obtain ⟨n, hn, hid⟩ := List.mem_filterMap.mp hin
    obtain ⟨p, hp, hpid, hstate⟩ := hof n hn _ hid
    rw [hpages.1.eq_of_id hp hmem hpid] at hstate
    exact hlive hstate
  have hpagesEq : t.composer.pages = s.composer.pages.map fun p => if p.id = page.id then
      Page.endWith { p with copiesDone := p.copiesDone + k } outcome (s.notices.nextNumber []) else p := by
    rw [hc]; rfl
  unfold NoticeLaw
  rw [hn, NoticeQueue.reportedPages, NoticeQueue.create_entries, hpagesEq]
  refine ⟨?_, ?_, ?_, ?_, ?_, ?_⟩
  · rw [List.map_append]
    exact hnumbers.append (by simp) (by simpa using hfree)
  · simpa [NoticeContent.kind] using hready
  · simpa [Notice.isFeedState, NoticeContent.kind] using hfeed
  · rw [List.filterMap_append]
    refine hnodup.append (by simp [Notice.pageEndedId?]) ?_
    simpa [Notice.pageEndedId?, hreport] using hnew
  · simp only [List.forall_mem_append, List.forall_mem_singleton]
    refine ⟨fun n hn id hid => ?_, fun id hid => ?_⟩
    · obtain ⟨p, hp, hpid, hstate⟩ := hof n hn id hid
      refine ⟨_, List.mem_map_of_mem hp, ?_, ?_⟩
      · split <;> exact hpid
      · split <;> [rfl; exact hstate]
    · have hid : page.id = id := by simpa [Notice.pageEndedId?, hreport] using hid
      exact ⟨_, List.mem_map_of_mem hmem, by simpa [Page.endWith] using hid, by simp [Page.endWith]⟩
  · simp only [List.forall_mem_map]
    intro p hp
    split
    · rename_i hid
      refine ⟨fun _ => rfl, fun e he => ⟨rfl, ?_⟩⟩
      cases Option.mem_some.mp he
      exact ⟨_, List.mem_append_right _ (List.mem_singleton.mpr rfl), rfl, by
        simp [Notice.pageEndedId?, hreport, Page.endWith, hid]⟩
    · refine ⟨(hentries p hp).1, fun e he => ⟨((hentries p hp).2 e he).1, ?_⟩⟩
      obtain ⟨n, hn, hnid⟩ := ((hentries p hp).2 e he).2
      exact ⟨n, List.mem_append_left _ hn, hnid⟩

/-- With no page left and no page reported, the queue holds at most READY and FEED_STATE. -/
theorem NoticeLaw.of_no_pages {t : State} (hpages : t.composer.pages = [])
    (hnumbers : (t.notices.entries.map Notice.number).Nodup)
    (hready : t.notices.entries.countP (fun n => decide (n.content.kind = .ready)) ≤ 1)
    (hfeed : t.notices.entries.countP Notice.isFeedState ≤ 1)
    (hnone : ∀ n ∈ t.notices.entries, n.pageEndedId? = none) : NoticeLaw t := by
  refine ⟨hnumbers, hready, hfeed, ?_, fun n hn id hid => ?_, ?_⟩
  · rw [NoticeQueue.reportedPages, List.filterMap_eq_nil_iff.mpr hnone]
    exact List.nodup_nil
  · rw [hnone n hn] at hid; cases hid
  · rw [hpages]; simp

theorem Notice.pageEndedId?_of_kind {n : Notice} (h : n.content.kind ≠ .pageEnded) :
    n.pageEndedId? = none := by
  unfold Notice.pageEndedId?
  cases hcontent : n.content <;> simp_all [NoticeContent.kind]

/-- Every change keeps the notice law of a lawful page table. -/
theorem Change.noticeLaw {s t : State} (hchange : Change s t) (hpages : PagesLaw s) (h : NoticeLaw s) :
    NoticeLaw t := by
  cases hchange with
  | quiet hc _ hn => exact h.of_cores (map_core_of_faces hn) (by rw [hc])
  | configured hc _ hn | assetBegun _ _ _ _ _ _ _ _ _ hc _ hn | assetChanged _ _ _ _ _ _ hc _ hn
  | assetDropped _ _ _ hc _ hn => exact h.of_cores (by rw [hn]) (by rw [hc])
  | told _ hc _ hn => exact h.told hpages hc hn
  | acked _ hmem hc _ hn => exact h.acked hmem hc hn
  | counted id f hf hc _ hn =>
    exact h.changePage id f (congrArg Composer.pages hc :) hn (fun p => (hf p).id) (fun p => (hf p).ended)
      (fun p _ _ => by rw [(hf p).state])
  | begun hc _ hn =>
    refine h.map_pages _ (congrArg Composer.pages (hc.trans (beginHead_composer s)) :) hn ?_ ?_ ?_
    · intro p _; split <;> rfl
    · intro p _; split
      · simp [*]
      · rfl
    · intro p _; split <;> rfl
  | opened _ _ _ _ _ _ _ hc _ hn =>
    obtain ⟨hnumbers, hready, hfeed, hnodup, hof, hentries⟩ := h
    unfold NoticeLaw
    rw [hn, hc]
    refine ⟨hnumbers, hready, hfeed, hnodup, fun n hn id hid => ?_, ?_⟩
    · obtain ⟨p, hp, hpid⟩ := hof n hn id hid
      exact ⟨p, List.mem_append_left _ hp, hpid⟩
    · simp only [List.forall_mem_append, List.forall_mem_singleton]
      exact ⟨hentries, by simp [newPage]⟩
  | stored page o w _ _ _ _ _ hc _ hn =>
    exact h.changePage page.id (fun p => p.store o w) (congrArg Composer.pages hc :) hn (fun _ => rfl)
      (fun _ => rfl) (fun _ _ _ => Iff.rfl)
  | enqueued page hfound hopen hc _ hn =>
    refine h.changePage page.id (fun p => { p with state := .queued }) (congrArg Composer.pages hc :) hn
      (fun _ => rfl) (fun _ => rfl) (fun p hp hid => ?_)
    rw [hpages.1.eq_of_id hp (State.page?_mem hfound) hid]
    simp [hopen]
  | copied page _ _ _ hc _ hn =>
    exact h.changePage page.id (fun q => { q with copiesDone := q.copiesDone + 1 })
      (congrArg Composer.pages hc :) hn (fun _ => rfl) (fun _ => rfl) (fun _ _ _ => Iff.rfl)
  | ended page k outcome report hfound hlive hreport hc _ hn =>
    exact h.ended hpages hfound hlive hreport hc hn
  | discarded hc _ hn =>
    obtain ⟨hnumbers, hready, hfeed, -⟩ := h
    have hsub : List.Sublist t.notices.entries s.notices.entries := hn ▸ List.filter_sublist
    refine .of_no_pages (by rw [hc]; rfl) ((hsub.map _).nodup hnumbers) (hsub.countP_le.trans hready)
      (hsub.countP_le.trans hfeed) fun n hmem => Notice.pageEndedId?_of_kind ?_
    rw [hn] at hmem
    simpa [Notice.isPageEnded] using (List.mem_filter.mp hmem).2
  | restored hc _ hlen hready _ =>
    refine .of_no_pages (by rw [hc]; rfl) ?_ (List.countP_le_length.trans hlen)
      (List.countP_le_length.trans hlen) fun n hmem => Notice.pageEndedId?_of_kind (by simp [hready n hmem])
    rcases hentries : t.notices.entries with _ | ⟨n, _ | ⟨m, rest⟩⟩
    · exact List.nodup_nil
    · exact List.nodup_singleton _
    · simp [hentries] at hlen

/-- Settles O25: every step is a sequence of changes, each of which keeps the page laws and the notice law
together. -/
theorem noticeLawKept : Obligations.NoticeLawKept := by
  unfold Obligations.NoticeLawKept
  rintro s t ⟨hpage, hentry, hnotice⟩ hstep
  obtain ⟨hpages, hnotices⟩ := (step_evolves hstep).keeps (Law := fun s => PagesLaw s ∧ NoticeLaw s)
    (fun _ _ hchange h => ⟨hchange.pagesLaw h.1, hchange.noticeLaw h.1 h.2⟩) ⟨⟨hpage, hentry⟩, hnotice⟩
  exact ⟨hpages.1, hpages.2, hnotices⟩

end Sys2Proof.Machine
end

section
/-! PROOF. The laws of the asset table and of the reference counts (R153, R154, R165, R166, R168): why each
change keeps them. -/

namespace Sys2Proof.Machine

/-! ### The asset law -/

theorem AssetLaw.of_assets {s t : State} (ha : t.assets = s.assets) (h : AssetLaw s) : AssetLaw t := by
  unfold AssetLaw at *
  rw [ha]
  exact h

theorem AssetLaw.eq_of_id {s : State} (h : AssetLaw s) {a b : Asset} (ha : a ∈ s.assets.table)
    (hb : b ∈ s.assets.table) (hid : a.id = b.id) : a = b :=
  List.inj_on_of_nodup_map h.2.1 ha hb hid

theorem State.asset?_mem {s : State} {id : Nat} {a : Asset} (h : s.asset? id = some a) :
    a ∈ s.assets.table := List.mem_of_find?_eq_some h

theorem State.asset?_none {s : State} {id : Nat} (h : s.asset? id = none) :
    ∀ a ∈ s.assets.table, a.id ≠ id := fun a ha => by
  simpa using List.find?_eq_none.mp h a ha

/-- Assets that keep their ids and their declared sizes, and do not outgrow them. -/
theorem AssetLaw.map {s t : State} (h : AssetLaw s) (g : Asset → Asset)
    (ha : t.assets = { s.assets with table := s.assets.table.map g }) (hid : ∀ a, (g a).id = a.id)
    (hsize : ∀ a, (g a).declared = a.declared)
    (hlen : ∀ a ∈ s.assets.table, a.received ≤ a.declared → (g a).received ≤ a.declared) :
    AssetLaw t := by
  obtain ⟨hroom, hids, hblocks, hentries⟩ := h
  have hheld : blocksHeld (s.assets.table.map g) = blocksHeld s.assets.table := by
    simp only [blocksHeld, List.map_map, Function.comp_def, Asset.blocks, hsize]
    rfl
  unfold AssetLaw
  rw [ha]
  refine ⟨by simpa using hroom, ?_, by dsimp only; omega, ?_⟩
  · simpa [Function.comp_def, hid] using hids
  · simp only [List.forall_mem_map]
    intro a hmem
    obtain ⟨hrange, hreceived, hdeclared⟩ := hentries a hmem
    rw [hid, hsize]
    exact ⟨hrange, hlen a hmem hreceived, hdeclared⟩

theorem blocksHeld_filter (table : List Asset) (gone : Asset → Bool) :
    blocksHeld (table.filter gone) + blocksHeld (table.filter fun a => !gone a) = blocksHeld table := by
  induction table with
  | nil => rfl
  | cons a rest ih =>
    simp only [blocksHeld, List.filter_cons, List.map_cons, List.sum_cons] at ih ⊢
    cases gone a <;> simp <;> omega

/-- Removed assets give their blocks back (R154). -/
theorem AssetLaw.remove {s t : State} (h : AssetLaw s) (gone : Asset → Bool)
    (ha : t.assets = s.assets.remove gone) : AssetLaw t := by
  obtain ⟨hroom, hids, hblocks, hentries⟩ := h
  have hsub : List.Sublist (s.assets.table.filter fun a => !gone a) s.assets.table := List.filter_sublist
  have hsplit := blocksHeld_filter s.assets.table gone
  unfold AssetLaw
  rw [ha]
  refine ⟨hsub.length_le.trans hroom, (hsub.map _).nodup hids, ?_, fun a hmem => hentries a (hsub.subset hmem)⟩
  simp only [AssetStore.remove]
  omega

/-- The state with another asset store, in which a change of two parts can be taken apart. -/
theorem AssetLaw.map_remove {s t : State} (h : AssetLaw s) (g : Asset → Asset) (gone : Asset → Bool)
    (ha : t.assets = AssetStore.remove { s.assets with table := s.assets.table.map g } gone)
    (hid : ∀ a, (g a).id = a.id) (hsize : ∀ a, (g a).declared = a.declared)
    (hdata : ∀ a, (g a).data = a.data) : AssetLaw t := by
  have hmapped : AssetLaw (s.withAssets { s.assets with table := s.assets.table.map g }) :=
    h.map g rfl hid hsize fun a _ hlen => by simpa [Asset.received, hdata] using hlen
  exact hmapped.remove gone ha

/-- Every change keeps the asset law. -/
theorem Change.assetLaw {s t : State} (hchange : Change s t) (h : AssetLaw s) : AssetLaw t := by
  cases hchange with
  | quiet _ ha | configured _ ha | told _ _ ha | acked _ _ _ ha | counted _ _ _ _ ha | begun _ ha
  | opened _ _ _ _ _ _ _ _ ha | enqueued _ _ _ _ ha | copied _ _ _ _ _ ha => exact h.of_assets ha
  | assetBegun a hnew hid _ _ hdata hsize hroom hfree _ ha =>
    obtain ⟨hlen, hids, hblocks, hentries⟩ := h
    unfold AssetLaw
    rw [ha]
    refine ⟨by simpa using hroom, ?_, ?_, ?_⟩
    · rw [List.map_append]
      exact hids.append (by simp) (by simpa using fun b hb => State.asset?_none hnew b hb)
    · simp only [blocksHeld, List.map_append, List.sum_append, List.map_singleton,
        List.sum_singleton] at hblocks ⊢
      omega
    · simp only [List.forall_mem_append, List.forall_mem_singleton]
      exact ⟨hentries, hid, by simp [Asset.received, hdata], hsize⟩
  | assetChanged a f hfound hf hlen _ _ ha =>
    refine h.map (fun x => if x.id = a.id then f x else x) ha ?_ ?_ ?_
    · intro x; split <;> simp [hf]
    · intro x; split <;> simp [hf]
    · intro x hx hxlen
      split
      · rename_i hid
        rw [h.eq_of_id hx (State.asset?_mem hfound) hid] at hxlen ⊢
        exact hlen hxlen
      · exact hxlen
  | assetDropped a _ _ _ ha => exact h.remove _ ha
  | stored page o _ _ _ _ _ _ _ ha =>
    unfold AssetStore.lendTo at ha
    split at ha
    · refine h.map _ ha ?_ ?_ ?_
      · intro x; split <;> rfl
      · intro x; split <;> rfl
      · intro x _ hlen; split <;> exact hlen
    · exact h.of_assets ha
  | ended page _ _ _ _ _ _ _ ha =>
    exact h.map_remove _ _ ha (fun _ => rfl) (fun _ => rfl) fun _ => rfl
  | discarded _ ha => exact h.map_remove _ _ ha (fun _ => rfl) (fun _ => rfl) fun _ => rfl
  | restored _ ha =>
    unfold AssetLaw
    rw [ha]
    decide

/-- Settles O31: every step is a sequence of changes, each of which keeps the asset law. -/
theorem assetLawKept : Obligations.AssetLawKept := by
  unfold Obligations.AssetLawKept
  intro s t h hstep
  exact (step_evolves hstep).keeps (Law := AssetLaw) (fun _ _ => Change.assetLaw) h

/-! ### Sums over the page table -/

/-- A sum over the table after one entry was changed: that entry's part is replaced. -/
theorem sum_changePage {pages : List Page} (hn : (pages.map Page.id).Nodup) {page : Page}
    (hmem : page ∈ pages) (f : Page → Page) (g : Page → Nat) :
    ((changePage page.id f pages).map g).sum + g page = (pages.map g).sum + g (f page) := by
  induction pages with
  | nil => cases hmem
  | cons p rest ih =>
    rw [List.map_cons, List.nodup_cons] at hn
    have hcons : changePage page.id f (p :: rest) =
        (if p.id = page.id then f p else p) :: changePage page.id f rest := rfl
    rw [hcons]
    by_cases hid : p.id = page.id
    · have heq : p = page := by
        rcases List.mem_cons.mp hmem with h | h
        · exact h.symm
        · exact absurd (hid ▸ List.mem_map_of_mem h) hn.1
      subst heq
      have hrest : changePage p.id f rest = rest := by
        unfold changePage
        conv_rhs => rw [← List.map_id rest]
        refine List.map_congr_left fun q hq => if_neg fun hqid => hn.1 ?_
        exact hqid ▸ List.mem_map_of_mem hq
      simp only [if_pos, hrest, List.map_cons, List.sum_cons]
      omega
    · have hmem' : page ∈ rest := (List.mem_cons.mp hmem).resolve_left fun h => hid (by rw [h])
      have := ih hn.2 hmem'
      simp only [if_neg hid, List.map_cons, List.sum_cons]
      omega

/-- A sum of what the objects of each page give, over tables whose pages hold the same objects. -/
theorem sum_objects_map (pages : List Page) (f : Page → Page) (m : List StoredObject → Nat)
    (hf : ∀ p ∈ pages, (f p).objects = p.objects) :
    ((pages.map f).map fun p => m p.objects).sum = (pages.map fun p => m p.objects).sum := by
  rw [List.map_map]
  congr 1
  exact List.map_congr_left fun p hp => by simp [hf p hp]

/-- Entries without objects add nothing to such a sum. -/
theorem sum_objects_filter (pages : List Page) (gone : Page → Bool) (m : List StoredObject → Nat)
    (hm : m [] = 0) (hgone : ∀ p ∈ pages, gone p = true → p.objects = []) :
    ((pages.filter fun p => !gone p).map fun p => m p.objects).sum =
      (pages.map fun p => m p.objects).sum := by
  induction pages with
  | nil => rfl
  | cons p rest ih =>
    have hrest := ih fun q hq => hgone q (List.mem_cons_of_mem _ hq)
    cases hp : gone p with
    | true => simp [hp, hrest, hgone p List.mem_cons_self hp, hm]
    | false => simp [hp, hrest]

/-- Two ways to look at a page table by its objects: the sums, and the objects themselves. -/
structure SameObjects (before after : List Page) : Prop where
  sum (m : List StoredObject → Nat) (hm : m [] = 0) :
    (after.map fun p => m p.objects).sum = (before.map fun p => m p.objects).sum
  objects : ∀ p ∈ after, ∀ o ∈ p.objects, ∃ q ∈ before, o ∈ q.objects

theorem SameObjects.refl (pages : List Page) : SameObjects pages pages :=
  ⟨fun _ _ => rfl, fun p hp _ ho => ⟨p, hp, ho⟩⟩

theorem SameObjects.map (pages : List Page) (f : Page → Page)
    (hf : ∀ p ∈ pages, (f p).objects = p.objects) : SameObjects pages (pages.map f) :=
  ⟨fun m _ => sum_objects_map pages f m hf, by
    simp only [List.forall_mem_map]
    exact fun p hp o ho => ⟨p, hp, hf p hp ▸ ho⟩⟩

theorem SameObjects.changePage (pages : List Page) (id : Nat) (f : Page → Page)
    (hf : ∀ p, (f p).objects = p.objects) : SameObjects pages (Machine.changePage id f pages) :=
  .map pages (fun p => if p.id = id then f p else p) fun p _ => by split <;> simp [hf]

/-- Freed ENDED entries hold no objects (R13, R21). -/
theorem SameObjects.freed {s : State} (hpages : PagesLaw s) (gone : Page → Bool)
    (hgone : ∀ p, gone p = true → p.state = .ended) :
    SameObjects s.composer.pages (s.composer.pages.filter fun p => !gone p) := by
  refine ⟨fun m hm => sum_objects_filter _ _ m hm fun p hp hg => ?_,
    fun p hp o ho => ⟨p, (List.mem_filter.mp hp).1, ho⟩⟩
  have hlaw := hpages.2 p hp
  unfold EntryLaw at hlaw
  rw [if_pos (hgone p hg)] at hlaw
  exact hlaw.2.1

theorem SameObjects.begun (s : State) : SameObjects s.composer.pages (beginHead s).composer.pages := by
  rw [beginHead_composer]
  exact .map _ _ fun p _ => by split <;> rfl

/-- A new page holds no objects (R1). -/
theorem SameObjects.opened (pages : List Page) (id width length copies : Nat) :
    SameObjects pages (pages ++ [newPage id width length copies]) := by
  refine ⟨fun m hm => by simp [newPage, hm], ?_⟩
  simp only [List.forall_mem_append, List.forall_mem_singleton]
  exact ⟨fun p hp o ho => ⟨p, hp, ho⟩, by simp [newPage]⟩

/-! ### The law of reference counts -/

/-- The reference law of an asset table and a page table. -/
def RefLaw (table : List Asset) (pages : List Page) : Prop :=
  (∀ a ∈ table, a.refCount = (pages.map fun p => naming a.id p.objects).sum ∧
    (a.state = .doomed → 0 < a.refCount) ∧ (a.state = .loading → a.refCount = 0)) ∧
  ∀ p ∈ pages, ∀ o ∈ p.objects, ∀ id ∈ o.assetId?, id ∈ table.map Asset.id

theorem RefLaw.of_sameObjects {table : List Asset} {before after : List Page} (h : RefLaw table before)
    (hsame : SameObjects before after) : RefLaw table after := by
  refine ⟨fun a ha => ?_, fun p hp o ho id hid => ?_⟩
  · rw [hsame.sum (naming a.id) rfl]
    exact h.1 a ha
  · obtain ⟨q, hq, hoq⟩ := hsame.objects p hp o ho
    exact h.2 q hq o hoq id hid

/-- An asset that no object names is not the asset of any object. -/
theorem sum_naming_eq_zero {pages : List Page} {id : Nat}
    (h : (pages.map fun p => naming id p.objects).sum = 0) :
    ∀ p ∈ pages, ∀ o ∈ p.objects, o.assetId? ≠ some id := by
  intro p hp o ho hid
  have hzero := List.sum_eq_zero_iff.mp h _ (List.mem_map_of_mem hp)
  exact absurd (List.countP_eq_zero.mp hzero o ho) (by simp [hid])

/-- An id that is no asset's is named by no object. -/
theorem RefLaw.naming_new {table : List Asset} {pages : List Page} (h : RefLaw table pages) {id : Nat}
    (hnew : id ∉ table.map Asset.id) : (pages.map fun p => naming id p.objects).sum = 0 := by
  refine List.sum_eq_zero_iff.mpr ?_
  simp only [List.forall_mem_map]
  intro p hp
  refine List.countP_eq_zero.mpr fun o ho => ?_
  simpa using fun hid => hnew (h.2 p hp o ho id hid)

/-- Assets that keep their ids, their counts and what the law says of their states. -/
theorem RefLaw.map {table : List Asset} {pages : List Page} (h : RefLaw table pages) (g : Asset → Asset)
    (hid : ∀ a, (g a).id = a.id) (hcount : ∀ a, (g a).refCount = a.refCount)
    (hstate : ∀ a ∈ table, (g a).state = a.state ∨ (g a).state = .ready ∨
      (g a).state = .doomed ∧ 0 < a.refCount) : RefLaw (table.map g) pages := by
  refine ⟨?_, fun p hp o ho id hid' => ?_⟩
  · simp only [List.forall_mem_map]
    intro a ha
    obtain ⟨hsum, hdoomed, hloading⟩ := h.1 a ha
    rw [hid, hcount]
    refine ⟨hsum, ?_⟩
    rcases hstate a ha with hs | hs | ⟨hs, hpos⟩
    · rw [hs]; exact ⟨hdoomed, hloading⟩
    · rw [hs]; simp
    · rw [hs]; simpa using hpos
  · simpa [Function.comp_def, hid] using h.2 p hp o ho id hid'

/-- Assets that no object names can be removed. -/
theorem RefLaw.filter {table : List Asset} {pages : List Page} (h : RefLaw table pages)
    (gone : Asset → Bool) (hunused : ∀ a ∈ table, gone a = true → a.refCount = 0) :
    RefLaw (table.filter fun a => !gone a) pages := by
  refine ⟨fun a ha => h.1 a (List.mem_filter.mp ha).1, fun p hp o ho id hid => ?_⟩
  obtain ⟨a, ha, rfl⟩ := List.mem_map.mp (h.2 p hp o ho id hid)
  refine List.mem_map_of_mem (List.mem_filter.mpr ⟨ha, ?_⟩)
  by_contra hg
  have hzero := hunused a ha (by simpa using hg)
  rw [(h.1 a ha).1] at hzero
  exact sum_naming_eq_zero hzero p hp o ho hid

theorem naming_append (id : Nat) (objects : List StoredObject) (o : StoredObject) :
    naming id (objects ++ [o]) = naming id objects + if o.assetId? = some id then 1 else 0 := by
  by_cases h : o.assetId? = some id <;> simp [naming, h]

theorem AssetStore.lendTo_table (st : AssetStore) (o : StoredObject) :
    (st.lendTo o).table = st.table.map fun a =>
      if o.assetId? = some a.id then { a with refCount := a.refCount + 1 } else a := by
  unfold AssetStore.lendTo
  cases ho : o.assetId? with
  | none => simp
  | some id => simp [AssetStore.lend, changeAsset, eq_comm]

/-- A stored object lends its asset (R63). -/
theorem RefLaw.stored {s : State} (hpages : PagesLaw s) (h : RefLaw s.assets.table s.composer.pages)
    {page : Page} {o : StoredObject} {w : Nat × Nat} (hfound : s.page? page.id = some page)
    (hasset : ∀ id ∈ o.assetId?, ∃ a, s.asset? id = some a ∧ a.state = .ready)
    (hassets : AssetLaw s) :
    RefLaw (s.assets.lendTo o).table (changePage page.id (fun p => p.store o w) s.composer.pages) := by
  have hmem := State.page?_mem hfound
  have hsum (id : Nat) := sum_changePage hpages.1.2.1 hmem (fun p => p.store o w)
    (fun p => naming id p.objects)
  have hstore (id : Nat) : naming id (page.store o w).objects =
      naming id page.objects + if o.assetId? = some id then 1 else 0 := naming_append id page.objects o
  rw [AssetStore.lendTo_table]
  refine ⟨?_, fun p hp o' ho' id hid => ?_⟩
  · simp only [List.forall_mem_map]
    intro a ha
    obtain ⟨hcount, hdoomed, hloading⟩ := h.1 a ha
    have hsum := hsum a.id
    rw [hstore] at hsum
    split
    · rename_i hnames
      obtain ⟨b, hb, hready⟩ := hasset a.id hnames
      rw [← hassets.eq_of_id ha (State.asset?_mem hb) (State.asset?_id hb).symm] at hready
      rw [if_pos hnames] at hsum
      exact ⟨by dsimp only at hsum ⊢; omega, by simp [hready], by simp [hready]⟩
    · rename_i hnames
      rw [if_neg hnames] at hsum
      exact ⟨by omega, hdoomed, hloading⟩
  · have hids : (s.assets.table.map fun a =>
        if o.assetId? = some a.id then { a with refCount := a.refCount + 1 } else a).map Asset.id =
        s.assets.table.map Asset.id := by
      rw [List.map_map]
      refine List.map_congr_left fun a _ => ?_
      simp only [Function.comp_apply]
      split <;> rfl
    rw [hids]
    obtain ⟨q, hq, rfl⟩ := List.mem_map.mp hp
    split at ho'
    · rcases List.mem_append.mp ho' with hold | hnew
      · exact h.2 q hq o' hold id hid
      · obtain rfl := List.mem_singleton.mp hnew
        obtain ⟨a, ha, -⟩ := hasset id hid
        exact State.asset?_id ha ▸ List.mem_map_of_mem (State.asset?_mem ha)
    · exact h.2 q hq o' ho' id hid

/-- An ended page returns its references, and a DOOMED asset that none is left of is removed (R65, R166). -/
theorem RefLaw.ended {s : State} (hpages : PagesLaw s) (h : RefLaw s.assets.table s.composer.pages)
    {page : Page} {k outcome number} (hfound : s.page? page.id = some page) :
    RefLaw (s.assets.release page.objects).table (s.composer.endAfter page k outcome number).pages := by
  have hmem := State.page?_mem hfound
  have hsum (id : Nat) := sum_changePage hpages.1.2.1 hmem
    (fun q => Page.endWith { q with copiesDone := q.copiesDone + k } outcome number)
    (fun p => naming id p.objects)
  have hnone (id : Nat) : naming id
      (Page.endWith { page with copiesDone := page.copiesDone + k } outcome number).objects = 0 := rfl
  have hobjects : ∀ p ∈ (s.composer.endAfter page k outcome number).pages, ∀ o ∈ p.objects,
      p ∈ s.composer.pages := by
    intro p hp o ho
    obtain ⟨q, hq, rfl⟩ := List.mem_map.mp hp
    split at ho
    · cases ho
    · rwa [if_neg ‹_›]
  refine ⟨fun a ha => ?_, fun p hp o ho id hid => ?_⟩
  · obtain ⟨ha, hkept⟩ := List.mem_filter.mp ha
    obtain ⟨b, hb, rfl⟩ := List.mem_map.mp ha
    obtain ⟨hcount, hdoomed, hloading⟩ := h.1 b hb
    have hsum := hsum b.id
    rw [hnone] at hsum
    have hpages' : (s.composer.endAfter page k outcome number).pages = changePage page.id
      (fun q => Page.endWith { q with copiesDone := q.copiesDone + k } outcome number) s.composer.pages := rfl
    have hafter : ((s.composer.endAfter page k outcome number).pages.map
        fun p => naming b.id p.objects).sum = b.refCount - naming b.id page.objects := by
      rw [hpages']; omega
    refine ⟨hafter.symm, fun hstate => Nat.pos_of_ne_zero fun hzero => ?_, ?_⟩
    · dsimp only at hstate hzero
      simp [Asset.deferredRemoval, hstate, hzero] at hkept
    · intro hstate
      have := hloading hstate
      dsimp only
      omega
  · have hp' := hobjects p hp o ho
    obtain ⟨b, hb, rfl⟩ := List.mem_map.mp (h.2 p hp' o ho id hid)
    refine List.mem_map.mpr ⟨{ b with refCount := b.refCount - naming b.id page.objects },
      List.mem_filter.mpr ⟨List.mem_map_of_mem hb, ?_⟩, rfl⟩
    have hcount := (h.1 b hb).1
    have hsum := hsum b.id
    rw [hnone] at hsum
    have hpos : 0 < ((s.composer.endAfter page k outcome number).pages.map
        fun p => naming b.id p.objects).sum := by
      refine Nat.pos_of_ne_zero fun hzero => ?_
      exact sum_naming_eq_zero hzero p hp o ho hid
    have hpages' : (s.composer.endAfter page k outcome number).pages = changePage page.id
      (fun q => Page.endWith { q with copiesDone := q.copiesDone + k } outcome number) s.composer.pages := rfl
    rw [hpages'] at hpos
    have : b.refCount - naming b.id page.objects ≠ 0 := by omega
    simp [Asset.deferredRemoval, this]

/-- With no page left, every count is 0 and no asset is DOOMED. -/
theorem RefLaw.of_no_pages {table : List Asset}
    (h : ∀ a ∈ table, a.refCount = 0 ∧ a.state ≠ .doomed) : RefLaw table [] :=
  ⟨fun a ha => ⟨(h a ha).1, fun hd => absurd hd (h a ha).2, fun _ => (h a ha).1⟩, by simp⟩

/-- Every change keeps the law of reference counts. -/
theorem Change.refLaw {s t : State} (hchange : Change s t) (hpages : PagesLaw s) (hassets : AssetLaw s)
    (h : RefLaw s.assets.table s.composer.pages) : RefLaw t.assets.table t.composer.pages := by
  cases hchange with
  | quiet hc ha | configured hc ha | told _ hc ha => rw [hc, ha]; exact h
  | acked n _ hc ha =>
    rw [hc, ha]
    exact h.of_sameObjects (.freed hpages _ fun p hp => by simp at hp; exact hp.2)
  | assetBegun a hnew _ hstate hcount _ _ _ _ hc ha =>
    rw [hc, ha]
    have hid : a.id ∉ s.assets.table.map Asset.id := by
      simpa using fun b hb => State.asset?_none hnew b hb
    refine ⟨?_, fun p hp o ho id hid => ?_⟩
    · simp only [List.forall_mem_append, List.forall_mem_singleton]
      exact ⟨h.1, hcount.trans (h.naming_new hid).symm, by simp [hstate], fun _ => hcount⟩
    · rw [List.map_append]
      exact List.mem_append_left _ (h.2 p hp o ho id hid)
  | assetChanged a f hfound hf _ hstate hc ha =>
    rw [hc, ha]
    refine h.map (fun x => if x.id = a.id then f x else x) ?_ ?_ ?_
    · intro x; split <;> simp [hf]
    · intro x; split <;> simp [hf]
    · intro x hx
      split
      · rename_i hid
        rw [hassets.eq_of_id hx (State.asset?_mem hfound) hid]
        exact hstate
      · exact .inl rfl
  | assetDropped a hfound hunused hc ha =>
    rw [hc, ha]
    refine h.filter _ fun x hx hgone => ?_
    obtain rfl := hassets.eq_of_id hx (State.asset?_mem hfound) (by simpa using hgone)
    exact hunused.elim (h.1 x hx).2.2 id
  | counted id f hf hc ha =>
    rw [hc, ha]; exact h.of_sameObjects (.changePage _ id f fun p => (hf p).objects)
  | begun hc ha =>
    rw [hc, ha]; exact h.of_sameObjects (.begun s)
  | opened w l c _ _ _ _ hc ha => rw [hc, ha]; exact h.of_sameObjects (.opened _ _ _ _ _)
  | stored page o w hfound _ _ hasset _ hc ha =>
    rw [hc, ha]; exact h.stored hpages hfound hasset hassets
  | enqueued page _ _ hc ha =>
    rw [hc, ha]
    exact h.of_sameObjects (.changePage _ page.id (fun p => { p with state := .queued }) fun _ => rfl)
  | copied page _ _ _ hc ha =>
    rw [hc, ha]
    exact h.of_sameObjects
      (.changePage _ page.id (fun q => { q with copiesDone := q.copiesDone + 1 }) fun _ => rfl)
  | ended page k outcome _ hfound _ _ hc ha => rw [hc, ha]; exact h.ended hpages hfound
  | discarded hc ha =>
    rw [hc, ha]
    refine .of_no_pages fun a hmem => ?_
    obtain ⟨hmem, hkept⟩ := List.mem_filter.mp hmem
    obtain ⟨b, -, rfl⟩ := List.mem_map.mp hmem
    exact ⟨rfl, fun hdoomed => by simp [Asset.deferredRemoval] at hkept; exact hkept hdoomed⟩
  | restored hc ha => rw [hc, ha]; exact .of_no_pages (by simp [AssetStore.blank])

/-- Settles O32: every step is a sequence of changes, each of which keeps the page laws, the asset law and the
law of reference counts together. -/
theorem referenceLawKept : Obligations.ReferenceLawKept := by
  unfold Obligations.ReferenceLawKept
  rintro s t ⟨hpage, hentry, hasset, hreference⟩ hstep
  obtain ⟨hpages, hassets, hreferences⟩ := (step_evolves hstep).keeps
    (Law := fun s => PagesLaw s ∧ AssetLaw s ∧ RefLaw s.assets.table s.composer.pages)
    (fun _ _ hchange h => ⟨hchange.pagesLaw h.1, hchange.assetLaw h.2.1, hchange.refLaw h.1 h.2.1 h.2.2⟩)
    ⟨⟨hpage, hentry⟩, hasset, hreference⟩
  exact ⟨hpages.1, hpages.2, hassets, hreferences⟩

end Sys2Proof.Machine
end

section
/-! PROOF. The balance of the three pools and the binning of a page (R54, R57, R61, R65): why each change keeps
them. -/

namespace Sys2Proof.Machine

/-! ### The pools -/

theorem PoolLaw.of_sameObjects {s t : State} (h : PoolLaw s)
    (hsame : SameObjects s.composer.pages t.composer.pages)
    (hobjects : t.composer.freeObjects = s.composer.freeObjects)
    (helements : t.composer.freeElements = s.composer.freeElements)
    (hlinks : t.composer.freeLinks = s.composer.freeLinks) : PoolLaw t := by
  unfold PoolLaw at *
  rw [hsame.sum List.length rfl, hsame.sum elementsHeld rfl, hsame.sum linksHeld rfl, hobjects, helements,
    hlinks]
  exact h

/-- Enough is free in each pool (R59). -/
theorem poolShortfall_none {c : Composer} {elements links : Nat}
    (h : poolShortfall c elements links = none) :
    1 ≤ c.freeObjects ∧ elements ≤ c.freeElements ∧ links ≤ c.freeLinks := by
  unfold poolShortfall at h
  split at h
  · cases h
  · split at h
    · cases h
    · split at h
      · cases h
      · omega

/-- A stored object takes its records (R62). -/
theorem PoolLaw.stored {s t : State} (hpages : PagesLaw s) (h : PoolLaw s) {page : Page} {o : StoredObject}
    {w : Nat × Nat} (hfound : s.page? page.id = some page)
    (hpools : poolShortfall s.composer o.shape.elements o.bandsTouched = none)
    (hc : t.composer = (storeObject o page w s).composer) : PoolLaw t := by
  have hmem := State.page?_mem hfound
  obtain ⟨hobjects, helements, hlinks⟩ := poolShortfall_none hpools
  have hsum (m : List StoredObject → Nat) := sum_changePage hpages.1.2.1 hmem (fun p => p.store o w)
    (fun p => m p.objects)
  have hcount := hsum List.length
  have helems := hsum elementsHeld
  have hlinked := hsum linksHeld
  simp only [Page.store, List.length_append, List.length_singleton, elementsHeld, linksHeld,
    List.map_append, List.sum_append, List.map_singleton, List.sum_singleton] at hcount helems hlinked
  unfold PoolLaw at *
  rw [hc]
  simp only [storeObject, State.withAssets_composer, State.withComposer_composer, elementsHeld, linksHeld,
    Page.store] at h ⊢
  omega

/-- An ended page returns its records (R65). -/
theorem PoolLaw.ended {s t : State} (hpages : PagesLaw s) (h : PoolLaw s) {page : Page} {k outcome number}
    (hfound : s.page? page.id = some page)
    (hc : t.composer = s.composer.endAfter page k outcome number) : PoolLaw t := by
  have hmem := State.page?_mem hfound
  have hsum (m : List StoredObject → Nat) := sum_changePage hpages.1.2.1 hmem
    (fun q => Page.endWith { q with copiesDone := q.copiesDone + k } outcome number) (fun p => m p.objects)
  have hcount := hsum List.length
  have helems := hsum elementsHeld
  have hlinked := hsum linksHeld
  simp only [Page.endWith, List.length_nil, elementsHeld, linksHeld, List.map_nil,
    List.sum_nil] at hcount helems hlinked
  unfold PoolLaw at *
  rw [hc]
  simp only [Composer.endAfter, Composer.endPage, elementsHeld, linksHeld, Page.endWith] at h ⊢
  omega

theorem Change.poolLaw {s t : State} (hchange : Change s t) (hpages : PagesLaw s) (h : PoolLaw s) :
    PoolLaw t := by
  cases hchange with
  | quiet hc | configured hc | told _ hc | assetBegun _ _ _ _ _ _ _ _ _ hc
  | assetChanged _ _ _ _ _ _ hc | assetDropped _ _ _ hc =>
    exact h.of_sameObjects (by rw [hc]; exact .refl _) (by rw [hc]) (by rw [hc]) (by rw [hc])
  | acked n _ hc =>
    exact h.of_sameObjects (by rw [hc]; exact .freed hpages _ fun p hp => by simp at hp; exact hp.2)
      (by rw [hc]) (by rw [hc]) (by rw [hc])
  | counted id f hf hc =>
    exact h.of_sameObjects (by rw [hc]; exact .changePage _ id f fun p => (hf p).objects)
      (by rw [hc]) (by rw [hc]) (by rw [hc])
  | begun hc =>
    exact h.of_sameObjects (by rw [hc]; exact .begun s) (by rw [hc, beginHead_composer])
      (by rw [hc, beginHead_composer]) (by rw [hc, beginHead_composer])
  | opened _ _ _ _ _ _ _ hc =>
    exact h.of_sameObjects (by rw [hc]; exact .opened _ _ _ _ _) (by rw [hc]) (by rw [hc]) (by rw [hc])
  | stored page o w hfound _ _ _ hpools hc => exact h.stored hpages hfound hpools hc
  | enqueued page _ _ hc =>
    exact h.of_sameObjects
      (by rw [hc]; exact .changePage _ page.id (fun p => { p with state := .queued }) fun _ => rfl)
      (by rw [hc]; rfl) (by rw [hc]; rfl) (by rw [hc]; rfl)
  | copied page _ _ _ hc =>
    exact h.of_sameObjects
      (by rw [hc]
          exact .changePage _ page.id (fun q => { q with copiesDone := q.copiesDone + 1 }) fun _ => rfl)
      (by rw [hc]) (by rw [hc]) (by rw [hc])
  | ended page k outcome _ hfound _ _ hc => exact h.ended hpages hfound hc
  | discarded hc => unfold PoolLaw; rw [hc]; exact ⟨rfl, rfl, rfl⟩
  | restored hc => unfold PoolLaw; rw [hc]; decide

/-! ### The binning -/

/-- The entries of a page table obey the binning law. -/
abbrev Binned (pages : List Page) : Prop := ∀ p ∈ pages, BinningLaw p

theorem BinningLaw.congr {p q : Page} (h : BinningLaw p) (hlive : q.state ≠ .ended → p.state ≠ .ended)
    (hcount : q.storedCount = p.storedCount) (hobjects : q.objects = p.objects)
    (hlists : q.bandLists = p.bandLists) : BinningLaw q := by
  unfold BinningLaw at *
  rw [hcount, hobjects, hlists]
  exact fun hq => h (hlive hq)

/-- A stored object takes the next number and joins the lists of the bands it touches, last (R57, R61, R62). -/
theorem BinningLaw.store {p : Page} (h : BinningLaw p) {o : StoredObject}
    (hnumber : o.number = p.storedCount + 1) (w : Nat × Nat) : BinningLaw (p.store o w) := by
  intro hlive
  obtain ⟨hcount, hnumbers, hlists⟩ := h hlive
  refine ⟨by simp [Page.store, hcount], ?_, fun b hb => ?_⟩
  · simp [Page.store, hnumbers, List.range_succ, hnumber, hcount]
  · have hb' : b < p.bandLists.length := by simpa [Page.store, appendLinks] using hb
    have htouches : (o.firstBand ≤ b ∧ b < o.firstBand + o.bandsTouched) ↔ o.touches b = true := by
      simp [StoredObject.touches]
    simp only [Page.store, appendLinks, List.getElem?_mapIdx, hlists b hb', Option.map_some, htouches,
      List.filter_append, List.map_append]
    by_cases ht : o.touches b = true <;> simp [ht]

theorem Binned.changePage {pages : List Page} (h : Binned pages) (id : Nat) (f : Page → Page)
    (hf : ∀ p ∈ pages, p.id = id → BinningLaw p → BinningLaw (f p)) :
    Binned (Machine.changePage id f pages) := by
  simp only [Binned, Machine.changePage, List.forall_mem_map]
  intro p hp
  split
  · exact hf p hp ‹_› (h p hp)
  · exact h p hp

theorem Change.binned {s t : State} (hchange : Change s t) (hpages : PagesLaw s)
    (h : Binned s.composer.pages) : Binned t.composer.pages := by
  cases hchange with
  | quiet hc | configured hc | told _ hc | assetBegun _ _ _ _ _ _ _ _ _ hc
  | assetChanged _ _ _ _ _ _ hc | assetDropped _ _ _ hc => rw [hc]; exact h
  | acked n _ hc => rw [hc]; exact fun p hp => h p (List.mem_filter.mp hp).1
  | counted id f hf hc =>
    rw [hc]
    exact h.changePage id f fun p _ _ hlaw =>
      hlaw.congr (by rw [(hf p).state]; exact fun hlive => hlive) (hf p).storedCount (hf p).objects (hf p).bandLists
  | begun hc =>
    rw [hc, beginHead_composer]
    simp only [Binned, List.forall_mem_map]
    intro p hp
    split
    · exact (h p hp).congr (fun _ => by simp [*]) rfl rfl rfl
    · exact h p hp
  | opened _ _ _ _ _ _ _ hc =>
    rw [hc]
    simp only [Binned, List.forall_mem_append, List.forall_mem_singleton]
    refine ⟨h, fun _ => ⟨rfl, rfl, fun b hb => ?_⟩⟩
    simp only [newPage, List.length_replicate] at hb
    simp [newPage, hb]
  | stored page o w hfound _ hnumber _ _ hc =>
    rw [hc]
    refine h.changePage page.id (fun p => p.store o w) fun p hp hid hlaw => ?_
    rw [hpages.1.eq_of_id hp (State.page?_mem hfound) hid] at hlaw ⊢
    exact hlaw.store hnumber w
  | enqueued page hfound hopen hc =>
    rw [hc]
    refine h.changePage page.id (fun p => { p with state := .queued }) fun p hp hid hlaw => ?_
    rw [hpages.1.eq_of_id hp (State.page?_mem hfound) hid] at hlaw ⊢
    exact hlaw.congr (fun _ => by simp [hopen]) rfl rfl rfl
  | copied page _ _ _ hc =>
    rw [hc]
    exact h.changePage page.id (fun q => { q with copiesDone := q.copiesDone + 1 })
      fun p _ _ hlaw => hlaw.congr id rfl rfl rfl
  | ended page k outcome _ _ _ _ hc =>
    rw [hc]
    exact h.changePage page.id
      (fun q => Page.endWith { q with copiesDone := q.copiesDone + k } outcome _)
      fun _ _ _ _ hlive => absurd rfl hlive
  | discarded hc => rw [hc]; simp [Binned, Composer.discardPages]
  | restored hc => rw [hc]; simp [Binned, Composer.blank]

/-- Settles O42: every step is a sequence of changes, each of which keeps the page laws, the balance of the
pools and the binning together. -/
theorem poolsAndBinningKept : Obligations.PoolsAndBinningKept := by
  unfold Obligations.PoolsAndBinningKept
  rintro s t ⟨hpage, hentries, hpool⟩ hstep
  obtain ⟨hpages, hpools, hbinned⟩ := (step_evolves hstep).keeps
    (Law := fun s => PagesLaw s ∧ PoolLaw s ∧ Binned s.composer.pages)
    (fun _ _ hchange h => ⟨hchange.pagesLaw h.1, hchange.poolLaw h.1 h.2.1, hchange.binned h.1 h.2.2⟩)
    ⟨⟨hpage, fun p hp => (hentries p hp).1⟩, hpool, fun p hp => (hentries p hp).2⟩
  exact ⟨hpages.1, fun p hp => ⟨hpages.2 p hp, hbinned p hp⟩, hpools⟩

end Sys2Proof.Machine
end

section
/-! PROOF. The bounds of the link's lists and the account of its slots (R183, R184, R186, R188): a law over the
link and the keys of the open requests, and why every event keeps it. -/

namespace Sys2Proof.Machine

/-! ### The slots by their keys -/

/-- The lists of the link against `open_`, the requests in a slot without a complete reply: each slot is open or
its reply waits, and the collections keep their bounds. -/
structure SlotLaw (l : Link) (open_ : List RequestKey) : Prop where
  slots_le : l.slots.length ≤ 4
  slots_nodup : (l.slots.map Slot.key).Nodup
  cache_le : l.cache.length ≤ 4
  cache_nodup : (l.cache.map fun e => e.key.seq).Nodup
  unslotted_le : l.replies.countP WaitingReply.unslotted ≤ 4
  waiting_nodup : (waitingKeys l.replies).Nodup
  open_nodup : open_.Nodup
  waiting_iff : ∀ key, key ∈ waitingKeys l.replies ↔ ∃ slot ∈ l.slots, slot.key = key ∧ slot.reply.isSome = true
  open_iff : ∀ key, key ∈ open_ ↔ ∃ slot ∈ l.slots, slot.key = key ∧ slot.reply = none

/-- The law of a state in the middle of an event: the requests being executed are open besides the running host
motion's. -/
abbrev Held (s : State) (executing : List RequestKey) : Prop :=
  SlotLaw s.link (executing ++ s.feed.state.motionKey?.toList)

theorem Slot.eq_of_key {slots : List Slot} (hn : (slots.map Slot.key).Nodup) {a b : Slot} (ha : a ∈ slots)
    (hb : b ∈ slots) (h : a.key = b.key) : a = b := List.inj_on_of_nodup_map hn ha hb h

/-- In slots of different keys, the reply found under a key is that of its slot. -/
theorem slotReply_of_mem {slots : List Slot} (hn : (slots.map Slot.key).Nodup) {slot : Slot}
    (hmem : slot ∈ slots) : slotReply? slots slot.key = slot.reply := by
  unfold slotReply?
  cases hfound : slots.find? fun x => x.key = slot.key with
  | none => exact absurd (List.find?_eq_none.mp hfound slot hmem) (by simp)
  | some x =>
    have hkey : x.key = slot.key := by simpa using List.find?_some hfound
    rw [Slot.eq_of_key hn (List.mem_of_find?_eq_some hfound) hmem hkey]
    rfl

/-- The bounds of the link and the account of its slots are the law with the running host motion's request
open. -/
theorem held_iff (s : State) : Held s [] ↔ LinkBounds s ∧ SlotsAccounted s := by
  constructor
  · intro h
    refine ⟨⟨h.slots_le, h.slots_nodup, h.cache_le, h.cache_nodup, h.unslotted_le⟩, h.waiting_nodup, ?_, ?_, ?_⟩
    · intro key hkey
      obtain ⟨slot, hmem, rfl, hsome⟩ := (h.waiting_iff key).mp hkey
      rwa [slotReply_of_mem h.slots_nodup hmem]
    · intro slot hmem
      constructor
      · rw [h.waiting_iff]
        refine ⟨fun hsome => ⟨slot, hmem, rfl, hsome⟩, ?_⟩
        rintro ⟨other, hother, hkey, hsome⟩
        rwa [← Slot.eq_of_key h.slots_nodup hother hmem hkey]
      · have hopen := h.open_iff slot.key
        simp only [List.nil_append, Option.mem_toList] at hopen
        rw [hopen]
        refine ⟨fun hnone => ⟨slot, hmem, rfl, hnone⟩, ?_⟩
        rintro ⟨other, hother, hkey, hnone⟩
        rwa [← Slot.eq_of_key h.slots_nodup hother hmem hkey]
    · intro key hkey
      obtain ⟨slot, hmem, rfl, -⟩ := (h.open_iff key).mp (by simpa using hkey)
      exact List.mem_map_of_mem hmem
  · rintro ⟨⟨hlen, hkeys, hcache, hseqs, hunslotted⟩, hwaiting, hreplies, hslots, hmotion⟩
    refine ⟨hlen, hkeys, hcache, hseqs, hunslotted, hwaiting, ?_, fun key => ⟨fun hkey => ?_, ?_⟩, fun key => ?_⟩
    · cases s.feed.state.motionKey? <;> simp
    · have hreply := hreplies key hkey
      unfold slotReply? at hreply
      obtain ⟨reply, hbind⟩ := Option.isSome_iff_exists.mp hreply
      obtain ⟨slot, hfound, hsome⟩ := Option.bind_eq_some_iff.mp hbind
      exact ⟨slot, List.mem_of_find?_eq_some hfound, by simpa using List.find?_some hfound, by simp [hsome]⟩
    · rintro ⟨slot, hmem, rfl, hsome⟩
      exact (hslots slot hmem).1.mp hsome
    · simp only [List.nil_append, Option.mem_toList]
      constructor
      · intro hkey
        obtain ⟨slot, hmem, rfl⟩ := List.mem_map.mp (hmotion key hkey)
        exact ⟨slot, hmem, rfl, (hslots slot hmem).2.mpr hkey⟩
      · rintro ⟨slot, hmem, rfl, hnone⟩
        exact (hslots slot hmem).2.mp hnone

/-! ### The operations of the link -/

/-- The law reads the slots, the cache and the reply list. -/
theorem SlotLaw.congr {l l' : Link} {open_ : List RequestKey} (h : SlotLaw l open_) (hs : l'.slots = l.slots)
    (hc : l'.cache = l.cache) (hr : l'.replies = l.replies) : SlotLaw l' open_ := by
  obtain ⟨h1, h2, h3, h4, h5, h6, h7, h8, h9⟩ := h
  exact ⟨hs ▸ h1, hs ▸ h2, hc ▸ h3, hc ▸ h4, hr ▸ h5, hr ▸ h6, h7, hs ▸ hr ▸ h8, hs ▸ h9⟩

/-- The order of the open requests does not matter. -/
theorem SlotLaw.perm {l : Link} {o o' : List RequestKey} (h : SlotLaw l o) (hp : o.Perm o') : SlotLaw l o' :=
  { h with open_nodup := hp.nodup h.open_nodup, open_iff := fun key => hp.mem_iff.symm.trans (h.open_iff key) }

/-- The cache emptied (R212). -/
theorem SlotLaw.clear_cache {l l' : Link} {o : List RequestKey} (h : SlotLaw l o) (hs : l'.slots = l.slots)
    (hc : l'.cache = []) (hr : l'.replies = l.replies) : SlotLaw l' o := by
  obtain ⟨h1, h2, -, -, h5, h6, h7, h8, h9⟩ := h
  exact ⟨hs ▸ h1, hs ▸ h2, by simp [hc], by simp [hc], hr ▸ h5, hr ▸ h6, h7, hs ▸ hr ▸ h8, hs ▸ h9⟩

/-- A request enters a free slot (R183). -/
theorem SlotLaw.take {l l' : Link} {o : List RequestKey} (h : SlotLaw l o) {slot : Slot}
    (hnew : l.inSlot slot.key = false) (hroom : l.slots.length < 4) (hnone : slot.reply = none)
    (hs : l'.slots = l.slots ++ [slot]) (hc : l'.cache = l.cache) (hr : l'.replies = l.replies) :
    SlotLaw l' (slot.key :: o) := by
  have hnot : ∀ x ∈ l.slots, x.key ≠ slot.key := by simpa [Link.inSlot] using hnew
  have hopen : slot.key ∉ o := fun hmem => by
    obtain ⟨x, hx, hkey, -⟩ := (h.open_iff _).mp hmem
    exact hnot x hx hkey
  refine ⟨by simp [hs]; omega, ?_, hc ▸ h.cache_le, hc ▸ h.cache_nodup, hr ▸ h.unslotted_le,
    hr ▸ h.waiting_nodup, List.nodup_cons.mpr ⟨hopen, h.open_nodup⟩, fun key => ?_, fun key => ?_⟩
  · rw [hs, List.map_append]
    exact h.slots_nodup.append (by simp) (by simpa using hnot)
  · rw [hr, h.waiting_iff, hs]
    simp [hnone, or_and_right, exists_or]
  · rw [List.mem_cons, h.open_iff, hs]
    simp only [List.mem_append, List.mem_singleton, or_and_right, exists_or, exists_eq_left, hnone, and_true]
    exact ⟨fun hk => hk.symm.imp id Eq.symm, fun hk => hk.symm.imp Eq.symm id⟩

theorem waitingKeys_append (a b : List WaitingReply) :
    waitingKeys (a ++ b) = waitingKeys a ++ waitingKeys b := List.filterMap_append

/-- A new reply leaves at most four entries of different seqs in the cache (R186). -/
theorem cacheReply_bounds {cache : List CacheEntry} (hlen : cache.length ≤ 4)
    (hseqs : (cache.map fun e => e.key.seq).Nodup) (entry : CacheEntry) :
    (cacheReply cache entry).length ≤ 4 ∧ ((cacheReply cache entry).map fun e => e.key.seq).Nodup := by
  unfold cacheReply
  set others := cache.filter (fun e => e.key.seq ≠ entry.key.seq) with hothers
  have hsub : others.Sublist cache := List.filter_sublist
  have hle := hsub.length_le
  have hdrop : (if others.length = cache.length ∧ Config.cacheEntries ≤ cache.length then others.drop 1
      else others).Sublist others := by
    split
    · exact List.drop_sublist 1 others
    · exact List.Sublist.refl _
  constructor
  · rw [List.length_append, List.length_singleton]
    split
    · rw [List.length_drop]; omega
    · rename_i hroom
      simp only [Config.cacheEntries] at hroom
      omega
  · rw [List.map_append]
    refine ((hdrop.trans hsub).map _ |>.nodup hseqs).append (by simp) ?_
    simp only [List.map_singleton, List.disjoint_singleton, List.mem_map, not_exists, not_and]
    intro e he
    simpa using (List.mem_filter.mp (hdrop.subset he)).2

theorem fillSlot_keys (slots : List Slot) (key : RequestKey) (frame : ReplyFrame) :
    (fillSlot slots key frame).map Slot.key = slots.map Slot.key := by
  unfold fillSlot
  rw [List.map_map]
  exact List.map_congr_left fun slot _ => by simp only [Function.comp_apply]; split <;> rfl

/-- An open request's reply is complete (R184, R186, R188). -/
theorem SlotLaw.complete {l : Link} {key : RequestKey} {o : List RequestKey} (h : SlotLaw l (key :: o))
    (kind : Byte) (status : Status) (results : Results) : SlotLaw (l.complete key kind status results) o := by
  let frame : ReplyFrame :=
    { seq := key.seq, kind := kind, status := status, results := results, serial := l.serial }
  obtain ⟨hcache, hseqs⟩ := cacheReply_bounds h.cache_le h.cache_nodup { key := key, frame := frame }
  obtain ⟨hnot, hopen⟩ := List.nodup_cons.mp h.open_nodup
  obtain ⟨slot, hslot, hkey, hnone⟩ := (h.open_iff key).mp List.mem_cons_self
  have hunique : ∀ x ∈ l.slots, x.key = key → x = slot := fun x hx hxk =>
    Slot.eq_of_key h.slots_nodup hx hslot (hxk.trans hkey.symm)
  have hnotwaiting : key ∉ waitingKeys l.replies := fun hmem => by
    obtain ⟨x, hx, hxk, hsome⟩ := (h.waiting_iff key).mp hmem
    rw [hunique x hx hxk, hnone] at hsome
    cases hsome
  have hmem (P : Slot → Prop) : (∃ x ∈ (l.complete key kind status results).slots, P x) ↔
      ∃ x ∈ l.slots, P (if x.key = key then { x with reply := some frame } else x) := by
    simp [Link.complete, fillSlot, frame]
  refine ⟨by simpa [Link.complete, fillSlot] using h.slots_le,
    by rw [Link.complete, fillSlot_keys]; exact h.slots_nodup, hcache, hseqs, ?_, ?_, hopen, fun k => ?_, fun k => ?_⟩
  · simpa [Link.complete, WaitingReply.unslotted] using h.unslotted_le
  · simp only [Link.complete, waitingKeys_append]
    exact h.waiting_nodup.append (by simp [waitingKeys]) (by simpa [waitingKeys] using hnotwaiting)
  · rw [hmem]
    simp only [Link.complete, waitingKeys_append, List.mem_append, h.waiting_iff]
    have hlast : k ∈ waitingKeys [.ofSlot key] ↔ k = key := by simp [waitingKeys]
    rw [hlast]
    constructor
    · rintro (⟨x, hx, rfl, hsome⟩ | rfl)
      · exact ⟨x, hx, by split <;> rfl, by split <;> simp [hsome]⟩
      · exact ⟨slot, hslot, by simp [hkey], by simp [hkey]⟩
    · rintro ⟨x, hx, hxk, hsome⟩
      split at hxk
      · exact .inr (hxk.symm.trans ‹_›)
      · rw [if_neg ‹_›] at hsome
        exact .inl ⟨x, hx, hxk, hsome⟩
  · rw [hmem]
    constructor
    · intro hk
      obtain ⟨x, hx, rfl, hxnone⟩ := (h.open_iff k).mp (List.mem_cons_of_mem _ hk)
      have hne : x.key ≠ key := fun he => hnot (he ▸ hk)
      exact ⟨x, hx, by simp [hne], by simp [hne, hxnone]⟩
    · rintro ⟨x, hx, hxk, hxnone⟩
      split at hxk
      · rw [if_pos ‹_›] at hxnone; cases hxnone
      · rename_i hne
        rw [if_neg hne] at hxnone
        have := (h.open_iff k).mpr ⟨x, hx, hxk, hxnone⟩
        exact (List.mem_cons.mp this).resolve_left fun he => hne (hxk.trans he)

/-- An unslotted reply joins the list while fewer than four wait (R188). -/
theorem SlotLaw.addUnslotted {l : Link} {o : List RequestKey} (h : SlotLaw l o) {reply : WaitingReply}
    (hreply : reply.unslotted = true) : SlotLaw (l.addUnslotted reply) o := by
  have hkeys : waitingKeys (l.replies ++ [reply]) = waitingKeys l.replies := by
    cases reply with
    | ofSlot => cases hreply
    | resend => simp [waitingKeys]
    | refusal => simp [waitingKeys]
  unfold Link.addUnslotted
  split
  · exact h
  · rename_i hroom
    replace hroom : ¬4 ≤ l.replies.countP WaitingReply.unslotted := fun hfull => hroom (decide_eq_true hfull)
    refine { h with unslotted_le := ?_, waiting_nodup := ?_, waiting_iff := ?_ }
    · rw [List.countP_append, List.countP_singleton, if_pos hreply]; omega
    · rw [hkeys]; exact h.waiting_nodup
    · rw [hkeys]; exact h.waiting_iff

/-- The first waiting reply leaves the list, and a slot reply frees its slot (R183, R188). -/
theorem SlotLaw.send {l l' : Link} {o : List RequestKey} (h : SlotLaw l o) {entry : WaitingReply}
    {rest : List WaitingReply} (hreplies : l.replies = entry :: rest) (hs : l'.slots = freeSlot l.slots entry)
    (hc : l'.cache = l.cache) (hr : l'.replies = rest) : SlotLaw l' o := by
  have hsub : l'.slots.Sublist l.slots := by
    rw [hs]; cases entry <;> first | exact List.filter_sublist | exact List.Sublist.refl _
  have hcount : l'.replies.countP WaitingReply.unslotted ≤ 4 := by
    have := h.unslotted_le
    rw [hreplies, List.countP_cons] at this
    rw [hr]; omega
  have hwaiting := h.waiting_nodup
  have hiff := h.waiting_iff
  rw [hreplies] at hwaiting hiff
  refine ⟨hsub.length_le.trans h.slots_le, (hsub.map _).nodup h.slots_nodup, hc ▸ h.cache_le,
    hc ▸ h.cache_nodup, hcount, ?_, h.open_nodup, fun key => ?_, fun key => ?_⟩
  · rw [hr]
    exact ((List.sublist_cons_self entry rest).filterMap _).nodup hwaiting
  · rw [hr]
    rw [hs]
    cases entry with
    | resend => exact hiff key
    | refusal => exact hiff key
    | ofSlot sent =>
      obtain ⟨hnot, -⟩ := List.nodup_cons.mp hwaiting
      have hiff := hiff key
      rw [show waitingKeys (.ofSlot sent :: rest) = sent :: waitingKeys rest from rfl, List.mem_cons] at hiff
      constructor
      · intro hkey
        obtain ⟨slot, hmem, rfl, hsome⟩ := hiff.mp (.inr hkey)
        have hne : slot.key ≠ sent := fun he => hnot (he ▸ hkey)
        exact ⟨slot, List.mem_filter.mpr ⟨hmem, by simpa using hne⟩, rfl, hsome⟩
      · rintro ⟨slot, hmem, rfl, hsome⟩
        obtain ⟨hmem, hne⟩ := List.mem_filter.mp hmem
        exact (hiff.mpr ⟨slot, hmem, rfl, hsome⟩).resolve_left (by simpa using hne)
  · rw [hs]
    cases entry with
    | resend => exact h.open_iff key
    | refusal => exact h.open_iff key
    | ofSlot sent =>
      rw [h.open_iff]
      constructor
      · rintro ⟨slot, hmem, rfl, hnone⟩
        refine ⟨slot, List.mem_filter.mpr ⟨hmem, ?_⟩, rfl, hnone⟩
        obtain ⟨other, hother, hkey, hsome⟩ := (hiff sent).mp List.mem_cons_self
        have : slot.key ≠ sent := fun he => by
          rw [Slot.eq_of_key h.slots_nodup hmem hother (he.trans hkey.symm)] at hnone
          simp [hnone] at hsome
        simpa using this
      · rintro ⟨slot, hmem, rfl, hnone⟩
        exact ⟨slot, (List.mem_filter.mp hmem).1, rfl, hnone⟩

/-! ### Events that keep the account -/

/-- What no request changes of the link: the receiver, and no CRC error is counted. -/
structure LinkStays (s t : State) : Prop where
  receiver : t.link.receiver = s.link.receiver
  crcErrors : t.link.crcErrors ≤ s.link.crcErrors

theorem LinkStays.of_same {s t : State} (h : t.link = s.link) : LinkStays s t := ⟨by rw [h], by rw [h]⟩

theorem LinkStays.trans {s t u : State} (h : LinkStays s t) (h' : LinkStays t u) : LinkStays s u :=
  ⟨h'.receiver.trans h.receiver, h'.crcErrors.trans h.crcErrors⟩

/-- The event keeps the account of the slots, whatever requests are being executed. -/
structure KeepsSlots (s t : State) : Prop where
  held : ∀ executing, Held s executing → Held t executing
  stays : LinkStays s t

theorem KeepsSlots.refl (s : State) : KeepsSlots s s := ⟨fun _ h => h, .of_same rfl⟩

theorem KeepsSlots.trans {s t u : State} (h : KeepsSlots s t) (h' : KeepsSlots t u) : KeepsSlots s u :=
  ⟨fun o ho => h'.held o (h.held o ho), h.stays.trans h'.stays⟩

/-- Neither the link nor the host motion changes. -/
theorem KeepsSlots.of_same {s t : State} (hlink : t.link = s.link)
    (hmotion : t.feed.state.motionKey? = s.feed.state.motionKey?) : KeepsSlots s t := by
  refine ⟨fun _ h => ?_, .of_same hlink⟩
  unfold Held
  rw [hlink, hmotion]
  exact h

/-- An event after a change of neither the link nor the host motion. -/
theorem KeepsSlots.after {s t u : State} (h : KeepsSlots t u) (hlink : t.link = s.link)
    (hmotion : t.feed.state.motionKey? = s.feed.state.motionKey?) : KeepsSlots s u :=
  (KeepsSlots.of_same hlink hmotion).trans h

/-- Neither the link nor the feed changes. -/
theorem KeepsSlots.of_keeps {s t : State}
    (h : Keeps [.settings, .notices, .assets, .composer, .engine, .ring, .sensors, .clock, .pending, .power] s t) :
    KeepsSlots s t :=
  .of_same (h .link (by decide)) (congrArg _ (congrArg Feed.state (h .feed (by decide))))

theorem choose_keepsSlots (s : State) : KeepsSlots s (choose s) := by
  have hfeed : (choose s).feed = s.feed := (choose_keeps s).1 .feed (by decide)
  obtain ⟨hreceiver, hcrc, -⟩ := (choose_keeps s).2.1
  refine ⟨fun _ h => ?_, hreceiver, hcrc.le⟩
  unfold Held
  rw [hfeed]
  unfold choose
  split
  · exact h
  · split
    · exact h
    · split
      · exact h.send ‹_› rfl rfl rfl
      · split
        · exact h.congr rfl rfl rfl
        · exact h

/-- The running host motion is answered and ends (R127, R129). -/
theorem KeepsSlots.of_motion_end {s t : State} {key : RequestKey} (hmotion : s.feed.state.motionKey? = some key)
    {kind : Byte} {status : Status} {results : Results} (hlink : t.link = s.link.complete key kind status results)
    (hend : t.feed.state.motionKey? = none) : KeepsSlots s t := by
  refine ⟨fun o h => ?_, by rw [hlink]; rfl, by rw [hlink]; rfl⟩
  unfold Held at *
  rw [hmotion] at h
  rw [hlink, hend]
  simp only [Option.toList_some, Option.toList_none, List.append_nil] at h ⊢
  exact (h.perm (List.perm_append_singleton key o)).complete kind status results

/-! ### What the feed decides outside a host motion -/

/-- The link stays, and no host motion runs afterwards. -/
structure Rests (s t : State) : Prop where
  link : t.link = s.link
  motion : t.feed.state.motionKey? = none

theorem Rests.from_ {s t u : State} (h : Rests t u) (hlink : t.link = s.link) : Rests s u :=
  ⟨h.link.trans hlink, h.motion⟩

theorem Rests.keepsSlots {s t : State} (h : Rests s t) (hs : s.feed.state.motionKey? = none) :
    KeepsSlots s t := .of_same h.link (h.motion.trans hs.symm)

theorem callStep_rests {d} {s : State} (h : s.feed.state.motionKey? = none) : Rests s (callStep d s) :=
  ⟨callStep_link d s, by rw [callStep_state]; exact h⟩

theorem printLine_rests (s : State) : Rests s (printLine s) :=
  ⟨(printLine_keeps s) .link (by decide), by rcases printLine_state s with h | h <;> rw [h] <;> rfl⟩

theorem enterOffset_rests (s : State) : Rests s (enterOffset s) := by
  unfold enterOffset; split
  · exact printLine_rests s
  · exact .from_ (callStep_rests rfl) rfl

theorem enterSeek_rests (s : State) : Rests s (enterSeek s) := by
  unfold enterSeek; split
  · exact printLine_rests s
  · exact .from_ (callStep_rests rfl) rfl

theorem pause_rests (c x) (s : State) : Rests s (pause c x s) := ⟨rfl, rfl⟩

theorem pausePrint_rests (j c) (s : State) : Rests s (pausePrint j c s) := by
  unfold pausePrint; split <;> exact pause_rests _ _ _

theorem pauseSeek_rests (c) (s : State) : Rests s (pauseSeek c s) := by
  unfold pauseSeek; split <;> exact pause_rests _ _ _

theorem keepParked_rests {b} {s : State} (h : s.feed.state.motionKey? = none) : Rests s (keepParked b s) := by
  unfold keepParked; split
  · exact ⟨rfl, h⟩
  · exact ⟨rfl, h⟩

theorem pauseBackfeed_rests (j c) (s : State) : Rests s (pauseBackfeed j c s) := by
  unfold pauseBackfeed; split
  · exact pauseSeek_rests _ _
  · exact .from_ (keepParked_rests rfl) rfl

theorem pauseTrail_rests (j c r) (s : State) : Rests s (pauseTrail j c r s) :=
  .from_ (keepParked_rests rfl) rfl

theorem beginHead_link (s : State) : (beginHead s).link = s.link := (beginHead_keeps s) .link (by decide)

theorem start_rests (s : State) : Rests s (start s) := by
  unfold start; dsimp only; split
  · exact .from_ (pauseBackfeed_rests _ _ _) (beginHead_link s)
  · split
    · exact .from_ (enterSeek_rests _) (beginHead_link s)
    · exact .from_ (.from_ (callStep_rests rfl) rfl) (beginHead_link s)

theorem startDecision_keepsSlots (s : State) : KeepsSlots s (startDecision s) := by
  unfold startDecision; split
  · rename_i h
    exact (start_rests s).keepsSlots (by rw [h.1]; rfl)
  · exact .refl s

theorem enterIdle_rests (s : State) : Rests s (enterIdle s) := by
  unfold enterIdle startDecision; split
  · exact .from_ (start_rests (goIdle s)) rfl
  · exact ⟨rfl, rfl⟩

theorem startOrIdle_rests (s : State) : Rests s (startOrIdle s) := by
  unfold startOrIdle; split
  · exact start_rests s
  · exact ⟨rfl, rfl⟩

theorem enterTrailing_rests (s : State) : Rests s (enterTrailing s) := by
  unfold enterTrailing; split
  · exact enterIdle_rests s
  · exact .from_ (callStep_rests rfl) rfl

theorem endOfCopyDecision_rests (p e) (s : State) : Rests s (endOfCopyDecision p e s) := by
  unfold endOfCopyDecision
  split
  · dsimp only
    refine .from_ ?_ (beginHead_link s)
    split
    · exact pauseSeek_rests _ _
    · split
      · exact enterOffset_rests _
      · exact enterSeek_rests _
  · split
    · exact pauseTrail_rests _ _ _ _
    · exact enterTrailing_rests _

/-! ### The line boundary -/

theorem endFeed_keepsSlots {key : RequestKey} {s : State} (h : s.feed.state.motionKey? = some key) (st n) :
    KeepsSlots s (endFeed key st n s) :=
  .of_motion_end h (enterIdle_rests (completeReply key 0x30 st (.feed n) s)).link (enterIdle_rests _).motion

theorem endCalibrate_keepsSlots {key : RequestKey} {s : State} (h : s.feed.state.motionKey? = some key) (st n) :
    KeepsSlots s (endCalibrate key st n s) :=
  .of_motion_end h
    (enterIdle_rests (completeReply key 0x31 st (.calibrate s.feed.pitch (some n)) s)).link
    (enterIdle_rests _).motion

/-- A change of the feed that leaves its state. -/
theorem State.onFeed_keepsSlots (s : State) (f : Feed → Feed)
    (h : (f s.feed).state.motionKey? = s.feed.state.motionKey?) : KeepsSlots s (s.onFeed f) := .of_same rfl h

theorem callStep_keepsSlots (d) (s : State) : KeepsSlots s (callStep d s) :=
  .of_same (callStep_link d s) (by rw [callStep_state])

theorem stopForReset_keepsSlots (scope) (s : State) : KeepsSlots s (stopForReset scope s) := by
  unfold stopForReset
  dsimp only
  generalize hcleared : (if scope = .all then s.onFeed fun f => { f with parked := 0 } else s) = cleared
  have hstate : cleared.feed.state = s.feed.state := by rw [← hcleared]; split <;> rfl
  have hlink : cleared.link = s.link := by rw [← hcleared]; split <;> rfl
  refine KeepsSlots.trans (.of_same hlink (congrArg FeedState.motionKey? hstate)) ?_
  split <;> rename_i h <;> replace h := congrArg FeedState.motionKey? (hstate.trans h)
  · exact endFeed_keepsSlots h _ _
  · exact endCalibrate_keepsSlots h _ _
  all_goals exact (enterIdle_rests _).keepsSlots h

theorem boundaryBackfeed_keepsSlots (p) {s : State} (h : s.feed.state = .backfeed) :
    KeepsSlots s (boundaryBackfeed p s) := by
  refine Rests.keepsSlots ?_ (by rw [h]; rfl)
  unfold boundaryBackfeed
  split
  · exact startOrIdle_rests s
  · split
    · exact pauseBackfeed_rests _ _ _
    · split
      · exact enterSeek_rests _
      · exact callStep_rests (by rw [h]; rfl)

theorem boundarySearch_keepsSlots (p e c l) {s : State} (h : s.feed.state.motionKey? = none) :
    KeepsSlots s (boundarySearch p e c l s) := by
  refine Rests.keepsSlots ?_ h
  unfold boundarySearch
  split
  · exact startOrIdle_rests s
  · split
    · exact pauseSeek_rests _ _
    · split
      · exact enterOffset_rests _
      · split
        · exact pauseSeek_rests _ _
        · exact callStep_rests h

theorem boundaryOffset_keepsSlots (p r) {s : State} (h : s.feed.state.motionKey? = none) :
    KeepsSlots s (boundaryOffset p r s) := by
  refine Rests.keepsSlots ?_ h
  unfold boundaryOffset
  split
  · exact startOrIdle_rests s
  · split
    · exact pauseSeek_rests _ _
    · split
      · exact printLine_rests _
      · exact callStep_rests h

theorem boundaryPrinting_keepsSlots (p e d) {s : State} (h : s.feed.state.motionKey? = none) :
    KeepsSlots s (boundaryPrinting p e d s) := by
  refine Rests.keepsSlots ?_ h
  unfold boundaryPrinting
  split
  · split
    · exact pauseTrail_rests _ _ _ _
    · exact enterTrailing_rests _
  · split
    · exact endOfCopyDecision_rests _ _ _
    · split
      · exact pausePrint_rests _ _ _
      · exact printLine_rests _

theorem boundaryTrailing_keepsSlots (p r) {s : State} (h : s.feed.state.motionKey? = none) :
    KeepsSlots s (boundaryTrailing p r s) := by
  refine Rests.keepsSlots ?_ h
  unfold boundaryTrailing
  split
  · exact pauseTrail_rests _ _ _ _
  · split
    · exact enterIdle_rests _
    · exact callStep_rests h

theorem boundaryMoving_keepsSlots (p) {k : RequestKey} (l d) {s : State} (h : s.feed.state.motionKey? = some k) :
    KeepsSlots s (boundaryMoving p k l d s) := by
  unfold boundaryMoving
  split
  · exact endFeed_keepsSlots h _ _
  · split
    · exact endFeed_keepsSlots h _ _
    · exact callStep_keepsSlots _ _

theorem boundaryCalibrating_keepsSlots (p e) {k : RequestKey} (l c m f) {s : State}
    (h : s.feed.state.motionKey? = some k) : KeepsSlots s (boundaryCalibrating p e k l c m f s) := by
  unfold boundaryCalibrating
  split
  · exact endCalibrate_keepsSlots h _ _
  · split
    · have hpitch : KeepsSlots s (s.onFeed fun f => { f with pitch := c }) := State.onFeed_keepsSlots s _ rfl
      exact hpitch.trans (endCalibrate_keepsSlots (s := s.onFeed fun f => { f with pitch := c }) h _ _)
    · split
      · have hagain : KeepsSlots s (s.enter (.calibrating k l 0 m true)) := .of_same rfl h.symm
        exact hagain.trans (callStep_keepsSlots _ _)
      · split
        · exact endCalibrate_keepsSlots h _ _
        · exact callStep_keepsSlots _ _

theorem atBoundary_keepsSlots (e d) (s : State) : KeepsSlots s (atBoundary e d s) := by
  unfold atBoundary
  dsimp only
  refine (State.onFeed_keepsSlots s (fun f => { f with pending := PendingStops.none, called := none })
    rfl).trans ?_
  split
  · exact stopForReset_keepsSlots _ _
  · split <;> rename_i h
    case h_1 => exact .refl _
    case h_2 => exact boundaryBackfeed_keepsSlots _ h
    case h_3 => exact boundarySearch_keepsSlots _ _ _ _ (congrArg FeedState.motionKey? h)
    case h_4 => exact boundaryOffset_keepsSlots _ _ (congrArg FeedState.motionKey? h)
    case h_5 => exact boundaryPrinting_keepsSlots _ _ _ (congrArg FeedState.motionKey? h)
    case h_6 => exact .refl _
    case h_7 => exact boundaryTrailing_keepsSlots _ _ (congrArg FeedState.motionKey? h)
    case h_8 => exact boundaryMoving_keepsSlots _ _ _ (congrArg FeedState.motionKey? h)
    case h_9 => exact boundaryCalibrating_keepsSlots _ _ _ _ _ _ (congrArg FeedState.motionKey? h)
    case h_10 => exact .refl _

theorem actIfStanding_keepsSlots (s : State) : KeepsSlots s (actIfStanding s) := by
  unfold actIfStanding; split
  · exact atBoundary_keepsSlots _ _ _
  · exact .refl s

theorem reportFeed_keepsSlots (before s : State) : KeepsSlots s (reportFeed before s) :=
  .of_keeps ((reportFeed_keeps before s).weaken (by decide))

theorem FeedState.stepped_motionKey (st : FeedState) : st.stepped.motionKey? = st.motionKey? := by
  cases st <;> rfl

theorem completeStep_keepsSlots (sample) (s : State) : KeepsSlots s (completeStep sample s) := by
  unfold completeStep
  split
  · exact .refl s
  · exact .refl s
  · rename_i dir _
    dsimp only
    refine KeepsSlots.trans ?_ (reportFeed_keepsSlots _ _)
    refine KeepsSlots.trans ?_ (atBoundary_keepsSlots _ _ _)
    have hcounted : KeepsSlots s (countStep dir sample s) := .of_same rfl (FeedState.stepped_motionKey _)
    refine hcounted.trans ?_
    unfold reportCrossing
    split
    · split
      · exact .of_keeps ((State.changePage_keeps _ _ _).weaken (by decide))
      · exact .refl _
    · exact .refl _

theorem assignBand_keepsSlots (s : State) : KeepsSlots s (assignBand s) :=
  .of_keeps ((assignBand_keeps s).weaken (by decide))

end Sys2Proof.Machine
end

section
/-! PROOF. Every event keeps the account of the slots: the mechanism, the owners of the requests, the receiver
and the decision of a frame (R182 to R188). -/

namespace Sys2Proof.Machine

/-! ### The mechanism and the sensors -/

theorem endPage_keeps (p o) (s : State) :
    Keeps [.composer, .assets, .notices, .ring] s (endPage p o s) := by
  intro q hq; cases q <;> first | rfl | simp at hq

theorem endCopy_keeps (id) (s : State) : Keeps [.composer, .assets, .notices, .ring] s (endCopy id s) := by
  have hcounted (f) : Keeps [.composer, .assets, .notices, .ring] s (s.changePage id f) :=
    (State.changePage_keeps s id f).weaken (by decide)
  unfold endCopy; split
  · exact .refl _ _
  · dsimp only; split
    · exact (hcounted _).trans (endPage_keeps _ _ _)
    · exact hcounted _

/-- The burn of an ACTIVE page's line leaves the feed state and every block but those of its page's end. -/
theorem burnActive_keeps (p l) (s : State) :
    Keeps [.composer, .assets, .notices, .ring, .feed] s (burnActive p l s) ∧
      (burnActive p l s).feed.state = s.feed.state := by
  unfold burnActive
  dsimp only
  generalize hfreed : (if lastOfBand _ _ then freeDraining s else s) = freed
  have hkeeps : Keeps [.ring] s freed := by
    rw [← hfreed]; split
    · exact freeDraining_keeps s
    · exact .refl _ _
  have hstate : freed.feed = s.feed := hkeeps .feed (by decide)
  split
  · have hcopy := endCopy_keeps p.id freed
    exact ⟨((hkeeps.weaken (by decide)).trans (hcopy.weaken (by decide))).trans
      ((State.onFeed_keeps _ _).weaken (by decide)),
      (congrArg Feed.state ((hcopy .feed (by decide)).trans hstate) :)⟩
  · exact ⟨(hkeeps.weaken (by decide)).trans ((State.onFeed_keeps _ _).weaken (by decide)),
      (congrArg Feed.state hstate :)⟩

theorem completeBurn_keepsSlots (s : State) : KeepsSlots s (completeBurn s) := by
  unfold completeBurn
  split
  · exact .refl s
  · exact .refl s
  · dsimp only
    have hlanded : KeepsSlots s (s.onFeed fun f => { f with inFlight := .none }) := .of_same rfl rfl
    refine KeepsSlots.trans ?_ (callStep_keepsSlots _ _)
    split
    · exact hlanded
    · split
      · exact hlanded
      · split
        · obtain ⟨hkeeps, hstate⟩ := burnActive_keeps _ _ _
          exact (hlanded.trans (.of_same (hkeeps .link (by decide)) (by rw [hstate]))).trans
            (assignBand_keepsSlots _)
        · exact hlanded

theorem periodElapsed_keepsSlots (w) (s : State) : KeepsSlots s (periodElapsed w s) := by
  unfold periodElapsed
  split
  all_goals
    split
    · exact .refl s
    · dsimp only
      split
      all_goals exact .of_same rfl rfl

theorem grantWaiting_keepsSlots (i t) (s : State) : KeepsSlots s (grantWaiting i t s) := by
  unfold grantWaiting
  split
  · dsimp only
    split
    · rename_i hstalled
      refine .of_same ((callBurn_keeps _) .link (by decide)) ?_
      rw [callBurn_state, hstalled]
      rfl
    · exact .of_same rfl rfl
  · exact .refl s

theorem objectBoundary_keepsSlots (s : State) : KeepsSlots s (objectBoundary s) := by
  have hwith (r e) : KeepsSlots s ((s.withRing r).withEngine e) := .of_same rfl rfl
  unfold objectBoundary
  split
  · unfold boundaryOf
    split
    · exact (hwith _ _).trans (assignBand_keepsSlots _)
    · split
      · exact hwith _ _
      · exact ((hwith _ _).trans (grantWaiting_keepsSlots _ _ _)).trans (assignBand_keepsSlots _)
  · exact .refl s

theorem recordCondition_keepsSlots (h c) (s : State) : KeepsSlots s (recordCondition h c s) :=
  KeepsSlots.after (actIfStanding_keepsSlots _) rfl rfl

theorem recordCancel_keepsSlots (s : State) : KeepsSlots s (recordCancel s) :=
  KeepsSlots.after (actIfStanding_keepsSlots _) rfl rfl

theorem conditionActs_keepsSlots (c) (s : State) : KeepsSlots s (conditionActs c s) := by
  unfold conditionActs
  split <;> rename_i hstate
  case h_1 => exact .refl s
  case h_7 =>
    exact KeepsSlots.after
      ((pausePrint_rests _ _ (withdrawRequest s)).keepsSlots (congrArg FeedState.motionKey? hstate)) rfl rfl
  case h_10 =>
    split
    · exact .of_same rfl (by rw [hstate]; rfl)
    · exact .refl s
  all_goals exact recordCondition_keepsSlots _ _ _

theorem settle_keepsSlots (i l t) (s : State) : KeepsSlots s (settle i l t s) := .of_same rfl rfl

theorem conditionJoins_keepsSlots (c) (s : State) : KeepsSlots s (conditionJoins c s) := by
  unfold conditionJoins
  split
  · exact (((settle_keepsSlots _ _ _ s).trans (conditionActs_keepsSlots _ _)).trans
      (reportFeed_keepsSlots _ _)).trans (choose_keepsSlots _)
  · exact .refl s

theorem conditionLeaves_keepsSlots (c) (s : State) : KeepsSlots s (conditionLeaves c s) := by
  unfold conditionLeaves
  split
  · exact ((settle_keepsSlots _ _ _ s).trans (reportFeed_keepsSlots _ _)).trans (choose_keepsSlots _)
  · exact .refl s

/-! ### The owners that answer at once -/

theorem helloRequest_keepsSlots (rq) (s : State) : KeepsSlots s (helloRequest rq s).1 := by
  unfold helloRequest
  repeat' split
  all_goals exact .of_same rfl rfl

theorem statusRequest_keepsSlots (rq) (s : State) : KeepsSlots s (statusRequest rq s).1 := by
  unfold statusRequest
  split <;> exact .refl s

theorem configure_keepsSlots (fields) (s : State) : KeepsSlots s (configure fields s).1 := by
  unfold configure
  split
  · exact .refl s
  · split
    · exact .refl s
    · exact .of_same rfl rfl

theorem configRequest_keepsSlots (rq) (s : State) : KeepsSlots s (configRequest rq s).1 := by
  unfold configRequest
  dsimp only
  split
  · exact .refl s
  · split
    · exact .refl s
    · exact configure_keepsSlots _ s

theorem ackNotice_keepsSlots (rq) (s : State) : KeepsSlots s (ackNotice rq s).1 := by
  unfold ackNotice
  split
  · dsimp only
    split
    · exact .refl s
    · split
      · split <;> exact .of_same rfl rfl
      · exact .refl s
  · exact .refl s

theorem beginAsset_keepsSlots (rq) (s : State) : KeepsSlots s (beginAsset rq s).1 := by
  unfold beginAsset
  dsimp only
  repeat' split
  all_goals exact .of_same rfl rfl

theorem loadAsset_keepsSlots (rq) (s : State) : KeepsSlots s (loadAsset rq s).1 := by
  unfold loadAsset
  dsimp only
  repeat' split
  all_goals exact .of_same rfl rfl

theorem endAsset_keepsSlots (rq) (s : State) : KeepsSlots s (endAsset rq s).1 := by
  unfold endAsset
  dsimp only
  repeat' split
  all_goals exact .of_same rfl rfl

theorem dropRequest_keepsSlots (rq) (s : State) : KeepsSlots s (dropRequest rq s).1 := by
  unfold dropRequest
  dsimp only
  repeat' split
  all_goals exact .of_same rfl rfl

theorem queryAsset_keepsSlots (rq) (s : State) : KeepsSlots s (queryAsset rq s).1 := by
  unfold queryAsset
  repeat' split
  all_goals exact .refl s

theorem openPage_keepsSlots (rq) (s : State) : KeepsSlots s (openPage rq s).1 := by
  unfold openPage
  dsimp only
  repeat' split
  all_goals exact .of_same rfl rfl

theorem placeObject_keepsSlots (o page asset) (s : State) :
    KeepsSlots s (placeObject o page asset s).1 := by
  unfold placeObject
  dsimp only
  repeat' split
  all_goals exact .of_same rfl rfl

theorem addObject_keepsSlots (rq) (s : State) : KeepsSlots s (addObject rq s).1 := by
  unfold addObject
  repeat' split
  all_goals first | exact .refl s | exact placeObject_keepsSlots _ _ _ s

theorem closePage_keepsSlots (rq) (s : State) : KeepsSlots s (closePage rq s).1 := by
  unfold closePage
  dsimp only
  split
  · exact .refl s
  · split
    · exact .refl s
    · rename_i page _
      split
      · exact .refl s
      · have hqueued : KeepsSlots s (enqueuePage page.id s) := .of_same rfl rfl
        exact ((hqueued.trans (startDecision_keepsSlots _)).trans (assignBand_keepsSlots _)).trans
          (reportFeed_keepsSlots _ _)

theorem cancelActs_keepsSlots (id) (s : State) : KeepsSlots s (cancelActs id s) := by
  unfold cancelActs
  split <;> rename_i hstate
  case h_5 => exact (enterTrailing_rests s).keepsSlots (congrArg FeedState.motionKey? hstate)
  case h_10 => exact .of_same rfl (by rw [hstate]; rfl)
  all_goals first | exact .refl s | exact recordCancel_keepsSlots s

theorem dropCursor_keepsSlots (b) (s : State) : KeepsSlots s (dropCursor b s) := by
  unfold dropCursor
  split <;> exact .of_same rfl rfl

theorem cancelPage_keepsSlots (rq) (s : State) : KeepsSlots s (cancelPage rq s).1 := by
  unfold cancelPage
  dsimp only
  split
  · exact .refl s
  · split
    · exact .refl s
    · rename_i page _
      split
      · exact .refl s
      · have hgone : KeepsSlots s (dropCursor (decide (s.composer.queue.head? = some page.id))
            (endPage page .cancelled s)) :=
          KeepsSlots.after (dropCursor_keepsSlots _ _) rfl rfl
        refine KeepsSlots.trans ?_ ((assignBand_keepsSlots _).trans (reportFeed_keepsSlots _ _))
        split
        · exact hgone.trans (cancelActs_keepsSlots _ _)
        · exact hgone

theorem queryPage_keepsSlots (rq) (s : State) : KeepsSlots s (queryPage rq s).1 := by
  rw [queryPage_state]
  exact .refl s

theorem stopMotion_keepsSlots (rq) (s : State) : KeepsSlots s (stopMotion rq s).1 := by
  unfold stopMotion
  split
  · exact .refl s
  · split
    · exact .refl s
    · split
      · exact .refl s
      · exact .of_same rfl rfl

theorem stopAct_keepsSlots (s : State) : KeepsSlots s (stopAct s) :=
  (actIfStanding_keepsSlots s).trans (reportFeed_keepsSlots _ _)

theorem holdQueue_keepsSlots (rq) (s : State) : KeepsSlots s (holdQueue rq s).1 := by
  unfold holdQueue
  split
  · exact .refl s
  · exact .of_same rfl rfl

theorem releaseQueue_keepsSlots (rq) (s : State) : KeepsSlots s (releaseQueue rq s).1 := by
  unfold releaseQueue
  split
  · exact .refl s
  · split
    · have hcleared : KeepsSlots s (s.onFeed fun f => { f with hold := false }) := .of_same rfl rfl
      exact (hcleared.trans (startDecision_keepsSlots _)).trans (reportFeed_keepsSlots _ _)
    · exact .refl s

theorem continueFrom_rests (c) (s : State) :
    Rests s (continueFrom c s) := by
  unfold continueFrom
  split
  · exact printLine_rests s
  · exact enterSeek_rests s
  · exact enterIdle_rests s
  · split
    · split
      · exact enterIdle_rests s
      · exact .from_ (callStep_rests rfl) rfl
    · exact .from_ (enterIdle_rests _) rfl
  · split
    · split
      · exact enterSeek_rests s
      · exact .from_ (callStep_rests rfl) rfl
    · exact .from_ (enterSeek_rests _) rfl

theorem reprintFrom_rests (p) (s : State) : Rests s (reprintFrom p s) := by
  have hassign := assignBand_keeps
    (enterSeek (reportReprint p ((voidAll s).onFeed fun f => { f with line := 0, edge := none })))
  have hseek := enterSeek_rests (reportReprint p ((voidAll s).onFeed fun f => { f with line := 0, edge := none }))
  exact ⟨(hassign .link (by decide)).trans hseek.link,
    (congrArg FeedState.motionKey? (congrArg Feed.state (hassign .feed (by decide)))).trans hseek.motion⟩

/-- A paused feed runs no host motion. -/
theorem FeedState.motionKey_of_paused {st : FeedState} {x} (h : st.paused? = some x) : st.motionKey? = none := by
  cases st <;> first | rfl | cases h

theorem resumeFeed_keepsSlots (rq) (s : State) : KeepsSlots s (resumeFeed rq s).1 := by
  unfold resumeFeed
  split
  · split
    · exact .refl s
    · split
      · exact .refl s
      · rename_i hpaused
        have hnone := FeedState.motionKey_of_paused hpaused
        split
        · exact .refl s
        · dsimp only
          split
          · unfold resumeWithContinue
            split
            · exact .refl s
            all_goals
              exact ((continueFrom_rests _ s).keepsSlots hnone).trans (reportFeed_keepsSlots _ _)
          · unfold resumeWithReprint
            split
            · exact ((reprintFrom_rests _ s).keepsSlots hnone).trans (reportFeed_keepsSlots _ _)
            all_goals exact .refl s
  · exact .refl s

theorem resetFeed_keepsSlots (scope) (s : State) : KeepsSlots s (resetFeed scope s) := by
  have hcleared : KeepsSlots s (s.onFeed fun f => { f with hold := false, line := 0, edge := none }) :=
    .of_same rfl rfl
  unfold resetFeed
  dsimp only
  refine hcleared.trans ?_
  split
  case h_1 => exact stopForReset_keepsSlots _ _
  case h_2 => exact stopForReset_keepsSlots _ _
  case h_3 => exact stopForReset_keepsSlots _ _
  all_goals exact KeepsSlots.after (actIfStanding_keepsSlots _) rfl rfl

theorem discardPages_keepsSlots (scope) (s : State) : KeepsSlots s (discardPages scope s) := by
  unfold discardPages
  dsimp only
  refine KeepsSlots.trans ?_ (reportFeed_keepsSlots _ _)
  refine KeepsSlots.trans ?_ (resetFeed_keepsSlots _ _)
  exact .of_same rfl rfl

theorem restoreDefaults_keepsSlots (removed) (s : State) : KeepsSlots s (restoreDefaults removed s) :=
  ⟨fun _ h => h.clear_cache rfl rfl rfl, rfl, Nat.zero_le _⟩

theorem resetRequest_keepsSlots (rq) (s : State) : KeepsSlots s (resetRequest rq s).1 := by
  unfold resetRequest
  split
  · split
    · exact discardPages_keepsSlots .pages s
    · split
      · exact (discardPages_keepsSlots .all s).trans (restoreDefaults_keepsSlots _ _)
      · exact .refl s
  · exact .refl s

/-! ### A request in its slot -/

/-- The owner answers at once and keeps the account, or the request becomes the running host motion's
(R184). -/
structure OwnsSlot (owner : Owner) : Prop where
  held : ∀ rq s, Held s [rq.key] → Held (execute owner rq s) []
  stays : ∀ rq s, LinkStays s (execute owner rq s)

theorem completeReply_stays (key kind status results) (s : State) :
    LinkStays s (completeReply key kind status results s) := ⟨rfl, le_rfl⟩

/-- An owner that answers at once completes the reply of the slot (R184). -/
theorem OwnsSlot.of_answering {f : Request → State → State × Status × Results}
    (h : ∀ rq s, KeepsSlots s (f rq s).1) : OwnsSlot (answering f) :=
  ⟨fun rq s hs => SlotLaw.complete ((h rq s).held [rq.key] hs) _ _ _,
    fun rq s => (h rq s).stays.trans (completeReply_stays _ _ _ _ _)⟩

/-- An owner that refuses at once, or starts the host motion of the request, leaving the link. -/
theorem OwnsSlot.of_motion {owner : Owner} (h : ∀ rq s,
    (∃ status results, owner rq s = (s, some (status, results))) ∨
    (owner rq s).2 = none ∧ s.feed.state = .idle ∧ (owner rq s).1.link = s.link ∧
      (owner rq s).1.feed.state.motionKey? = some rq.key) : OwnsSlot owner := by
  refine ⟨fun rq s hs => ?_, fun rq s => ?_⟩
  · rcases h rq s with ⟨status, results, hout⟩ | ⟨hnone, hidle, hlink, hmotion⟩
    · rw [execute, hout]
      exact SlotLaw.complete hs _ _ _
    · rw [execute, ← Prod.mk.eta (p := owner rq s), hnone]
      unfold Held at *
      rw [hidle] at hs
      rw [hlink, hmotion]
      exact hs
  · rcases h rq s with ⟨status, results, hout⟩ | ⟨hnone, hidle, hlink, hmotion⟩
    · rw [execute, hout]
      exact completeReply_stays _ _ _ _ _
    · rw [execute, ← Prod.mk.eta (p := owner rq s), hnone]
      exact .of_same hlink

theorem feedLines_ownsSlot : OwnsSlot feedLines := by
  refine .of_motion fun rq s => ?_
  unfold feedLines
  dsimp only
  split
  · exact .inl ⟨_, _, rfl⟩
  · split
    · exact .inl ⟨_, _, rfl⟩
    · split
      · exact .inl ⟨_, _, rfl⟩
      · rename_i hidle
        split
        · exact .inl ⟨_, _, rfl⟩
        · exact .inr ⟨rfl, not_not.mp hidle, callStep_link _ _, by rw [callStep_state]; rfl⟩

theorem calibratePitch_ownsSlot : OwnsSlot calibratePitch := by
  refine .of_motion fun rq s => ?_
  unfold calibratePitch
  split
  · exact .inl ⟨_, _, rfl⟩
  · split
    · exact .inl ⟨_, _, rfl⟩
    · rename_i hidle
      split
      · exact .inl ⟨_, _, rfl⟩
      · exact .inr ⟨rfl, not_not.mp (not_or.mp hidle).1, callStep_link _ _, by rw [callStep_state]; rfl⟩

theorem ownerOf_ownsSlot (kind : Byte) : OwnsSlot (ownerOf kind) :=
  ownerOf_induction (P := OwnsSlot) (.of_answering helloRequest_keepsSlots)
    (.of_answering statusRequest_keepsSlots) (.of_answering configRequest_keepsSlots)
    (.of_answering resetRequest_keepsSlots) (.of_answering ackNotice_keepsSlots)
    (.of_answering beginAsset_keepsSlots) (.of_answering loadAsset_keepsSlots)
    (.of_answering endAsset_keepsSlots) (.of_answering dropRequest_keepsSlots)
    (.of_answering queryAsset_keepsSlots) (.of_answering openPage_keepsSlots)
    (.of_answering addObject_keepsSlots) (.of_answering closePage_keepsSlots)
    (.of_answering cancelPage_keepsSlots) (.of_answering queryPage_keepsSlots) feedLines_ownsSlot
    calibratePitch_ownsSlot (fun _ => .of_answering stopMotion_keepsSlots) (.of_answering holdQueue_keepsSlots)
    (.of_answering releaseQueue_keepsSlots) (.of_answering resumeFeed_keepsSlots)
    (.of_answering fun _ s => .refl s)

theorem followUp_keepsSlots (kind) (s : State) : KeepsSlots s (followUp kind s) := by
  unfold followUp
  split
  · exact stopAct_keepsSlots s
  · exact .refl s

/-- The law between two events. -/
abbrev SlotsHeld (s : State) : Prop := Held s []

theorem addUnslotted_stays (s : State) (reply : WaitingReply) :
    LinkStays s (s.withLink (s.link.addUnslotted reply)) := by
  refine ⟨?_, ?_⟩ <;> simp only [Link.addUnslotted, State.withLink_link] <;> split <;> rfl

theorem decideFrame_stays (kind rq) (s : State) :
    LinkStays s (decideFrame (ownerOf kind) (followUp kind) rq s) := by
  unfold decideFrame
  split
  · split
    · exact .of_same rfl
    · exact addUnslotted_stays s _
  · split
    · exact .of_same rfl
    · split
      · have htaken : LinkStays s (takeSlot rq s) := ⟨rfl, le_rfl⟩
        exact (htaken.trans ((ownerOf_ownsSlot kind).stays rq _)).trans (followUp_keepsSlots _ _).stays
      · obtain ⟨hreceiver, hcrc⟩ := addUnslotted_stays s (.refusal (noSlotFrame rq s.link.serial))
        exact ⟨hreceiver, hcrc⟩

theorem decideFrame_slotsHeld (kind rq) {s : State} (h : SlotsHeld s) :
    SlotsHeld (decideFrame (ownerOf kind) (followUp kind) rq s) := by
  unfold decideFrame
  split
  · split
    · exact h
    · exact SlotLaw.addUnslotted h rfl
  · split
    · exact h
    · rename_i hnew
      split
      · rename_i hroom
        refine (followUp_keepsSlots _ _).held [] ((ownerOf_ownsSlot kind).held rq _ ?_)
        exact SlotLaw.take (slot := { key := rq.key, kind := rq.kind, reply := none }) h (by simpa using hnew)
          hroom rfl rfl rfl rfl
      · exact (SlotLaw.addUnslotted h rfl).congr rfl rfl rfl

/-- A good frame leaves the receiver and counts no CRC error. -/
theorem goodFrame_stays (kind rq) (s : State) :
    LinkStays s (goodFrame (ownerOf kind) (followUp kind) rq s) :=
  ((choose_keepsSlots s).stays.trans (decideFrame_stays kind rq _)).trans (choose_keepsSlots _).stays

theorem goodFrame_slotsHeld (kind rq) {s : State} (h : SlotsHeld s) :
    SlotsHeld (goodFrame (ownerOf kind) (followUp kind) rq s) :=
  (choose_keepsSlots _).held [] (decideFrame_slotsHeld kind rq ((choose_keepsSlots s).held [] h))

theorem request_slotsHeld (kind rq) {s : State} (h : SlotsHeld s) :
    SlotsHeld (request (ownerOf kind) (followUp kind) rq s) := by
  unfold request
  split
  · exact goodFrame_slotsHeld kind rq h
  · exact h

/-! ### The receiver, start-up and every command -/

/-- The receiver's bytes are not the slots'. -/
theorem hold_slotsHeld (p b) {s : State} (h : SlotsHeld s) : SlotsHeld (hold s p b) := h.congr rfl rfl rfl

theorem hunt_slotsHeld {s : State} (h : SlotsHeld s) : SlotsHeld (hunt s) := h.congr rfl rfl rfl

theorem receiveByte_slotsHeld (b) {s : State} (h : SlotsHeld s) : SlotsHeld (receiveByte b s) := by
  unfold receiveByte
  dsimp only
  split
  · exact h
  · split
    · exact hold_slotsHeld _ _ h
    · exact h
  · unfold headerByte
    dsimp only
    split
    · exact SlotLaw.congr h rfl rfl rfl
    · exact hold_slotsHeld _ _ h
  · exact hold_slotsHeld _ _ h
  · split
    · unfold frameEnds
      split
      · exact goodFrame_slotsHeld _ _ (hunt_slotsHeld h)
      · exact SlotLaw.congr h rfl rfl rfl
    · exact hold_slotsHeld _ _ h

theorem receiveCharacter_slotsHeld (b l) {s : State} (h : SlotsHeld s) : SlotsHeld (receiveCharacter b l s) := by
  unfold receiveCharacter
  split
  · exact receiveByte_slotsHeld b h
  · exact h

theorem byteTimeout_slotsHeld {s : State} (h : SlotsHeld s) : SlotsHeld (byteTimeout s) := by
  unfold byteTimeout
  split
  · exact h
  · split
    · exact h
    · exact h
    all_goals exact SlotLaw.congr h rfl rfl rfl

theorem slotsHeld_of_blank {s : State} (hs : s.link.slots = []) (hc : s.link.cache = [])
    (hr : s.link.replies = []) (hm : s.feed.state.motionKey? = none) : SlotsHeld s := by
  unfold SlotsHeld Held
  rw [hm]
  refine ⟨?_, ?_, ?_, ?_, ?_, ?_, ?_, fun key => ?_, fun key => ?_⟩ <;> simp [hs, hc, hr, waitingKeys]

theorem cleared_slotsHeld (s : State) (p r) : SlotsHeld (s.cleared p r) := slotsHeld_of_blank rfl rfl rfl rfl

theorem startUp_slotsHeld (c r1 r0 cc mp) (s : State) : SlotsHeld (startUp c r1 r0 cc mp s) :=
  (choose_keepsSlots _).held [] (slotsHeld_of_blank rfl rfl rfl rfl)

theorem endFrame_keepsSlots (s : State) : KeepsSlots s (endFrame s) :=
  KeepsSlots.trans (t := s.withLink { s.link with tx := none }) ⟨fun _ h => h.congr rfl rfl rfl, rfl, le_rfl⟩
    (choose_keepsSlots _)

theorem resendDue_keepsSlots (s : State) : KeepsSlots s (resendDue s) := by
  unfold resendDue
  split
  · exact KeepsSlots.after (choose_keepsSlots _) rfl rfl
  · exact choose_keepsSlots s

theorem idle_keepsSlots (s : State) : KeepsSlots s (idle s) := by
  unfold idle
  split
  · exact KeepsSlots.after (choose_keepsSlots _) rfl rfl
  · exact .refl s

theorem KeepsSlots.guarded {c : Prop} [Decidable c] {s t : State} (h : KeepsSlots s t) :
    KeepsSlots s (if c then t else s) := by
  split
  · exact h
  · exact .refl s

/-- Every command keeps the account of the slots. -/
theorem exec_slotsHeld {c : Instr} {s t : State} (h : exec c s = .next t) (hs : SlotsHeld s) : SlotsHeld t := by
  cases hrq : requestFor c with
  | some rq =>
    rw [exec_request hrq] at h
    obtain rfl := Host.Outcome.next.inj h
    exact request_slotsHeld _ _ hs
  | none =>
    cases c <;> first | simp [requestFor] at hrq; done | obtain rfl := Host.Outcome.next.inj h
    case startUp => exact startUp_slotsHeld _ _ _ _ _ s
    case resetLineAssert =>
      unfold assertReset; split
      · exact hs
      · exact cleared_slotsHeld s _ _
    case supplyLoss => exact cleared_slotsHeld s _ _
    case byteReceived => exact receiveCharacter_slotsHeld _ _ hs
    case headerError => exact receiveCharacter_slotsHeld _ _ hs
    case frameComplete => exact receiveCharacter_slotsHeld _ _ hs
    case interByteTimeout => exact byteTimeout_slotsHeld hs
    all_goals refine (KeepsSlots.guarded (s := s) ?_).held [] hs
    case sensorInputChange =>
      unfold inputChange; split
      · exact .refl s
      · exact .of_same rfl rfl
    case conditionJoins => exact conditionJoins_keepsSlots _ _
    case conditionLeaves => exact conditionLeaves_keepsSlots _ _
    case linePeriodElapsed => exact periodElapsed_keepsSlots _ _
    case stepCompletion => exact (completeStep_keepsSlots _ _).trans (choose_keepsSlots _)
    case burnCompletion => exact (completeBurn_keepsSlots _).trans (choose_keepsSlots _)
    case objectBoundary => exact objectBoundary_keepsSlots s
    case transmitFrameEnd => exact endFrame_keepsSlots s
    case noticeResendDue => exact resendDue_keepsSlots s

/-- Settles O16: the running host motion's request is the only open one between events, and each command keeps
the law of slots and waiting replies. -/
theorem slotsAccountedKept : Obligations.SlotsAccountedKept := by
  unfold Obligations.SlotsAccountedKept
  intro s t h hstep
  rw [← held_iff] at h ⊢
  unfold step at hstep
  split at hstep
  · exact exec_slotsHeld hstep h
  · obtain rfl := Host.Outcome.next.inj hstep
    exact (idle_keepsSlots s).held [] h

end Sys2Proof.Machine
end

section
/-! PROOF. Power, the reset line and time: the steps of the part, start-up and what follows without power
(R170, R191, R204). -/

namespace Sys2Proof.Machine

/-! ### Steps -/

theorem step_of_pending {c : Instr} {rest : List Instr} {s : State} (h : s.pending = c :: rest) :
    step s = exec c (s.withPending rest) := by
  unfold step
  rw [h]

theorem step_of_no_pending {s : State} (h : s.pending = []) : step s = .next (idle s) := by
  unfold step
  rw [h]

theorem running_iff (s : State) : s.running = true ↔ s.power = .running := by simp [State.running]

/-- Settles O1: the front command, or the idle step, in which only the clock and the arbiter's choice move. -/
theorem stepRunsTheFrontCommand : Obligations.StepRunsTheFrontCommand := by
  unfold Obligations.StepRunsTheFrontCommand
  refine ⟨fun c rest s h => step_of_pending h, fun s h => ⟨fun hoff => ?_, fun hrun => ?_⟩⟩
  · rw [step_of_no_pending h, idle, if_neg (by rwa [running_iff])]
  · obtain ⟨hkeeps, hlink, hnotices, -⟩ := choose_keeps (s.withClock (s.clock + idleMicros))
    have hclock : Keeps [.link, .notices, .clock] s (s.withClock (s.clock + idleMicros)) := by
      intro p hp; cases p <;> first | rfl | simp at hp
    refine ⟨choose (s.withClock (s.clock + idleMicros)), ?_, hkeeps .clock (by decide),
      ⟨hclock.trans (hkeeps.weaken (by decide)), hlink, hnotices⟩, fun htx => ?_⟩
    · rw [step_of_no_pending h, idle, if_pos ((running_iff s).mpr hrun)]
    · rw [choose_busy (s := s.withClock (s.clock + idleMicros)) htx]
      exact ⟨rfl, rfl⟩

/-! ### Start-up -/

theorem BandRing.blank_stateOf (i : Fin 4) : BandRing.blank.stateOf i = .free := by
  simp [BandRing.blank, BandRing.stateOf, Vector.get_eq_getElem]

/-- The state that START_UP leaves, READY being the frame that the free transmitter has begun (R188, R204). -/
theorem startUp_eq (cause : StartCause) (rate1 rate0 : Level) (coverClosed mediaPresent : Bool) (s : State) :
    startUp cause rate1 rate0 coverClosed mediaPresent s =
      let rate := LinkRate.ofStraps rate1 rate0
      let ready : NoticeContent := .ready (resetCauseOf cause) (Config.identity rate)
      { State.blank with
        power := .running
        link := { Link.blank rate with
          serial := s.link.serial
          receiver := { Receiver.closed with phase := .hunt }
          tx := some (.notice { number := 0, revision := 0, content := ready }) }
        notices :=
          { entries := [{ number := 0, revision := 0, content := ready, sent := true, lastSending := some 0 }],
            lastNumber := 0 }
        sensors := { cover := InputFilter.loaded coverClosed, media := InputFilter.loaded mediaPresent }
        pending := s.pending } := rfl

theorem linkRate_ofStraps (rate1 rate0 : Level) :
    LinkRate.ofStraps rate1 rate0 = (match rate1, rate0 with
      | .low, .low => .baud57600
      | .low, .high => .baud115200
      | .high, .low => .baud230400
      | .high, .high => .baud460800) := by
  cases rate1 <;> cases rate0 <;> rfl

/-- Settles O2: each block's power-on values in the state that START_UP leaves. -/
theorem startUpLoadsPowerOnValues : Obligations.StartUpLoadsPowerOnValues := by
  unfold Obligations.StartUpLoadsPowerOnValues
  intro cause rate1 rate0 coverClosed mediaPresent s
  refine ⟨_, rfl, ?_⟩
  rw [startUp_eq]
  cases cause
  all_goals
    exact ⟨rfl, rfl, linkRate_ofStraps _ _, rfl, rfl, rfl, rfl, rfl, rfl, rfl, rfl, BandRing.blank_stateOf, rfl,
      rfl, rfl, rfl, rfl, rfl, rfl, rfl, rfl, rfl, rfl, rfl, rfl, rfl, rfl, rfl, rfl, rfl, rfl, rfl, rfl, rfl, rfl,
      rfl⟩

/-! ### The reset line and the loss of the supply -/

/-- Settles O4: both clear every block to its power-on values. -/
theorem resetLineAndSupplyLossClear : Obligations.ResetLineAndSupplyLossClear := by
  unfold Obligations.ResetLineAndSupplyLossClear
  intro s abandoned cleared
  have hcleared (p : Power) (r : LinkRate) (hp : p ≠ .running) :
      abandoned (s.cleared p r) ∧ cleared (s.cleared p r) := by
    have hrun : (s.cleared p r).running = false := decide_eq_false hp
    refine ⟨⟨?_, ?_, ?_, rfl, rfl, rfl, rfl, rfl⟩, rfl, rfl, rfl, rfl, rfl, rfl, rfl, rfl, rfl, rfl, rfl, rfl, rfl,
      rfl, rfl, BandRing.blank_stateOf, rfl, rfl, rfl, rfl, rfl, rfl, rfl, rfl, rfl, rfl, rfl⟩
    · simp [State.motorEnabled, hrun]
    · simp [State.burnStrobe, hrun]
    · simp [State.transmitIdle, hrun]
  refine ⟨fun hoff => ?_, fun hon => ?_, ?_⟩
  · show Host.Outcome.next (assertReset s) = _
    rw [assertReset, if_pos hoff]
  · obtain ⟨ha, hc⟩ := hcleared .heldInReset s.link.rate (by decide)
    refine ⟨s.cleared .heldInReset s.link.rate, ?_, rfl, ha, hc, rfl⟩
    show Host.Outcome.next (assertReset s) = _
    rw [assertReset, if_neg hon]
  · obtain ⟨ha, hc⟩ := hcleared .off s.link.rate (by decide)
    exact ⟨s.cleared .off s.link.rate, rfl, rfl, ha, hc, rfl⟩

/-- A request frame has no effect on a link that does not receive (R191, R204). -/
theorem request_of_not_receives {s : State} (h : s.receives = false) (owner : Owner) (after : State → State)
    (rq : Request) : request owner after rq s = s := by
  simp [request, h]

theorem exec_request_of_not_receives {c : Instr} {rq : Request} (hrq : requestFor c = some rq) {s : State}
    (h : s.receives = false) : exec c s = .next s := by
  rw [exec_request hrq, request_of_not_receives h]

/-- Settles O5: every command but the three of power is guarded by the running part. -/
theorem nothingActsWithoutPower : Obligations.NothingActsWithoutPower := by
  unfold Obligations.NothingActsWithoutPower
  intro c s hpower hstart hreset hloss
  have hrun : s.running = false := by simpa [State.running] using hpower
  have hreceives : s.receives = false := by simp [State.receives, hpower]
  have hchar (b l) : receiveCharacter b l s = s := if_neg fun h => hpower h.1
  cases hrq : requestFor c with
  | some rq => exact exec_request_of_not_receives hrq hreceives
  | none =>
    cases c <;> first | simp [requestFor] at hrq; done | skip
    case startUp => exact absurd rfl (hstart _ _ _ _ _)
    case resetLineAssert => exact absurd rfl hreset
    case supplyLoss => exact absurd rfl hloss
    case byteReceived => exact congrArg Host.Outcome.next (hchar _ _)
    case headerError => exact congrArg Host.Outcome.next (hchar _ _)
    case frameComplete => exact congrArg Host.Outcome.next (hchar _ _)
    case interByteTimeout => exact congrArg Host.Outcome.next (if_pos hpower)
    case transmitFrameEnd => simp [exec, execTransmitFrameEnd, hrun]
    case noticeResendDue => simp [exec, execNoticeResendDue, hrun]
    all_goals
      exact congrArg Host.Outcome.next (if_neg (by simp [hrun]))

/-- Settles O3: the values of START_UP, the CLOSED receiver of the reset line and of the supply's loss, and a
CLOSED receiver that takes neither requests nor bytes. -/
theorem linkAfterStartUpAndWhileClosed : Obligations.LinkAfterStartUpAndWhileClosed := by
  unfold Obligations.LinkAfterStartUpAndWhileClosed
  refine ⟨fun cause rate1 rate0 coverClosed mediaPresent s => ?_, fun s hon => ?_, fun s => ⟨_, rfl, rfl⟩,
    fun s hclosed => ⟨fun c rq hrq => exec_request_of_not_receives hrq (by simp [State.receives, hclosed]),
      fun b stopBit => ?_⟩⟩
  · refine ⟨_, rfl, ?_⟩
    rw [startUp_eq]
    exact ⟨rfl, rfl, rfl, rfl, rfl, rfl, rfl, ⟨_, rfl, rfl⟩, rfl, rfl, linkRate_ofStraps _ _⟩
  · exact ⟨assertReset s, rfl, by rw [assertReset, if_neg hon]; rfl⟩
  · have hchar (l) : receiveCharacter b l s = s := by
      unfold receiveCharacter receiveByte
      rw [hclosed]
      simp
    exact ⟨congrArg Host.Outcome.next (hchar _), congrArg Host.Outcome.next (hchar _),
      congrArg Host.Outcome.next (hchar _)⟩

end Sys2Proof.Machine
end

section
/-! PROOF. The machine after reset keeps every law (R204). -/

namespace Sys2Proof.Machine

/-- The laws of the ring and of the feed at reset: every buffer is FREE and the feed stands in IDLE. -/
theorem printingLaw_reset : PrintingLaw State.reset := by
  have hfree (i : Fin 4) : State.reset.ring.stateOf i = .free := BandRing.blank_stateOf i
  refine ⟨by decide, by decide, ⟨List.nodup_nil, fun i => ?_, fun i j hi => ?_, fun i => ?_, fun r hr => ?_⟩,
    ⟨?_, ?_⟩, List.nil_prefix, ⟨?_, fun _ => rfl, fun _ => rfl, fun _ => rfl, fun _ => rfl⟩,
    by decide, ⟨?_, ?_⟩, ⟨fun i hi => ?_, ?_, ?_⟩, trivial⟩
  · exact ⟨fun h => (List.not_mem_nil h).elim, fun h => absurd (hfree i) h⟩
  · rw [hfree] at hi; cases hi
  · rw [hfree]; exact ⟨nofun, nofun⟩
  · cases hr
  · decide
  · intro h; cases h
  · intro p hp; cases hp
  · intro h; cases h
  · intro h p hp; cases hp
  · rw [hfree] at hi; cases hi
  · intro h; cases h
  · intro l hl; cases hl

/-- Settles O60: each law holds of empty collections, and START_UP of the blank part leaves this state. -/
theorem lawsHoldAtReset : Obligations.LawsHoldAtReset := by
  unfold Obligations.LawsHoldAtReset
  exact ⟨rfl, by decide, by decide, by decide, by decide, by decide, by decide, by decide, by decide,
    printingLaw_reset, rfl⟩

end Sys2Proof.Machine
end

section
/-! PROOF. The receiver (R173, R177 to R181) and the bytes of a frame (R174, R176, R182). -/

namespace Sys2Proof.Machine

/-! ### A byte by the receiver's state -/

theorem receiveByte_of_hunt {s : State} (h : s.link.receiver.phase = .hunt) (b : Byte) :
    receiveByte b s = if b = syncByte then hold s .header [b] else s := by
  simp [receiveByte, h]

theorem receiveByte_of_header {s : State} (h : s.link.receiver.phase = .header) {b : Byte}
    (hbad : headerBad (s.link.receiver.held ++ [b]) = false) :
    receiveByte b s = hold s (headerPhase (s.link.receiver.held ++ [b])) (s.link.receiver.held ++ [b]) := by
  simp [receiveByte, h, headerByte, hbad]

theorem receiveByte_of_payload {s : State} (h : s.link.receiver.phase = .payload) (b : Byte) :
    receiveByte b s =
      hold s
        (if (s.link.receiver.held ++ [b]).length = 6 + headerLength (s.link.receiver.held ++ [b]) then .check
         else .payload) (s.link.receiver.held ++ [b]) := by
  simp only [receiveByte, h]

theorem receiveByte_of_check {s : State} (h : s.link.receiver.phase = .check) {b : Byte}
    (hshort : (s.link.receiver.held ++ [b]).length ≠ 8 + headerLength (s.link.receiver.held ++ [b])) :
    receiveByte b s = hold s .check (s.link.receiver.held ++ [b]) := by
  simp only [receiveByte, h, if_neg hshort]

/-- Settles O6: one equation of the receiver per state. -/
theorem receiverTakesBytes : Obligations.ReceiverTakesBytes := by
  unfold Obligations.ReceiverTakesBytes
  intro b s hrun held after
  have hexec (t : State) (h : receiveByte b s = t) : exec (.byteReceived b .high) s = .next t :=
    congrArg Host.Outcome.next ((receiveCharacter_of_running hrun b).trans h)
  refine ⟨congrArg Host.Outcome.next (if_neg (by simp)), fun hhunt hb => hexec _ ?_, fun hhunt hb => hexec _ ?_,
    fun hheader hbad => hexec _ ?_, fun hpayload => hexec _ (receiveByte_of_payload hpayload b),
    fun hcheck hshort => hexec _ (receiveByte_of_check hcheck hshort)⟩
  · rw [receiveByte_of_hunt hhunt, if_neg (by exact hb)]
  · rw [receiveByte_of_hunt hhunt, hb, if_pos (by rfl)]
    rfl
  · rw [receiveByte_of_header hheader hbad, headerPhase, if_neg (by simp)]
    rfl

/-- Settles O8: the timeout runs inside a frame alone. -/
theorem timeoutDiscardsTheFrame : Obligations.TimeoutDiscardsTheFrame := by
  unfold Obligations.TimeoutDiscardsTheFrame
  intro s hrun
  have hexec : exec .interByteTimeout s = .next (byteTimeout s) := rfl
  rw [hexec]
  unfold byteTimeout
  rw [if_neg (not_not.mpr hrun)]
  constructor
  · rintro (h | h) <;> simp [h]
  · intro hhunt hclosed
    cases hphase : s.link.receiver.phase with
    | hunt => exact absurd hphase hhunt
    | closed => exact absurd hphase hclosed
    | header | payload | check =>
      refine ⟨_, rfl, ?_, rfl, rfl⟩
      intro p hp; cases p <;> first | rfl | simp at hp

/-! ### A header error -/

/-- The hunt passes over bytes in front of what it keeps: it counts the SYNC bytes among them, each of which
starts a header error (R178). -/
theorem rescan_passed (bytes : List Byte) :
    ∃ passed, bytes = passed ++ (rescan bytes).2 ∧ (rescan bytes).1 = passed.count syncByte ∧
      ∀ front rest, bytes = front ++ (syncByte :: rest) → front.length < passed.length →
        headerBad (syncByte :: rest) = true := by
  induction bytes with
  | nil => exact ⟨[], rfl, rfl, fun front rest h => by simp at h⟩
  | cons b rest ih =>
    obtain ⟨passed, hsplit, hcount, hbad⟩ := ih
    have hlater (hhead : b = syncByte → headerBad (b :: rest) = true) (front rest' : List Byte)
        (h : b :: rest = front ++ (syncByte :: rest')) (hlen : front.length < (b :: passed).length) :
        headerBad (syncByte :: rest') = true := by
      cases front with
      | nil =>
        obtain ⟨rfl, rfl⟩ := List.cons.inj h
        exact hhead rfl
      | cons c front =>
        obtain ⟨-, hrest⟩ := List.cons.inj h
        exact hbad front rest' hrest (by simpa using hlen)
    unfold rescan
    by_cases hsync : b = syncByte
    · rw [if_neg (not_not.mpr hsync)]
      by_cases hheader : headerBad (b :: rest) = true
      · rw [if_pos hheader]
        exact ⟨b :: passed, by rw [List.cons_append, ← hsplit], by simp [hsync, hcount],
          hlater fun _ => hheader⟩
      · rw [if_neg hheader]
        exact ⟨[], rfl, rfl, fun _ _ _ h => absurd h (Nat.not_lt_zero _)⟩
    · rw [if_pos hsync]
      exact ⟨b :: passed, by rw [List.cons_append, ← hsplit], by simp [hsync, hcount],
        hlater fun h => absurd h hsync⟩

/-- Settles O7: the hunt through the held bytes, by `rescan_passed` and `rescan_kept`. -/
theorem headerErrorCountsAndHunts : Obligations.HeaderErrorCountsAndHunts := by
  unfold Obligations.HeaderErrorCountsAndHunts
  intro b s hrun hheader hbad hunted
  obtain ⟨passed, hsplit, hcount, hpassed⟩ := rescan_passed hunted
  obtain ⟨-, hkept⟩ := rescan_kept hunted
  refine ⟨_, passed, (rescan hunted).2, rfl, ?_, hsplit, ?_, hpassed, hkept, ?_⟩
  all_goals
    rw [receiveCharacter_of_running hrun, receiveByte, hheader]
    simp only [headerByte, if_pos hbad]
  · intro p hp; cases p <;> first | rfl | simp at hp
  · rw [← show (rescan hunted).1 = List.count 0xA7 passed from hcount, Nat.add_assoc]
    rfl
  · rfl

/-! ### The bytes of a frame -/

theorem runCommands_append (xs ys : List Instr) (s : State) :
    runCommands (xs ++ ys) s = (match runCommands xs s with
      | .next t => runCommands ys t
      | .fault r => .fault r
      | .refused r => .refused r) := by
  induction xs generalizing s with
  | nil => rfl
  | cons c rest ih =>
    simp only [List.cons_append, runCommands]
    cases exec c s with
    | next t => exact ih t
    | fault r => rfl
    | refused r => rfl

theorem runCommands_append_of_next {xs : List Instr} {s t : State} (h : runCommands xs s = .next t)
    (ys : List Instr) : runCommands (xs ++ ys) s = runCommands ys t := by
  rw [runCommands_append, h]

theorem runCommands_cons_of_next {c : Instr} {s t : State} (h : exec c s = .next t) (rest : List Instr) :
    runCommands (c :: rest) s = runCommands rest t := by
  simp only [runCommands, h]

/-- The commands that tell these bytes with a high stop bit. -/
abbrev received (bytes : List Byte) : List Instr := bytes.map fun b => .byteReceived b .high

theorem exec_byteReceived {s : State} (hrun : s.power = .running) (b : Byte) :
    exec (.byteReceived b .high) s = .next (receiveByte b s) :=
  congrArg Host.Outcome.next (receiveCharacter_of_running hrun b)

theorem exec_frameComplete {s : State} (hrun : s.power = .running) (b : Byte) :
    exec (.frameComplete b) s = .next (receiveByte b s) :=
  congrArg Host.Outcome.next (receiveCharacter_of_running hrun b)

section Frame

variable {seq kind : Byte} {payload : List Byte} (hlen : payload.length ≤ 1024)
include hlen

/-- The length field of a frame (R174). -/
theorem headerLength_frame (rest : List Byte) :
    headerLength ([syncByte, 0x01, seq, kind, byteOf payload.length, byteOf (payload.length / 256)] ++ rest) =
      payload.length := by
  simp only [headerLength, u16At, u8At, byteOf, List.cons_append, List.getD_cons_succ, List.getD_cons_zero,
    BitVec.toNat_ofNat]
  omega

/-- No header byte of a frame starts a header error (R178). -/
theorem headerBad_frame (n : Nat) : headerBad
    ([syncByte, 0x01, seq, kind, byteOf payload.length, byteOf (payload.length / 256)].take n) = false := by
  have hfull := headerLength_frame (seq := seq) (kind := kind) hlen []
  rw [List.append_nil] at hfull
  match n with
  | 0 | 1 | 2 | 3 | 4 | 5 => simp [headerBad]
  | n + 6 =>
    rw [List.take_of_length_le (by simp), headerBad, hfull]
    have hfits : decide (maxPayload < payload.length) = false := decide_eq_false (Nat.not_lt.mpr hlen)
    rw [hfits]
    simp

/-- The receiver after the header of a frame (R177). -/
theorem receive_header {s : State} (hrun : s.power = .running) (hhunt : s.link.receiver.phase = .hunt) :
    runCommands (received [syncByte, 0x01, seq, kind, byteOf payload.length, byteOf (payload.length / 256)]) s =
      .next (hold s (if payload.length = 0 then .check else .payload)
        [syncByte, 0x01, seq, kind, byteOf payload.length, byteOf (payload.length / 256)]) := by
  have hbad := headerBad_frame (seq := seq) (kind := kind) hlen
  have hfull := headerLength_frame (seq := seq) (kind := kind) hlen []
  have hnext (held : List Byte) (b : Byte) (rest : List Instr) (hb : headerBad (held ++ [b]) = false) :
      runCommands (.byteReceived b .high :: rest) (hold s .header held) =
        runCommands rest (hold s (headerPhase (held ++ [b])) (held ++ [b])) := by
    rw [runCommands_cons_of_next (exec_byteReceived (by exact hrun) b), receiveByte_of_header rfl (by exact hb)]
    rfl
  have hshort (held : List Byte) (b : Byte) (rest : List Instr) (hb : headerBad (held ++ [b]) = false)
      (hlt : (held ++ [b]).length < 6) :
      runCommands (.byteReceived b .high :: rest) (hold s .header held) =
        runCommands rest (hold s .header (held ++ [b])) := by
    rw [hnext held b rest hb, headerPhase, if_neg (by simp), if_pos hlt]
  simp only [received, List.map_cons, List.map_nil]
  rw [runCommands_cons_of_next (exec_byteReceived hrun _), receiveByte_of_hunt hhunt, if_pos rfl,
    hshort _ _ _ (hbad 2) (by simp), hshort _ _ _ (hbad 3) (by simp), hshort _ _ _ (hbad 4) (by simp),
    hshort _ _ _ (hbad 5) (by simp), hnext _ _ _ (hbad 6), headerPhase, if_neg (by simp), if_neg (by simp)]
  rw [List.append_nil] at hfull
  simp only [List.cons_append, List.nil_append, hfull]
  rfl

/-- The receiver after the payload of a frame (R177). -/
theorem receive_payload {s : State} (hrun : s.power = .running) (before after : List Byte)
    (hsplit : payload = before ++ after) :
    runCommands (received after)
        (hold s (if before.length = payload.length then .check else .payload)
          ([syncByte, 0x01, seq, kind, byteOf payload.length, byteOf (payload.length / 256)] ++ before)) =
      .next (hold s .check
        ([syncByte, 0x01, seq, kind, byteOf payload.length, byteOf (payload.length / 256)] ++ payload)) := by
  induction after generalizing before with
  | nil =>
    rw [List.append_nil] at hsplit
    rw [if_pos (by rw [hsplit]), ← hsplit]
    rfl
  | cons b rest ih =>
    have hshort : before.length ≠ payload.length := by rw [hsplit]; simp
    have hfull := headerLength_frame (seq := seq) (kind := kind) hlen (before ++ [b])
    rw [if_neg hshort]
    simp only [received, List.map_cons]
    rw [runCommands_cons_of_next (exec_byteReceived (by exact hrun) b), receiveByte_of_payload rfl]
    simp only [hold_receiver, List.append_assoc, hfull]
    have hiff : ([syncByte, 0x01, seq, kind, byteOf payload.length, byteOf (payload.length / 256)] ++
        (before ++ [b])).length = 6 + payload.length ↔ (before ++ [b]).length = payload.length := by
      rw [List.length_append]
      exact Nat.add_left_cancel_iff
    rw [← ih (before ++ [b]) (by simp [hsplit])]
    simp only [hiff]
    rfl

/-- The receiver after all bytes of a frame but the CRC-16's (R177). -/
theorem receive_body {s : State} (hrun : s.power = .running) (hhunt : s.link.receiver.phase = .hunt) :
    runCommands (received (syncByte :: frameBody 0x01 seq kind payload)) s =
      .next (hold s .check (syncByte :: frameBody 0x01 seq kind payload)) := by
  have hbytes : syncByte :: frameBody 0x01 seq kind payload =
      [syncByte, 0x01, seq, kind, byteOf payload.length, byteOf (payload.length / 256)] ++ payload := rfl
  rw [hbytes, received, List.map_append, runCommands_append_of_next (receive_header hlen hrun hhunt)]
  have hphase : (if payload.length = 0 then ReceiverPhase.check else .payload) =
      if ([] : List Byte).length = payload.length then .check else .payload := by
    simp only [List.length_nil, eq_comm]
  rw [hphase]
  exact receive_payload hlen hrun [] payload rfl

omit hlen in
theorem frame_length (rest : List Byte) :
    (syncByte :: frameBody 0x01 seq kind payload ++ rest).length = 6 + payload.length + rest.length := by
  simp [frameBody, le16]; omega

/-- A whole frame carries its request with a matching CRC-16 (R174, R176). -/
theorem frame_complete :
    frameRequest (frameBytes 0x01 seq kind payload) = requestOf seq kind payload ∧
      crcMatches (frameBytes 0x01 seq kind payload) = true := by
  have hfull : headerLength (frameBytes 0x01 seq kind payload) = payload.length :=
    headerLength_frame hlen (payload ++ be16 (crc16 (frameBody 0x01 seq kind payload)))
  have hbody : ((frameBytes 0x01 seq kind payload).drop 1).take (5 + payload.length) =
      frameBody 0x01 seq kind payload := by
    have : (frameBody 0x01 seq kind payload).length = 5 + payload.length := by simp [frameBody, le16]; omega
    rw [frameBytes, List.cons_append, List.drop_one, List.tail_cons, ← this, List.take_left]
  have hrequest : frameRequest (frameBytes 0x01 seq kind payload) = requestOf seq kind payload := by
    unfold frameRequest requestOf
    rw [hfull, hbody]
    simp [frameBytes, frameBody, le16]
  refine ⟨hrequest, ?_⟩
  unfold crcMatches
  rw [hrequest, hfull, decide_eq_true_eq]
  have : (syncByte :: frameBody 0x01 seq kind payload).length = 6 + payload.length := by
    simp [frameBody, le16]; omega
  rw [frameBytes, ← this, List.drop_left]
  rfl

/-- The last byte of a frame decides its request in HUNT (R177, R182). -/
theorem receive_last {s : State} (hcheck : s.link.receiver.phase = .check)
    (hheld : s.link.receiver.held = syncByte :: frameBody 0x01 seq kind payload ++
      [byteOf ((crc16 (frameBody 0x01 seq kind payload)).toNat / 256)]) :
    receiveByte (byteOf (crc16 (frameBody 0x01 seq kind payload)).toNat) s =
      goodFrame (ownerOf kind) (followUp kind) (requestOf seq kind payload) (hunt s) := by
  have hframe : s.link.receiver.held ++ [byteOf (crc16 (frameBody 0x01 seq kind payload)).toNat] =
      frameBytes 0x01 seq kind payload := by
    rw [hheld, List.append_assoc]
    rfl
  obtain ⟨hrequest, hcrc⟩ := frame_complete (seq := seq) (kind := kind) hlen
  have hfull : headerLength (frameBytes 0x01 seq kind payload) = payload.length :=
    headerLength_frame hlen (payload ++ be16 (crc16 (frameBody 0x01 seq kind payload)))
  have hsize : (frameBytes 0x01 seq kind payload).length = 8 + payload.length := by
    rw [frameBytes, frame_length]
    simp [be16]; omega
  rw [receiveByte_of_full_length hcheck (by rw [hframe, hfull, hsize]), hframe, frameEnds, if_pos hcrc, hrequest]
  rfl

end Frame

theorem requestFor_eq {c : Instr} {rq : Request} (h : requestFor c = some rq) :
    rq = requestOf rq.key.seq rq.kind rq.payload := by
  cases c <;> cases h <;> rfl

/-- Settles O10: the receiver walks through the frame's bytes and decides its request in HUNT, as the command
does. -/
theorem frameBytesAreTheRequest : Obligations.FrameBytesAreTheRequest := by
  unfold Obligations.FrameBytesAreTheRequest
  intro c rq s hrq hlen hrun hhunt body crc s'
  have hwhole := requestFor_eq hrq
  have hexec {u : State} (hu : u.receives = true) :
      exec c u = .next (goodFrame (ownerOf rq.kind) (followUp rq.kind) rq u) := by
    rw [exec_request hrq, request, if_pos hu]
  have hbody := receive_body (seq := rq.key.seq) (kind := rq.kind) hlen hrun hhunt
  have hcheck : receiveByte (byteOf (crc.toNat / 256)) (hold s .check (syncByte :: body)) =
      hold s .check (syncByte :: body ++ [byteOf (crc.toNat / 256)]) := by
    refine receiveByte_of_check rfl ?_
    have hfull : headerLength (syncByte :: body ++ [byteOf (crc.toNat / 256)]) = rq.payload.length :=
      headerLength_frame (seq := rq.key.seq) (kind := rq.kind) hlen (rq.payload ++ [byteOf (crc.toNat / 256)])
    rw [hold_receiver]
    dsimp only
    rw [hfull, frame_length]
    simp
    omega
  have hlast {u : State} (hu : u.link.receiver.phase = .check)
      (hheld : u.link.receiver.held = syncByte :: body ++ [byteOf (crc.toNat / 256)]) :
      receiveByte (byteOf crc.toNat) u =
        goodFrame (ownerOf rq.kind) (followUp rq.kind) rq (hunt u) := by
    have := receive_last hlen hu hheld
    rwa [← hwhole] at this
  have hs' : exec c s' = .next (goodFrame (ownerOf rq.kind) (followUp rq.kind) rq s') :=
    hexec (by simp [State.receives, s', hrun])
  have hheld : runCommands (received ((0xA7 : Byte) :: body) ++ [.byteReceived (byteOf (crc.toNat / 256)) .high])
      s = .next (hold s .check (syncByte :: body ++ [byteOf (crc.toNat / 256)])) := by
    rw [runCommands_append_of_next (by exact hbody),
      runCommands_cons_of_next (exec_byteReceived (by exact hrun) _), hcheck]
    rfl
  refine ⟨?_, ?_, fun u hurun hucheck huheld => ?_⟩
  · rw [hs', show ∀ x y : Instr, [x, y] = [x] ++ [y] from fun _ _ => rfl, ← List.append_assoc,
      runCommands_append_of_next hheld, runCommands_cons_of_next (exec_frameComplete (by exact hrun) _),
      hlast rfl rfl]
    rfl
  · have hsplit : frameBytes 0x01 rq.key.seq rq.kind rq.payload =
        (0xA7 : Byte) :: body ++ [byteOf (crc.toNat / 256)] ++ [byteOf crc.toNat] := by
      rw [List.append_assoc]
      rfl
    rw [hs', hsplit, List.map_append, List.map_append, runCommands_append_of_next (by exact hheld)]
    simp only [List.map_cons, List.map_nil]
    rw [runCommands_cons_of_next (exec_byteReceived (by exact hrun) _), hlast rfl rfl]
    rfl
  · obtain ⟨hreceiver, hcrc⟩ := goodFrame_stays rq.kind rq (hunt u)
    refine ⟨goodFrame (ownerOf rq.kind) (followUp rq.kind) rq (hunt u), ?_, ?_, hreceiver, hcrc⟩
    · rw [exec_frameComplete hurun, hlast hucheck huheld]
    · exact hexec (by simp [State.receives, hurun])

end Sys2Proof.Machine
end

section
/-! PROOF. Requests the link has already, requests of unknown kinds, and the transmitter's choice (R182, R185,
R187, R188, R198). -/

namespace Sys2Proof.Machine

/-! ### Repeats and full slots -/

theorem Link.addUnslotted_of_room {l : Link} (h : l.replies.countP WaitingReply.unslotted < 4)
    (reply : WaitingReply) : l.addUnslotted reply = { l with replies := l.replies ++ [reply] } := by
  refine if_neg fun hfull => ?_
  have hfull : 4 ≤ l.replies.countP WaitingReply.unslotted := of_decide_eq_true hfull
  omega

theorem Link.addUnslotted_of_full {l : Link} (h : 4 ≤ l.replies.countP WaitingReply.unslotted)
    (reply : WaitingReply) : l.addUnslotted reply = l := if_pos (decide_eq_true h)

/-- A request frame that arrives while the transmitter is busy is decided at once (R182, R188). -/
theorem exec_request_of_busy {c : Instr} {rq : Request} {s t : State} (hrq : requestFor c = some rq)
    (hreceives : s.receives = true) (hbusy : s.link.tx.isSome = true)
    (h : decideFrame (ownerOf rq.kind) (followUp rq.kind) rq s = t) (ht : t.link.tx = s.link.tx) :
    exec c s = .next t := by
  rw [exec_request hrq, request, if_pos hreceives, goodFrame, choose_busy hbusy, h,
    choose_busy (by rwa [ht])]

/-- Settles O11: the rows of R182 in their order, each with a busy transmitter, which keeps what it sends. -/
theorem repeatsAndFullSlots : Obligations.RepeatsAndFullSlots := by
  unfold Obligations.RepeatsAndFullSlots
  intro c rq s hrq hreceives hbusy
  refine ⟨fun e he => ?_, fun hnone => ⟨fun hslot => ?_, fun hslot hfull => ?_⟩⟩
  · have hdecide : decideFrame (ownerOf rq.kind) (followUp rq.kind) rq s =
        if s.link.replies.any (WaitingReply.answers rq.key) then s
        else s.withLink (s.link.addUnslotted (.resend rq.key e.frame)) := by
      simp only [decideFrame, he]
    refine ⟨fun hwaits => exec_request_of_busy hrq hreceives hbusy (by rw [hdecide, if_pos hwaits]) rfl,
      fun hwaits hroom => exec_request_of_busy hrq hreceives hbusy ?_ rfl,
      fun hfull => exec_request_of_busy hrq hreceives hbusy ?_ rfl⟩
    · rw [hdecide, if_neg (by simp [hwaits]), Link.addUnslotted_of_room hroom]
    · rw [hdecide, Link.addUnslotted_of_full hfull]
      exact ite_self s
  · exact exec_request_of_busy hrq hreceives hbusy (by simp only [decideFrame, hnone, if_pos hslot]) rfl
  · have hdecide : decideFrame (ownerOf rq.kind) (followUp rq.kind) rq s =
        s.withLink { s.link.addUnslotted (.refusal (noSlotFrame rq s.link.serial)) with
          serial := s.link.serial + 1 } := by
      simp only [decideFrame, hnone]
      rw [if_neg (by simp [hslot]), if_neg (by simpa [Config.requestSlots] using hfull)]
    refine ⟨fun hroom => exec_request_of_busy hrq hreceives hbusy ?_ rfl,
      fun hfull' => exec_request_of_busy hrq hreceives hbusy ?_ rfl⟩
    · rw [hdecide, Link.addUnslotted_of_room hroom]
      rfl
    · rw [hdecide, Link.addUnslotted_of_full hfull']

/-- A frame whose request the link knows changes the reply list and no more (R182, R187). -/
theorem decideFrame_of_known (owner : Owner) (after : State → State) {rq : Request} {s : State}
    (h : (s.link.cached? rq.key).isSome = true ∨ s.link.inSlot rq.key = true) :
    RequestKeeps [] s (decideFrame owner after rq s) ∧
      (decideFrame owner after rq s).link.cache = s.link.cache := by
  have hsame : RequestKeeps [] s s ∧ s.link.cache = s.link.cache :=
    ⟨⟨.refl _ _, .refl _, .refl _⟩, rfl⟩
  unfold decideFrame
  cases hcached : s.link.cached? rq.key with
  | some e =>
    dsimp only
    split
    · exact hsame
    · have hlink : LinkAside s (s.withLink (s.link.addUnslotted (.resend rq.key e.frame))) ∧
          (s.link.addUnslotted (.resend rq.key e.frame)).cache = s.link.cache := by
        unfold LinkAside Link.addUnslotted
        simp only [State.withLink_link]
        split <;> exact ⟨⟨rfl, rfl, rfl, rfl, rfl⟩, rfl⟩
      refine ⟨⟨?_, hlink.1, ⟨rfl, rfl⟩⟩, hlink.2⟩
      intro p hp; cases p <;> first | rfl | simp at hp
  | none =>
    rw [hcached] at h
    have hslot : s.link.inSlot rq.key = true := h.resolve_left (by simp)
    dsimp only
    rw [if_pos hslot]
    exact hsame

theorem RequestKeeps.trans {c : List Part} {s t u : State} (h : RequestKeeps c s t) (h' : RequestKeeps c t u) :
    RequestKeeps c s u := ⟨h.1.trans h'.1, h.2.1.trans h'.2.1, h.2.2.trans h'.2.2⟩

theorem choose_requestKeeps (s : State) : RequestKeeps [] s (choose s) :=
  ⟨(choose_keeps s).1, (choose_keeps s).2.1, (choose_keeps s).2.2.1⟩

/-- Settles O12: the decision of a known request lies between two choices of the transmitter. -/
theorem repeatsExecuteNothing : Obligations.RepeatsExecuteNothing := by
  unfold Obligations.RepeatsExecuteNothing
  intro c rq s hrq hreceives hknown
  have hcache (u : State) : (choose u).link.cache = u.link.cache := (choose_keeps u).2.2.2.1
  have hknown' : ((choose s).link.cached? rq.key).isSome = true ∨ (choose s).link.inSlot rq.key = true := by
    rwa [Link.cached?, hcache]
  obtain ⟨hkeeps, hdecided⟩ := decideFrame_of_known (ownerOf rq.kind) (followUp rq.kind) hknown'
  refine ⟨goodFrame (ownerOf rq.kind) (followUp rq.kind) rq s, ?_, ?_, ?_⟩
  · rw [exec_request hrq, request, if_pos hreceives]
  · exact ((choose_requestKeeps s).trans hkeeps).trans (choose_requestKeeps _)
  · rw [goodFrame, hcache, hdecided, hcache]

/-! ### Unknown kinds -/

theorem ownerOf_of_unknown {kind : Byte} (h : knownKinds.contains kind = false) :
    ownerOf kind = answering unknownRequest ∧ followUp kind = id := by
  simp only [knownKinds, List.contains_eq_mem, List.mem_cons, List.not_mem_nil, or_false,
    decide_eq_false_iff_not, not_or] at h
  obtain ⟨h1, h2, h3, h4, h5, h6, h7, h8, h9, h10, h11, h12, h13, h14, h15, h16, h17, h18, h19, h20, h21⟩ := h
  constructor
  · simp only [ownerOf, h1, h2, h3, h4, h5, h6, h7, h8, h9, h10, h11, h12, h13, h14, h15, h16, h17, h18, h19,
      h20, h21, if_false]
  · exact if_neg h18

/-- Settles O13: the link's own answer is the owner's that only reads. -/
theorem unknownKindIsAnswered : Obligations.UnknownKindIsAnswered := by
  unfold Obligations.UnknownKindIsAnswered
  intro seq kind payload s hkind htakes
  obtain ⟨howner, hafter⟩ := ownerOf_of_unknown hkind
  refine ⟨request (answering unknownRequest) id (requestOf seq kind payload) s, ?_,
    reading_request unknownRequest htakes rfl⟩
  show Host.Outcome.next (request (ownerOf kind) (followUp kind) (requestOf seq kind payload) s) = _
  rw [howner, hafter]

/-! ### The transmitter's choice -/

theorem choose_of_reply {s : State} (hrun : s.power = .running) (htx : s.link.tx = none) {entry : WaitingReply}
    {rest : List WaitingReply} (hreplies : s.link.replies = entry :: rest) :
    choose s = s.withLink { s.link with
      replies := rest, slots := freeSlot s.link.slots entry,
      tx := (entry.frame? s.link.slots).map TxFrame.reply } := by
  unfold choose
  rw [if_neg (not_not.mpr hrun)]
  simp only [htx, hreplies]

theorem choose_of_offer {s : State} (hrun : s.power = .running) (htx : s.link.tx = none)
    (hreplies : s.link.replies = []) {n : Notice}
    (hoffer : s.notices.offer s.clock (resendMicros s.settings) = some n) :
    choose s = (s.withLink { s.link with
      tx := some (.notice { number := n.number, revision := n.revision, content := n.content }) }).withNotices
        (s.notices.beginSending n.number s.clock) := by
  unfold choose
  rw [if_neg (not_not.mpr hrun)]
  simp only [htx, hreplies, hoffer]

theorem choose_of_nothing {s : State} (hreplies : s.link.replies = [])
    (hoffer : s.notices.offer s.clock (resendMicros s.settings) = none) : choose s = s := by
  unfold choose
  simp only [hreplies, hoffer]
  split
  · rfl
  · split <;> rfl

/-- Among entries of different numbers, the transmitter marks the one that it begins to send (R198). -/
theorem beginSending_split {q : NoticeQueue} {before after : List Notice} {n : Notice}
    (hsplit : q.entries = before ++ n :: after) (hn : (q.entries.map Notice.number).Nodup) (clock : Nat) :
    q.beginSending n.number clock =
      { q with entries := before ++ { n with sent := true, lastSending := some clock } :: after } := by
  rw [hsplit, List.map_append, List.map_cons, List.nodup_append] at hn
  obtain ⟨-, hafter, hbefore⟩ := hn
  have hleave (l : List Notice) (h : ∀ m ∈ l, m.number ≠ n.number) :
      l.map (fun m => if m.number = n.number then { m with sent := true, lastSending := some clock } else m) =
        l := by
    conv_rhs => rw [← List.map_id l]
    exact List.map_congr_left fun m hm => if_neg (h m hm)
  unfold NoticeQueue.beginSending
  rw [hsplit, List.map_append, List.map_cons, if_pos rfl,
    hleave before fun m hm => hbefore _ (List.mem_map_of_mem hm) _ List.mem_cons_self,
    hleave after fun m hm hmn => (List.nodup_cons.mp hafter).1 (hmn ▸ List.mem_map_of_mem hm)]

theorem find_split {α : Type} {p : α → Bool} {before after : List α} {a : α} (hbefore : ∀ x ∈ before, p x = false)
    (ha : p a = true) : (before ++ a :: after).find? p = some a := by
  rw [List.find?_append, List.find?_eq_none.mpr fun x hx => by simp [hbefore x hx]]
  simp [ha]

/-- The queue offers its first unsent entry (R198). -/
theorem offer_unsent {q : NoticeQueue} {before after : List Notice} {n : Notice}
    (hsplit : q.entries = before ++ n :: after) (hbefore : ∀ m ∈ before, m.sent = true) (hn : n.sent = false)
    (clock interval : Nat) : q.offer clock interval = some n := by
  unfold NoticeQueue.offer
  rw [hsplit, find_split (fun m hm => by simp [hbefore m hm]) (by simp [hn])]

/-- With every entry sent, the queue offers the first one due (R198). -/
theorem offer_of_sent {q : NoticeQueue} (hsent : ∀ m ∈ q.entries, m.sent = true) (clock interval : Nat) :
    q.offer clock interval = q.entries.find? (Notice.due clock interval) := by
  unfold NoticeQueue.offer
  rw [List.find?_eq_none.mpr fun m hm => by simp [hsent m hm]]

/-- Settles O14: the frame that ends leaves the transmitter free, and it chooses by the reply list and by what
the notice queue offers. -/
theorem transmitterChoosesNext : Obligations.TransmitterChoosesNext := by
  unfold Obligations.TransmitterChoosesNext
  intro s hrun hbusy
  have hexec : exec .transmitFrameEnd s = .next (choose (s.withLink { s.link with tx := none })) :=
    congrArg Host.Outcome.next (if_pos (by simp [hbusy, (running_iff s).mpr hrun]))
  refine ⟨fun entry rest frame hreplies hframe => ?_, fun hreplies =>
    ⟨fun before n after hsplit hnumbers hnext => ?_, fun hnone => ?_⟩⟩
  · rw [hexec, choose_of_reply (by exact hrun) rfl (by exact hreplies)]
    simp only [State.withLink_link, hframe, Option.map_some]
    rfl
  · have hoffer : s.notices.offer s.clock (resendMicros s.settings) = some n := by
      rcases hnext with ⟨hbefore, hunsent⟩ | ⟨hsent, hbefore, hdue⟩
      · exact offer_unsent hsplit hbefore hunsent _ _
      · rw [offer_of_sent hsent, hsplit]
        exact find_split hbefore hdue
    rw [hexec, choose_of_offer (by exact hrun) rfl (by exact hreplies) (by exact hoffer)]
    have hmark := beginSending_split hsplit hnumbers s.clock
    simp only [State.withLink_notices, State.withLink_clock, hmark]
    rfl
  · have hoffer : s.notices.offer s.clock (resendMicros s.settings) = none := by
      rw [offer_of_sent fun m hm => (hnone m hm).1]
      exact List.find?_eq_none.mpr fun m hm => by
        rw [resendMicros, (hnone m hm).2]; exact Bool.false_ne_true
    rw [hexec, choose_of_nothing (by exact hreplies) (by exact hoffer)]

/-! ### The entry that falls due first -/

/-- How the search for the earliest due moment goes on at one entry (R198). -/
def earlierDue (interval : Nat) (best : Option Nat) (n : Notice) : Option Nat :=
  match n.sent, n.lastSending, best with
  | true, some t, some b => some (min b (t + interval))
  | true, some t, none => some (t + interval)
  | _, _, b => b

theorem nextDue_eq (q : NoticeQueue) (interval : Nat) :
    q.nextDue? interval = q.entries.foldl (earlierDue interval) none := rfl

/-- Later entries that fall due no earlier leave the moment found. -/
theorem foldl_earlierDue_of_le {interval b : Nat} {l : List Notice}
    (h : ∀ m ∈ l, m.sent = true ∧ ∃ t, m.lastSending = some t ∧ b ≤ t + interval) :
    l.foldl (earlierDue interval) (some b) = some b := by
  induction l with
  | nil => rfl
  | cons m rest ih =>
    obtain ⟨hsent, t, ht, hle⟩ := h m List.mem_cons_self
    rw [List.foldl_cons, show earlierDue interval (some b) m = some b by
      simp [earlierDue, hsent, ht, Nat.min_eq_left hle]]
    exact ih fun x hx => h x (List.mem_cons_of_mem _ hx)

/-- Entries that fall due later give no moment or a later one. -/
theorem foldl_earlierDue_of_lt {interval b : Nat} {l : List Notice}
    (h : ∀ m ∈ l, m.sent = true ∧ ∃ t, m.lastSending = some t ∧ b < t + interval) {best : Option Nat}
    (hbest : ∀ x ∈ best, b < x) : ∀ x ∈ l.foldl (earlierDue interval) best, b < x := by
  induction l generalizing best with
  | nil => exact hbest
  | cons m rest ih =>
    obtain ⟨hsent, t, ht, hlt⟩ := h m List.mem_cons_self
    refine ih (fun x hx => h x (List.mem_cons_of_mem _ hx)) fun x hx => ?_
    cases best with
    | none =>
      simp only [earlierDue, hsent, ht, Option.mem_some_iff] at hx
      omega
    | some y =>
      have hy := hbest y rfl
      simp only [earlierDue, hsent, ht, Option.mem_some_iff] at hx
      omega

/-- Settles O15: the earliest moment is the notice's, which is then the first one due. -/
theorem resendSendsTheFirstDue : Obligations.ResendSendsTheFirstDue := by
  unfold Obligations.ResendSendsTheFirstDue
  intro s before n after t0 hrun htx hreplies hsplit hnumbers hsent hn hbefore hafter hclock
  set interval := s.settings.resendInterval * 1000 with hinterval
  have hmem {m : Notice} (h : m ∈ before ∨ m = n ∨ m ∈ after) : m.sent = true :=
    hsent m (by rw [hsplit]; simpa using h)
  have hnext : s.notices.nextDue? interval = some (t0 + interval) := by
    rw [nextDue_eq, hsplit, List.foldl_append, List.foldl_cons]
    have hearlier := foldl_earlierDue_of_lt (interval := interval) (b := t0 + interval) (l := before)
      (best := none) (fun m hm => by
        obtain ⟨t, ht, hlt⟩ := hbefore m hm
        exact ⟨hmem (.inl hm), t, ht, by omega⟩) (by simp)
    have hhere : earlierDue interval (before.foldl (earlierDue interval) none) n = some (t0 + interval) := by
      cases hbest : before.foldl (earlierDue interval) none with
      | none => simp [earlierDue, hmem (.inr (.inl rfl)), hn]
      | some y =>
        have := hearlier y hbest
        simp only [earlierDue, hmem (.inr (.inl rfl)), hn, Option.some.injEq]
        omega
    rw [hhere]
    refine foldl_earlierDue_of_le fun m hm => ?_
    obtain ⟨t, ht, hle⟩ := hafter m hm
    exact ⟨hmem (.inr (.inr hm)), t, ht, by omega⟩
  have hexec : exec .noticeResendDue s = .next (choose (s.advanceTo (t0 + interval))) := by
    refine congrArg Host.Outcome.next ?_
    rw [if_pos (by simp [htx, hreplies, (running_iff s).mpr hrun]), resendDue,
      show resendMicros s.settings = interval from rfl, hnext]
  have hadvanced : (s.advanceTo (t0 + interval)).clock = t0 + interval := max_eq_right hclock
  have hoffer : (s.advanceTo (t0 + interval)).notices.offer (s.advanceTo (t0 + interval)).clock
      (resendMicros (s.advanceTo (t0 + interval)).settings) = some n := by
    rw [hadvanced]
    show s.notices.offer _ interval = _
    rw [offer_of_sent hsent, hsplit]
    refine find_split (fun m hm => ?_) (by simp [Notice.due, hn])
    obtain ⟨t, ht, hlt⟩ := hbefore m hm
    simp only [Notice.due, ht]
    exact decide_eq_false (by omega)
  refine ⟨_, hexec, ?_⟩
  rw [choose_of_offer (by exact hrun) (by exact htx) (by exact hreplies) hoffer]
  refine ⟨?_, hadvanced, rfl, ?_⟩
  · intro p hp; cases p <;> first | rfl | simp at hp
  · rw [State.withNotices_notices]
    exact congrArg NoticeQueue.entries (beginSending_split hsplit hnumbers _)

end Sys2Proof.Machine
end

section
/-! PROOF. HELLO, STATUS, CONFIG and NOTICE_ACK (R200, R202, R205 to R209): each owner on the state in which its
request is taken. -/

namespace Sys2Proof.Machine

/-! ### The state in which a request is taken -/

/-- The state in which the link hands a taken request to its owner. -/
abbrev taken (rq : Request) (s : State) : State := takeSlot rq (choose s)

theorem taken_assets (rq : Request) (s : State) : (taken rq s).assets = s.assets :=
  taken_keeps rq s .assets (by decide)

theorem taken_settings (rq : Request) (s : State) : (taken rq s).settings = s.settings :=
  taken_keeps rq s .settings (by decide)

theorem taken_sensors (rq : Request) (s : State) : (taken rq s).sensors = s.sensors :=
  taken_keeps rq s .sensors (by decide)

theorem taken_ring (rq : Request) (s : State) : (taken rq s).ring = s.ring :=
  taken_keeps rq s .ring (by decide)

theorem taken_engine (rq : Request) (s : State) : (taken rq s).engine = s.engine :=
  taken_keeps rq s .engine (by decide)

theorem taken_conditions (rq : Request) (s : State) : (taken rq s).conditions = s.conditions := by
  simp only [State.conditions, taken_sensors]

theorem taken_asset? (rq : Request) (s : State) (id : Nat) : (taken rq s).asset? id = s.asset? id := by
  simp only [State.asset?, taken_assets]

theorem taken_headPage? (rq : Request) (s : State) : (taken rq s).headPage? = s.headPage? := by
  simp only [State.headPage?, taken_composer, show (taken rq s).page? = s.page? from funext (taken_page? rq s)]

theorem taken_cursor? (rq : Request) (s : State) : (taken rq s).cursor? = s.cursor? := by
  simp only [State.cursor?, taken_headPage?, taken_feed]

/-- The link's receiver, counters and rate in that state. -/
theorem taken_linkAside (rq : Request) (s : State) : LinkAside s (taken rq s) := (choose_keeps s).2.1

/-- A taken request whose owner answers at once, leaving the link and what the notices say: it is answered, and
the state is the owner's but for the link's own lists. -/
theorem effect_request {rq : Request} {s t : State} {status : Status} {results : Results} {changed : List Part}
    (f : Request → State → State × Status × Results) (h : Takes rq s) (hf : f rq (taken rq s) = (t, status, results))
    (hkeeps : Keeps (.notices :: changed) (taken rq s) t) (hlink : .link ∉ changed) (hpower : .power ∉ changed)
    (hnotices : NoticesAside (taken rq s) t) :
    ∃ u, request (answering f) id rq s = u ∧ Answered rq status results s u ∧ RequestKeeps changed s u ∧
      Keeps [.link, .notices] t u := by
  have hpowered : t.power = s.power := (hkeeps .power (by simp [hpower])).trans (choose_power s)
  obtain ⟨u, hu, hanswered, hsame, haside, hnotes, -⟩ :=
    answered_request f h hf (hkeeps .link (by simp [hlink])) hpowered
  have hsub : ∀ p ∈ [Part.link, .notices], p ∈ Part.link :: .notices :: changed := by
    intro p hp; simp at hp; rcases hp with rfl | rfl <;> simp
  have hsub' : ∀ p ∈ Part.notices :: changed, p ∈ Part.link :: .notices :: changed :=
    fun p hp => List.mem_cons_of_mem _ hp
  exact ⟨u, hu, hanswered,
    ⟨(((taken_keeps rq s).weaken hsub).trans (hkeeps.weaken hsub')).trans (hsame.weaken hsub), haside,
      ((taken_notices rq s).trans hnotices).trans hnotes⟩, hsame⟩

/-- The same for an owner that does not touch the notices. -/
theorem effect_request_of_keeps {rq : Request} {s t : State} {status : Status} {results : Results}
    {changed : List Part} (f : Request → State → State × Status × Results) (h : Takes rq s)
    (hf : f rq (taken rq s) = (t, status, results)) (hkeeps : Keeps changed (taken rq s) t)
    (hlink : .link ∉ changed) (hnotices : .notices ∉ changed) (hpower : .power ∉ changed) :
    ∃ u, request (answering f) id rq s = u ∧ Answered rq status results s u ∧ RequestKeeps changed s u ∧
      Keeps [.link, .notices] t u :=
  effect_request f h hf (hkeeps.weaken fun _ hp => List.mem_cons_of_mem _ hp) hlink hpower
    (by rw [NoticesAside, hkeeps .notices hnotices]; exact ⟨rfl, rfl⟩)

/-! ### HELLO -/

/-- A transmitter for which a reply waits leaves the notices. -/
theorem choose_notices_of_replies {s : State} (h : s.link.replies ≠ []) : (choose s).notices = s.notices := by
  unfold choose
  split
  · rfl
  · split
    · rfl
    · split
      · rfl
      · exact absurd ‹_› h

/-- An answered request's own reply waits when the transmitter chooses, so no notice leaves before it. -/
theorem request_answered_notices {rq : Request} {s t : State} {status : Status} {results : Results}
    (f : Request → State → State × Status × Results) (h : Takes rq s)
    (hf : f rq (taken rq s) = (t, status, results)) :
    (request (answering f) id rq s).notices = t.notices := by
  rw [request_answered f id h hf]
  exact choose_notices_of_replies (by simp [completeReply, Link.complete])

theorem resendAll_faces (q : NoticeQueue) : q.resendAll.entries.map Notice.face = q.entries.map Notice.face := by
  simp [NoticeQueue.resendAll, Function.comp_def, Notice.face]

/-- Settles O17: the owner answers the identity, and with the flag it marks every entry unsent. -/
theorem helloAnswersIdentity : Obligations.HelloAnswersIdentity := by
  unfold Obligations.HelloAnswersIdentity
  intro seq flags s hflags htakes
  obtain ⟨-, -, -, -, hrate⟩ := taken_linkAside (requestOf seq 0x01 [flags]) s
  set rq := requestOf seq 0x01 [flags] with hrq
  have howner : helloRequest rq (taken rq s) =
      (if flags = 1 then (taken rq s).withNotices (taken rq s).notices.resendAll else taken rq s, .ok,
        .hello flags (Config.identity s.link.rate)) := by
    rw [← hrate]
    exact if_neg (Nat.not_lt.mpr hflags)
  obtain ⟨u, hu, hanswered, hkeeps, -⟩ := effect_request (changed := []) helloRequest htakes howner
    (by split
        · intro p hp; cases p <;> first | rfl | simp at hp
        · exact .refl _ _)
    (by simp) (by simp)
    (by split
        · exact ⟨rfl, resendAll_faces _⟩
        · exact .refl _)
  refine ⟨u, congrArg Host.Outcome.next hu, hanswered, hkeeps, fun hresend n hn => ?_⟩
  have hnotices := request_answered_notices helloRequest htakes howner
  rw [hu, if_pos hresend] at hnotices
  rw [hnotices] at hn
  obtain ⟨m, -, rfl⟩ := List.mem_map.mp hn
  rfl

/-! ### STATUS -/

theorem hostMotion_isSome (st : FeedState) : st.hostMotion?.isSome = st.motionKey?.isSome := by
  cases st <;> rfl

/-- Settles O18: the snapshot reads blocks that the link's taking of the request leaves. -/
theorem statusIsOneSnapshot : Obligations.StatusIsOneSnapshot := by
  unfold Obligations.StatusIsOneSnapshot
  intro seq s htakes
  obtain ⟨-, hcrc, hheader, htimeout, -⟩ := taken_linkAside (requestOf seq 0x02 []) s
  have hnotices : (taken (requestOf seq 0x02 []) s).notices.entries.length = s.notices.entries.length := by
    simpa using congrArg List.length (taken_notices (requestOf seq 0x02 []) s).2
  have hcursor := taken_cursor? (requestOf seq 0x02 []) s
  obtain ⟨hanswered, hkeeps⟩ := reading_request statusRequest htakes rfl
  refine ⟨_, rfl, ?_, hkeeps⟩
  have hslots : (taken (requestOf seq 0x02 []) s).link.slots.length = (choose s).link.slots.length + 1 := by
    simp [takeSlot]
  change Answered _ .ok (.status (taken (requestOf seq 0x02 []) s).snapshot) _ _ at hanswered
  simp only [State.snapshot, State.feedReport, taken_feed, taken_conditions, taken_composer, taken_assets,
    taken_settings, hcursor, hcrc, hheader, htimeout, hnotices, hslots, hostMotion_isSome] at hanswered
  exact hanswered

/-! ### CONFIG -/

/-- A 2-byte field of a payload is the number it was built from (R174). -/
theorem le16_value {n : Nat} (h : n ≤ 65535) : (byteOf n).toNat + 256 * (byteOf (n / 256)).toNat = n := by
  simp only [byteOf, BitVec.toNat_ofNat]
  omega

theorem Field.code_lt (f : Field) : f.code < 256 := by cases f <;> decide

theorem Field.ofCode_code (f : Field) : Field.ofCode f.code = some f := by cases f <;> rfl

theorem Field.code_injective : Function.Injective Field.code := fun f g h =>
  Option.some.inj (by rw [← f.ofCode_code, h, g.ofCode_code])

theorem Field.accepts_le {f : Field} {v : Nat} (h : f.accepts v = true) : v ≤ 65535 := by
  cases f <;> simp [Field.accepts, inRange] at h <;> omega

/-- A CONFIG payload reads as the fields that it was built from (R208). -/
theorem configEntries_payload {fields : List (Field × Nat)} (h : ∀ e ∈ fields, e.1.accepts e.2 = true) :
    configEntries (configPayload fields) = fields.map fun e => (e.1.code, e.2) := by
  induction fields with
  | nil => rfl
  | cons e rest ih =>
    have hrest := ih fun x hx => h x (List.mem_cons_of_mem _ hx)
    have hvalue := le16_value (Field.accepts_le (h e List.mem_cons_self))
    have hcode : (byteOf e.1.code).toNat = e.1.code := by
      rw [byteOf, BitVec.toNat_ofNat, Nat.mod_eq_of_lt e.1.code_lt]
    simp only [configPayload, List.flatMap_cons, le16, List.cons_append, List.nil_append, configEntries, hcode,
      hvalue, List.map_cons] at hrest ⊢
    rw [hrest]

theorem configPayload_length (fields : List (Field × Nat)) :
    (configPayload fields).length = 3 * fields.length := by
  induction fields with
  | nil => rfl
  | cons e rest ih =>
    simp only [configPayload, le16, List.flatMap_cons, List.length_append, List.length_cons,
      List.length_nil] at ih ⊢
    omega

/-- Check 2 passes different fields with values of their ranges (R208). -/
theorem checkEntries_of_accepts {fields : List (Field × Nat)} {seen : List Nat}
    (hn : (fields.map Prod.fst).Nodup) (hseen : ∀ e ∈ fields, e.1.code ∉ seen)
    (h : ∀ e ∈ fields, e.1.accepts e.2 = true) :
    checkEntries seen (fields.map fun e => (e.1.code, e.2)) = .ok fields := by
  induction fields generalizing seen with
  | nil => rfl
  | cons e rest ih =>
    rw [List.map_cons, List.nodup_cons] at hn
    have hrest := ih (seen := e.1.code :: seen) hn.2
      (fun x hx hmem => (List.mem_cons.mp hmem).elim
        (fun hcode => hn.1 (Field.code_injective hcode ▸ List.mem_map_of_mem hx))
        (hseen x (List.mem_cons_of_mem _ hx)))
      fun x hx => h x (List.mem_cons_of_mem _ hx)
    have hpass : (seen.contains e.1.code || !e.1.accepts e.2) = false := by
      simp [hseen e List.mem_cons_self, h e List.mem_cons_self]
    simp only [List.map_cons, checkEntries, Field.ofCode_code, hpass, hrest]
    rfl

/-- There are seven fields. -/
theorem fields_length_le {fields : List (Field × Nat)} (hn : (fields.map Prod.fst).Nodup) :
    fields.length ≤ 7 := by
  have hsub : fields.map Prod.fst ⊆ [.printWidth, .mediaMode, .topOffset, .tearOffset, .searchLimit, .lineRate,
      .resendInterval] := by
    intro f _
    cases f <;> simp
  simpa using (List.subperm_of_subset hn hsub).length_le

/-- CONFIG with the payload of different fields in their ranges passes checks 1 and 2 (R208). -/
theorem configRequest_payload {fields : List (Field × Nat)} (hne : fields ≠ [])
    (hn : (fields.map Prod.fst).Nodup) (h : ∀ e ∈ fields, e.1.accepts e.2 = true) {rq : Request}
    (hrq : rq.payload = configPayload fields) (s : State) : configRequest rq s = configure fields s := by
  have hlen := configPayload_length fields
  have hseven := fields_length_le hn
  have hpos := List.length_pos_iff.mpr hne
  unfold configRequest
  dsimp only
  rw [hrq, configEntries_payload h, checkEntries_of_accepts hn (fun _ _ => List.not_mem_nil) h, if_neg]
  simp only [hlen, Bool.or_eq_true, decide_eq_true_eq, not_or]
  omega

theorem mediaModeOf_code {v : Nat} (h : v ≤ 2) : modeCode (mediaModeOf v) = v := by
  match v, h with
  | 0, _ | 1, _ | 2, _ => rfl

theorem Field.value_assign {f : Field} {v : Nat} (h : f.accepts v = true) (c : Settings) :
    f.value (f.assign v c) = v := by
  cases f with
  | mediaMode =>
    simp only [Field.accepts, inRange, Bool.and_eq_true, decide_eq_true_eq] at h
    exact mediaModeOf_code h.2
  | printWidth | topOffset | tearOffset | searchLimit | lineRate | resendInterval => rfl

theorem Field.value_assign_ne {f g : Field} (h : g ≠ f) (v : Nat) (c : Settings) :
    g.value (f.assign v c) = g.value c := by
  cases f <;> cases g <;> first | rfl | exact absurd rfl h

/-- Fields set together: a field that is not named keeps its value, and a named one takes its own (R209). -/
theorem value_assignAll_of_not_mem {fields : List (Field × Nat)} {f : Field} (h : f ∉ fields.map Prod.fst)
    (c : Settings) : f.value (assignAll fields c) = f.value c := by
  induction fields generalizing c with
  | nil => rfl
  | cons e rest ih =>
    rw [List.map_cons, List.mem_cons, not_or] at h
    exact (ih h.2 _).trans (Field.value_assign_ne h.1 _ _)

theorem value_assignAll {fields : List (Field × Nat)} (hn : (fields.map Prod.fst).Nodup)
    (h : ∀ e ∈ fields, e.1.accepts e.2 = true) (c : Settings) :
    ∀ e ∈ fields, e.1.value (assignAll fields c) = e.2 := by
  induction fields generalizing c with
  | nil => simp
  | cons e rest ih =>
    rw [List.map_cons, List.nodup_cons] at hn
    refine List.forall_mem_cons.mpr
      ⟨?_, ih hn.2 (fun x hx => h x (List.mem_cons_of_mem _ hx)) _⟩
    exact (value_assignAll_of_not_mem hn.1 _).trans (Field.value_assign (h e List.mem_cons_self) c)

/-- The first feed field is none when only the resend interval is named (R208). -/
theorem firstFeedField_none {fields : List (Field × Nat)} (h : ∀ e ∈ fields, e.1 = .resendInterval) :
    firstFeedField? fields = none := by
  unfold firstFeedField?
  rw [List.find?_eq_none.mpr fun e he => by simp [h e he]]
  rfl

/-- CONFIG takes effect: the fields are set together, and a new media mode makes the pitch 0 (R130, R209). -/
theorem configure_of_allowed {fields : List (Field × Nat)} {s : State}
    (hstate : s.feed.state = .idle ∨ ∀ e ∈ fields, e.1 = .resendInterval)
    (hwidth : s.composer.pages = [] ∨ ∀ e ∈ fields, e.1 = .printWidth → e.2 = s.settings.printWidth) :
    configure fields s =
      let c := assignAll fields s.settings
      let pitch := if c.mediaMode = s.settings.mediaMode then s.feed.pitch else 0
      ((s.withSettings c).onFeed fun f => { f with pitch := pitch }, .ok, .config none c (some pitch)) := by
  have hchange : (changesWidth fields s.settings && !s.composer.pages.isEmpty) = false := by
    rcases hwidth with h | h
    · simp [h]
    · have : changesWidth fields s.settings = false := by
        simpa [changesWidth] using h
      simp [this]
  unfold configure
  rcases hstate with h | h
  · simp only [h, hchange, decide_true]
    split
    · rename_i heq
      cases heq
    · rfl
  · simp only [firstFeedField_none h, hchange]
    rfl

/-- Settles O19: the payload passes the four checks, and the fields are set together. -/
theorem configSetsTheNamedFields : Obligations.ConfigSetsTheNamedFields := by
  unfold Obligations.ConfigSetsTheNamedFields
  intro seq fields s hne hnodup haccepts hstate hwidth htakes
  set rq := requestOf seq 0x03 (configPayload fields) with hrq
  have howner := (configRequest_payload hne hnodup haccepts (rq := rq) rfl (taken rq s)).trans
    (configure_of_allowed (by rw [taken_feed]; exact hstate)
      (by rw [taken_composer, taken_settings]; exact hwidth))
  obtain ⟨u, hu, hanswered, hkeeps, hsame⟩ := effect_request_of_keeps (changed := [.settings, .feed])
    configRequest htakes howner (by intro p hp; cases p <;> first | rfl | simp at hp)
    (by decide) (by decide) (by decide)
  have hsettings : u.settings = assignAll fields s.settings :=
    (hsame .settings (by decide)).trans (congrArg (assignAll fields) (taken_settings rq s))
  have hfeed : u.feed = { s.feed with
      pitch := if u.settings.mediaMode = s.settings.mediaMode then s.feed.pitch else 0 } := by
    refine (hsame .feed (by decide)).trans ?_
    simp only [State.onFeed_feed, State.withSettings_feed, taken_feed, taken_settings, hsettings]
  refine ⟨u, congrArg Host.Outcome.next hu, ?_, ?_, ?_, hfeed, hkeeps⟩
  · rw [hfeed, hsettings]
    simp only [taken_feed, taken_settings] at hanswered
    exact hanswered
  · rw [hsettings]
    exact value_assignAll hnodup haccepts _
  · intro f hf
    rw [hsettings]
    exact value_assignAll_of_not_mem hf _

/-- A CONFIG that is not answered OK leaves the state and reports a code with the fields as they are
(R208, R209). -/
theorem configRequest_refused (rq : Request) (s : State) (h : (configRequest rq s).2.1 ≠ .ok) :
    (configRequest rq s).1 = s ∧ ∃ code, (configRequest rq s).2.2 = .config (some code) s.settings none := by
  have hrefused (code : Nat) (status : Status) :
      ((s, status, refusedConfig code s) : State × Status × Results).1 = s ∧
        ∃ code', (s, status, refusedConfig code s).2.2 = .config (some code') s.settings none :=
    ⟨rfl, code, rfl⟩
  unfold configRequest at h ⊢
  dsimp only at h ⊢
  split
  · exact hrefused _ _
  · rename_i hlen
    rw [if_neg hlen] at h
    split
    · exact hrefused _ _
    · rename_i fields hfields
      simp only [hfields] at h
      unfold configure at h ⊢
      split
      · exact hrefused _ _
      · rename_i hstate
        split
        · exact hrefused _ _
        · exfalso
          revert h
          split
          · exact absurd ‹_› (hstate _ ‹_›)
          · rw [if_neg ‹_›]
            exact fun h => h rfl

/-- The link of a request's owner is not CONFIG's. -/
theorem configRequest_keeps (rq : Request) (s : State) :
    Keeps [.settings, .feed] s (configRequest rq s).1 := by
  have hwith (c f) : Keeps [.settings, .feed] s ((s.withSettings c).onFeed f) := by
    intro p hp; cases p <;> first | rfl | simp at hp
  unfold configRequest
  dsimp only
  split
  · exact .refl _ _
  · split
    · exact .refl _ _
    · unfold configure
      split
      · exact .refl _ _
      · split
        · exact .refl _ _
        · dsimp only
          exact hwith _ _

/-- The first feed field is the first named field that is not the resend interval (R208). -/
theorem firstFeedField_split {before after : List (Field × Nat)} {f : Field} {v : Nat}
    (hbefore : ∀ e ∈ before, e.1 = .resendInterval) (hf : f ≠ .resendInterval) :
    firstFeedField? (before ++ (f, v) :: after) = some f := by
  unfold firstFeedField?
  rw [find_split (fun e he => by simp [hbefore e he]) (by simpa using hf)]
  rfl

/-- Settles O20: every refusal of the owner, and the first feed field named outside IDLE. -/
theorem refusedConfigChangesNothing : Obligations.RefusedConfigChangesNothing := by
  unfold Obligations.RefusedConfigChangesNothing
  refine ⟨fun seq payload s htakes => ?_, fun seq before f v after s hf hbefore hnodup haccepts hstate htakes => ?_⟩
  · set rq := requestOf seq 0x03 payload with hrq
    obtain ⟨u, hu, hanswered, -⟩ := effect_request_of_keeps (changed := [.settings, .feed])
      (t := (configRequest rq (taken rq s)).1) (status := (configRequest rq (taken rq s)).2.1)
      (results := (configRequest rq (taken rq s)).2.2) configRequest htakes rfl (configRequest_keeps rq _) (by decide) (by decide) (by decide)
    refine ⟨u, _, _, congrArg Host.Outcome.next hu, hanswered, fun hstatus => ?_⟩
    obtain ⟨hstate, code, hresults⟩ := configRequest_refused rq (taken rq s) hstatus
    refine ⟨?_, code, by rw [hresults, taken_settings]⟩
    rw [← hu]
    exact (reading_request configRequest htakes hstate).2
  · set fields := before ++ (f, v) :: after with hfields
    set rq := requestOf seq 0x03 (configPayload fields) with hrq
    have howner : configRequest rq (taken rq s) = (taken rq s, .wrongState, refusedConfig f.code (taken rq s)) := by
      rw [configRequest_payload (by simp [hfields]) hnodup haccepts rfl, configure,
        firstFeedField_split hbefore hf, taken_feed, decide_eq_false hstate]
    obtain ⟨hanswered, hkeeps⟩ := reading_request configRequest htakes (by rw [howner])
    rw [howner, refusedConfig, taken_settings] at hanswered
    exact ⟨_, rfl, hanswered, hkeeps⟩

/-! ### NOTICE_ACK -/

/-- The entries that look the same are found under the same numbers. -/
theorem find_number_face {q q' : List Notice} (h : q.map Notice.face = q'.map Notice.face) (number : Byte) :
    (q.find? fun n => n.number = number).map Notice.face =
      (q'.find? fun n => n.number = number).map Notice.face := by
  have hface (l : List Notice) : (l.find? fun n => n.number = number).map Notice.face =
      (l.map Notice.face).find? fun x => x.1 = number := by
    rw [List.find?_map]
    rfl
  rw [hface, hface, h]

theorem filter_number_face {q q' : List Notice} (h : q.map Notice.face = q'.map Notice.face) (number : Byte) :
    (q.filter fun n => n.number ≠ number).map Notice.face =
      (q'.filter fun n => n.number ≠ number).map Notice.face := by
  have hface (l : List Notice) : (l.filter fun n => n.number ≠ number).map Notice.face =
      (l.map Notice.face).filter fun x => x.1 ≠ number := by
    rw [List.filter_map]
    rfl
  rw [hface, hface, h]

theorem word_append (revision : Word16) : (byteOf (revision.toNat / 256) ++ byteOf revision.toNat : Word16) = revision := by
  apply BitVec.eq_of_toNat_eq
  simp only [byteOf, BitVec.toNat_append, BitVec.toNat_ofNat]
  rw [← Nat.shiftLeft_add_eq_or_of_lt (by omega), Nat.shiftLeft_eq]
  have := revision.isLt
  omega

/-- The page entry that a removed notice frees, in terms of the notice's page (R21). -/
theorem pages_without_acked (pages : List Page) (n : Notice) :
    (match n.pageEndedId? with
      | some id => pages.filter fun p => !(decide (p.id = id) && decide (p.state = .ended))
      | none => pages) =
      pages.filter fun p => !(decide (some p.id = n.pageEndedId?) && decide (p.state = .ended)) := by
  cases n.pageEndedId? with
  | none => simp
  | some id => simp

/-- Settles O24: the three outcomes, by what the queue holds under the number. -/
theorem noticeAckRemovesOrRefuses : Obligations.NoticeAckRemovesOrRefuses := by
  unfold Obligations.NoticeAckRemovesOrRefuses
  intro seq number revision s rq htakes
  have hfaces := (taken_notices rq s).2
  have hfind := find_number_face hfaces number
  have howner : ackNotice rq (taken rq s) =
      match (taken rq s).notices.entries.find? (fun n => n.number = number) with
      | none => (taken rq s, .ok, .noticeAck number .notFound none 0 none)
      | some n =>
        if n.revision = revision then
          let removed := (taken rq s).withNotices { (taken rq s).notices with
            entries := (taken rq s).notices.entries.filter (fun m => m.number ≠ number) }
          match n.pageEndedId? with
          | some id =>
            (freePageEntry id removed, .ok,
              .noticeAck number .removed (some n.content.kind) n.revision (some id))
          | none => (removed, .ok, .noticeAck number .removed (some n.content.kind) n.revision none)
        else (taken rq s, .ok, .noticeAck number .stale (some n.content.kind) n.revision none) := by
    conv_rhs => rw [← word_append revision]
    rfl
  cases hs : s.notices.entries.find? fun n => n.number = number with
  | none =>
    rw [hs, Option.map_none, Option.map_eq_none_iff] at hfind
    rw [hfind] at howner
    obtain ⟨hanswered, hkeeps⟩ := reading_request ackNotice htakes (by rw [howner])
    rw [howner] at hanswered
    exact ⟨_, rfl, hanswered, hkeeps⟩
  | some n =>
    rw [hs, Option.map_some] at hfind
    obtain ⟨m, hm, hface⟩ := Option.map_eq_some_iff.mp hfind
    rw [hm] at howner
    simp only [Notice.face, Prod.mk.injEq] at hface
    obtain ⟨-, hrevision, hcontent⟩ := hface
    have hpage : m.pageEndedId? = n.pageEndedId? := by simp only [Notice.pageEndedId?, hcontent]
    simp only [hrevision, hcontent, hpage] at howner
    by_cases hmatch : n.revision = revision
    · rw [if_pos hmatch] at howner
      set removed := (taken rq s).withNotices { (taken rq s).notices with
        entries := (taken rq s).notices.entries.filter (fun m => m.number ≠ number) } with hremoved
      have howner' : ackNotice rq (taken rq s) =
          (match n.pageEndedId? with | some id => freePageEntry id removed | none => removed, .ok,
            .noticeAck number .removed (some n.content.kind) n.revision n.pageEndedId?) := by
        rw [howner]
        cases n.pageEndedId? <;> rfl
      obtain ⟨u, hu, hanswered, hsame, hlink, hnotices, -⟩ :=
        answered_request ackNotice htakes howner' (by cases n.pageEndedId? <;> rfl)
          (by cases n.pageEndedId? <;> exact choose_power s)
      refine ⟨u, congrArg Host.Outcome.next hu, ?_⟩
      simp only [hmatch, if_true] at hanswered ⊢
      refine ⟨hanswered, ?_, ?_, ?_⟩
      · refine hnotices.2.trans (Eq.trans ?_ (filter_number_face hfaces number))
        cases n.pageEndedId? <;> rfl
      · rw [hsame .composer (by decide), ← pages_without_acked]
        cases n.pageEndedId? with
        | none => exact taken_composer rq s
        | some id =>
          simp only [freePageEntry, State.withComposer_composer, removed, State.withNotices_composer,
            taken_composer]
      · have hown : Keeps [.link, .notices, .composer] (taken rq s)
            (match n.pageEndedId? with | some id => freePageEntry id removed | none => removed) := by
          cases n.pageEndedId? <;> (intro p hp; cases p <;> first | rfl | simp at hp)
        exact (((taken_keeps rq s).weaken (by decide)).trans hown).trans (hsame.weaken (by decide))
    · rw [if_neg hmatch] at howner
      obtain ⟨hanswered, hkeeps⟩ := reading_request ackNotice htakes (by rw [howner])
      rw [howner] at hanswered
      refine ⟨_, rfl, ?_⟩
      dsimp only
      rw [if_neg hmatch]
      exact ⟨hanswered, hkeeps⟩

end Sys2Proof.Machine
end

section
/-! PROOF. The requests of the asset store and PAGE_OPEN (R154 to R169, R1, R6): the payload's fields, one entry of
the table, and the owners. -/

namespace Sys2Proof.Machine

/-! ### Fields of a payload -/

theorem u16At_cons (a b : Byte) (rest : List Byte) : u16At (a :: b :: rest) 0 = a.toNat + 256 * b.toNat := rfl

theorem u16At_cons_succ (a : Byte) (rest : List Byte) (i : Nat) : u16At (a :: rest) (i + 1) = u16At rest i := rfl

/-- The first field of a payload that begins with a 2-byte field. -/
theorem u16At_le16_append {n : Nat} (h : n ≤ 65535) (rest : List Byte) : u16At (le16 n ++ rest) 0 = n :=
  le16_value h

theorem u16At_le16_skip (n : Nat) (rest : List Byte) (i : Nat) :
    u16At (le16 n ++ rest) (i + 2) = u16At rest i := rfl

/-- The first field of a payload that begins with a 4-byte field. -/
theorem u32At_le32_append {n : Nat} (h : n < 4294967296) (rest : List Byte) : u32At (le32 n ++ rest) 0 = n := by
  have hlow : u16At (le32 n ++ rest) 0 = n % 65536 := by
    simp only [le32, le16, List.cons_append, u16At_cons, byteOf, BitVec.toNat_ofNat]
    omega
  have hhigh : u16At (le32 n ++ rest) (0 + 2) = n / 65536 := by
    rw [le32, List.append_assoc, u16At_le16_skip]
    exact u16At_le16_append (by omega) rest
  rw [u32At, hlow, hhigh]
  omega

/-! ### One entry of the asset table -/

theorem find_changeAsset (id j : Nat) (f : Asset → Asset) (hf : ∀ a, (f a).id = a.id) (table : List Asset) :
    (changeAsset id f table).find? (fun a => a.id = j) =
      if j = id then (table.find? fun a => a.id = j).map f else table.find? fun a => a.id = j := by
  induction table with
  | nil => simp [changeAsset]
  | cons a rest ih =>
    simp only [changeAsset, List.map_cons] at ih ⊢
    by_cases ha : a.id = id
    · by_cases hj : j = id
      · subst hj
        simp [ha, hf]
      · have hne : a.id ≠ j := fun e => hj (e.symm.trans ha)
        rw [if_pos ha, List.find?_cons_of_neg (by simpa [hf] using hne), ih, if_neg hj, if_neg hj,
          List.find?_cons_of_neg (by simpa using hne)]
    · rw [if_neg ha]
      by_cases hj : a.id = j
      · rw [List.find?_cons_of_pos (by simpa using hj), List.find?_cons_of_pos (by simpa using hj),
          if_neg (fun h => ha (hj.trans h))]
      · rw [List.find?_cons_of_neg (by simpa using hj), List.find?_cons_of_neg (by simpa using hj), ih]

/-- The table with the entries of one id removed. -/
theorem find_removed (id j : Nat) (table : List Asset) :
    (table.filter fun a => !decide (a.id = id)).find? (fun a => a.id = j) =
      if j = id then none else table.find? fun a => a.id = j := by
  rw [List.find?_filter]
  split
  · rename_i h
    subst h
    exact List.find?_eq_none.mpr fun a _ => by simp
  · rename_i h
    congr 1
    funext a
    by_cases ha : a.id = j
    · simp [ha, h]
    · simp [ha]

/-- The blocks of one asset of a table of different ids (R154). -/
theorem blocksHeld_one {table : List Asset} (hn : (table.map Asset.id).Nodup) {a : Asset} (ha : a ∈ table) :
    blocksHeld (table.filter fun x => decide (x.id = a.id)) = a.blocks := by
  induction table with
  | nil => cases ha
  | cons b rest ih =>
    rw [List.map_cons, List.nodup_cons] at hn
    rcases List.mem_cons.mp ha with rfl | hmem
    · have hnone : rest.filter (fun x => decide (x.id = a.id)) = [] := by
        refine List.filter_eq_nil_iff.mpr fun x hx => ?_
        have hne : x.id ≠ a.id := fun h => hn.1 (h ▸ List.mem_map_of_mem hx)
        simpa using hne
      simp [hnone, blocksHeld]
    · have hne : b.id ≠ a.id := fun h => hn.1 (h ▸ List.mem_map_of_mem hmem)
      rw [List.filter_cons_of_neg (by simpa using hne)]
      exact ih hn.2 hmem

/-- An asset removed gives its blocks back, and no other changes (R154, R160, R165). -/
theorem dropAsset_effect {s : State} {a : Asset} (hfound : s.asset? a.id = some a)
    (hn : (s.assets.table.map Asset.id).Nodup) :
    (dropAsset a.id s).asset? a.id = none ∧ (∀ j, j ≠ a.id → (dropAsset a.id s).asset? j = s.asset? j) ∧
      (dropAsset a.id s).assets.freeBlocks = s.assets.freeBlocks + a.blocks := by
  have hasset (j : Nat) : (dropAsset a.id s).asset? j = if j = a.id then none else s.asset? j :=
    find_removed a.id j s.assets.table
  refine ⟨by rw [hasset, if_pos rfl], fun j hj => by rw [hasset, if_neg hj], ?_⟩
  show s.assets.freeBlocks + blocksHeld _ = _
  rw [blocksHeld_one hn (State.asset?_mem hfound)]

/-- One asset changed under its id. -/
theorem changeAsset_effect {s t : State} {id : Nat} {a : Asset} (hfound : s.asset? id = some a) (f : Asset → Asset)
    (hf : ∀ a, (f a).id = a.id) (ht : t.assets = { s.assets with table := changeAsset id f s.assets.table }) :
    t.asset? id = some (f a) ∧ (∀ j, j ≠ id → t.asset? j = s.asset? j) ∧
      t.assets.freeBlocks = s.assets.freeBlocks := by
  have hasset (j : Nat) : t.asset? j = if j = id then (s.asset? j).map f else s.asset? j := by
    rw [State.asset?, ht]
    exact find_changeAsset id j f hf s.assets.table
  exact ⟨by rw [hasset, if_pos rfl, hfound]; rfl, fun j hj => by rw [hasset, if_neg hj], by rw [ht]⟩

theorem blocksFor_eq (size : Nat) : blocksFor size = (size + 63) / 64 := rfl

/-! ### ASSET_BEGIN -/

/-- Settles O26: the payload's fields pass the checks in order. -/
theorem assetBeginReserves : Obligations.AssetBeginReserves := by
  unfold Obligations.AssetBeginReserves
  intro seq id kind w h size s code payload need hid hid' hw hh hgeometry hnew hroom hfree htakes
  set rq := requestOf seq 0x10 payload with hrq
  have hsize := geometryAgrees_size hgeometry
  have hpayload : rq.payload = le16 id ++ (code :: (le16 w ++ (le16 h ++ le32 size))) := by
    simp [hrq, requestOf, payload]
  have hlen : rq.payload.length = 11 := by rw [hpayload]; rfl
  have hidAt : u16At rq.payload 0 = id := by rw [hpayload, u16At_le16_append hid']
  have hcodeAt : AssetKind.ofCode (u8At rq.payload 2) = some kind := by
    rw [hpayload]
    cases kind <;> rfl
  have hwAt : u16At rq.payload 3 = w := by
    rw [hpayload, u16At_le16_skip _ _ 1, u16At_cons_succ, u16At_le16_append hw]
  have hhAt : u16At rq.payload 5 = h := by
    rw [hpayload, u16At_le16_skip _ _ 3, u16At_cons_succ, u16At_le16_skip _ _ 0, u16At_le16_append hh]
  have hsizeAt : u32At rq.payload 7 = size := by
    rw [hpayload]
    exact (List.append_nil (le32 size) ▸ u32At_le32_append (by omega) [] : u32At (le32 size) 0 = size)
  have howner : beginAsset rq (taken rq s) =
      ((taken rq s).withAssets { table := s.assets.table ++ [newAsset id kind w h size],
                                  freeBlocks := s.assets.freeBlocks - need }, .ok,
        .assetBegin (some id) need (s.assets.freeBlocks - need)) := by
    simp only [beginAsset, hlen, hidAt, hcodeAt, hwAt, hhAt, hsizeAt, taken_asset?, taken_assets, hnew,
      hgeometry, blocksFor_eq]
    rw [if_neg (by simp), if_neg (by simp; omega), if_neg (by simp),
      if_neg (by simpa [Config.assetEntries] using hroom), if_neg (by simpa [need] using hfree)]
  obtain ⟨u, hu, hanswered, hkeeps, hsame⟩ := effect_request_of_keeps (changed := [.assets]) beginAsset htakes
    howner (by intro p hp; cases p <;> first | rfl | simp at hp) (by decide) (by decide) (by decide)
  exact ⟨u, congrArg Host.Outcome.next hu, hanswered, hsame .assets (by decide), hkeeps⟩

/-! ### ASSET_DATA -/

/-- Settles O27: the payload names the asset, the offset it has reached and the bytes. -/
theorem assetDataAppends : Obligations.AssetDataAppends := by
  unfold Obligations.AssetDataAppends
  intro seq id bytes a s payload hid hbytes hfound hloading hdeclared hfit htakes
  set rq := requestOf seq 0x11 payload with hrq
  have hpayload : rq.payload = le16 id ++ (le32 a.received ++ bytes) := by simp [hrq, requestOf, payload]
  have hlen : rq.payload.length = 6 + bytes.length := by
    rw [hpayload]
    simp [le32, le16]
    omega
  have hpos := List.length_pos_iff.mpr hbytes
  have hidAt : u16At rq.payload 0 = id := by rw [hpayload, u16At_le16_append hid]
  have hoffsetAt : u32At rq.payload 2 = a.received := by
    rw [hpayload]
    exact u32At_le32_append (by omega) bytes
  have hdrop : rq.payload.drop 6 = bytes := by rw [hpayload]; rfl
  set t := (taken rq s).withAssets { s.assets with
    table := changeAsset id (fun x => { x with data := x.data ++ bytes }) s.assets.table } with ht
  have howner : loadAsset rq (taken rq s) =
      (t, .ok, .assetData (some id) (some (a.received + bytes.length))) := by
    simp only [loadAsset, hlen, hidAt, hoffsetAt, hdrop, taken_asset?, taken_assets, hfound, hloading]
    rw [if_neg (by omega), if_neg (by simp), if_neg (by simp), if_neg (by omega), Nat.add_sub_cancel_left]
  obtain ⟨u, hu, hanswered, hkeeps, hsame⟩ := effect_request_of_keeps (changed := [.assets]) loadAsset htakes
    howner (by intro p hp; cases p <;> first | rfl | simp at hp) (by decide) (by decide) (by decide)
  obtain ⟨hthis, hothers, hfree⟩ := changeAsset_effect (t := u) hfound
    (fun x => { x with data := x.data ++ bytes }) (fun _ => rfl) (hsame .assets (by decide))
  exact ⟨u, congrArg Host.Outcome.next hu, hanswered, hthis, hothers, hfree, hkeeps⟩

/-! ### Font data -/

theorem byteOf_toNat (b : Byte) : byteOf b.toNat = b := by simp [byteOf]

/-- A signed byte is the number that a host wrote in two's complement (R29, R162). -/
theorem twosComplement_byte_iff (b : Byte) (z : Int) :
    twosComplement 8 b.toNat = z ↔ (-128 ≤ z ∧ z ≤ 127) ∧ byteOf (z % 256).toNat = b := by
  have hb := b.isLt
  rw [← BitVec.toNat_inj]
  simp only [byteOf, BitVec.toNat_ofNat, twosComplement]
  split <;> constructor <;> intro h <;> omega

/-- An unsigned byte is the number that a host wrote. -/
theorem toNat_byte_iff (b : Byte) (n : Nat) : b.toNat = n ↔ n ≤ 255 ∧ byteOf n = b := by
  have hb := b.isLt
  rw [← BitVec.toNat_inj]
  simp only [byteOf, BitVec.toNat_ofNat]
  constructor <;> intro h <;> omega

/-- Six bytes from an offset on. -/
theorem take_six {data : List Byte} {i : Nat} (h : i + 6 ≤ data.length) :
    (data.drop i).take 6 = [data.getD i 0, data.getD (i + 1) 0, data.getD (i + 2) 0, data.getD (i + 3) 0,
      data.getD (i + 4) 0, data.getD (i + 5) 0] := by
  refine List.ext_getElem (by simp; omega) fun n hn hn' => ?_
  simp only [List.length_cons, List.length_nil] at hn'
  have hget : data.getD (i + n) 0 = data[i + n] := List.getD_eq_getElem _ _ _
  rw [List.getElem_take, List.getElem_drop, ← hget]
  match n, hn' with
  | 0, _ | 1, _ | 2, _ | 3, _ | 4, _ | 5, _ => rfl

/-- A directory entry and its glyph, by the layout of R162. -/
def GlyphAt (data : List Byte) (i place : Nat) (g : Glyph) : Prop :=
  (g.width ≤ 255 ∧ g.height ≤ 255 ∧ g.advance ≤ 255 ∧ (-128 ≤ g.bearing ∧ g.bearing ≤ 127) ∧
    -128 ≤ g.ascent ∧ g.ascent ≤ 127) ∧
  (data.drop i).take 6 =
    [g.code, byteOf g.width, byteOf g.height, byteOf (g.bearing % 256).toNat,
      byteOf (g.ascent % 256).toNat, byteOf g.advance] ∧
  g.offset = place

/-- The glyph that a directory entry reads as. -/
def entryAt (data : List Byte) (i place : Nat) : Glyph :=
  { code := data.getD i 0, width := u8At data (i + 1), height := u8At data (i + 2),
    bearing := s8At data (i + 3), ascent := s8At data (i + 4), advance := u8At data (i + 5), offset := place }

theorem readDirectory_succ (data : List Byte) (n i place : Nat) :
    readDirectory data (n + 1) i place =
      entryAt data i place :: readDirectory data n (i + 6) (place + (entryAt data i place).size) := rfl

theorem glyphAt_iff {data : List Byte} {i : Nat} (h : i + 6 ≤ data.length) (place : Nat) (g : Glyph) :
    GlyphAt data i place g ↔ g = entryAt data i place := by
  obtain ⟨code, width, height, bearing, ascent, advance, offset⟩ := g
  have hwidth := toNat_byte_iff (data.getD (i + 1) 0) width
  have hheight := toNat_byte_iff (data.getD (i + 2) 0) height
  have hbearing := twosComplement_byte_iff (data.getD (i + 3) 0) bearing
  have hascent := twosComplement_byte_iff (data.getD (i + 4) 0) ascent
  have hadvance := toNat_byte_iff (data.getD (i + 5) 0) advance
  rw [GlyphAt, take_six h, entryAt, Glyph.mk.injEq]
  constructor
  · rintro ⟨⟨hw, hh, ha, hb, hasc⟩, hbytes, hoffset⟩
    rw [List.cons.injEq, List.cons.injEq, List.cons.injEq, List.cons.injEq, List.cons.injEq,
      List.cons.injEq] at hbytes
    obtain ⟨h0, h1, h2, h3, h4, h5, -⟩ := hbytes
    exact ⟨h0.symm, (hwidth.mpr ⟨hw, h1.symm⟩).symm, (hheight.mpr ⟨hh, h2.symm⟩).symm,
      (hbearing.mpr ⟨hb, h3.symm⟩).symm, (hascent.mpr ⟨hasc, h4.symm⟩).symm,
      (hadvance.mpr ⟨ha, h5.symm⟩).symm, hoffset⟩
  · rintro ⟨h0, h1, h2, h3, h4, h5, hoffset⟩
    obtain ⟨hw, e1⟩ := hwidth.mp h1.symm
    obtain ⟨hh, e2⟩ := hheight.mp h2.symm
    obtain ⟨hb, e3⟩ := hbearing.mp h3.symm
    obtain ⟨hasc, e4⟩ := hascent.mp h4.symm
    obtain ⟨ha, e5⟩ := hadvance.mp h5.symm
    dsimp only
    rw [h0, e1, e2, e3, e4, e5]
    exact ⟨⟨hw, hh, ha, hb, hasc⟩, rfl, hoffset⟩

/-- The directory read from a place on is the only list of glyphs that its entries give (R162, R164). -/
theorem readDirectory_iff {data : List Byte} (count i place : Nat) (h : i + 6 * count ≤ data.length)
    (glyphs : List Glyph) :
    readDirectory data count i place = glyphs ↔
      glyphs.length = count ∧ ∀ k g, glyphs[k]? = some g →
        GlyphAt data (i + 6 * k) (place + ((glyphs.take k).map Glyph.size).sum) g := by
  induction count generalizing i place glyphs with
  | zero =>
    constructor
    · rintro rfl
      exact ⟨rfl, fun k g hg => by simp [readDirectory] at hg⟩
    · rintro ⟨hlen, -⟩
      rw [List.length_eq_zero_iff.mp hlen]
      rfl
  | succ n ih =>
    cases glyphs with
    | nil => simp [readDirectory]
    | cons g rest =>
      have hrest := ih (i + 6) (place + g.size) (by omega) rest
      have hhead := glyphAt_iff (data := data) (i := i) (by omega) place g
      have hsplit : (∀ k x, (g :: rest)[k]? = some x →
          GlyphAt data (i + 6 * k) (place + (((g :: rest).take k).map Glyph.size).sum) x) ↔
          GlyphAt data i place g ∧ ∀ k x, rest[k]? = some x →
            GlyphAt data (i + 6 + 6 * k) (place + g.size + ((rest.take k).map Glyph.size).sum) x := by
        constructor
        · intro hall
          refine ⟨by simpa using hall 0 g rfl, fun k x hx => ?_⟩
          have := hall (k + 1) x (by simpa using hx)
          rwa [List.take_succ_cons, List.map_cons, List.sum_cons, ← Nat.add_assoc,
            show i + 6 * (k + 1) = i + 6 + 6 * k by omega] at this
        · rintro ⟨hg, hall⟩ k x hx
          cases k with
          | zero =>
            obtain rfl : g = x := by simpa using hx
            simpa using hg
          | succ k =>
            have := hall k x (by simpa using hx)
            rwa [List.take_succ_cons, List.map_cons, List.sum_cons, ← Nat.add_assoc,
              show i + 6 * (k + 1) = i + 6 + 6 * k by omega]
      rw [hsplit, hhead, readDirectory_succ, List.cons.injEq, List.length_cons, Nat.add_right_cancel_iff]
      constructor
      · rintro ⟨rfl, hr⟩
        obtain ⟨hlen, hall⟩ := hrest.mp hr
        exact ⟨hlen, rfl, hall⟩
      · rintro ⟨hlen, rfl, hall⟩
        exact ⟨rfl, hrest.mpr ⟨hlen, hall⟩⟩

theorem codesIncrease_iff (glyphs : List Glyph) :
    codesIncrease glyphs = true ↔ (glyphs.map fun g => g.code.toNat).Pairwise (fun a b => a < b) := by
  rw [← List.isChain_iff_pairwise]
  induction glyphs with
  | nil => simp [codesIncrease]
  | cons a rest ih =>
    cases rest with
    | nil => simp [codesIncrease]
    | cons b rest => simp only [codesIncrease, Bool.and_eq_true, decide_eq_true_eq, ih, List.map_cons,
        List.isChain_cons_cons]

theorem take_two {data : List Byte} {i : Nat} (h : i + 2 ≤ data.length) :
    (data.drop i).take 2 = [data.getD i 0, data.getD (i + 1) 0] := by
  refine List.ext_getElem (by simp; omega) fun n hn hn' => ?_
  simp only [List.length_cons, List.length_nil] at hn'
  have hget : data.getD (i + n) 0 = data[i + n] := List.getD_eq_getElem _ _ _
  rw [List.getElem_take, List.getElem_drop, ← hget]
  match n, hn' with
  | 0, _ | 1, _ => rfl

/-- Two bytes are a 2-byte field's when they read as its number (R174). -/
theorem pair_eq_le16_iff (a b : Byte) {n : Nat} (h : n ≤ 65535) :
    [a, b] = le16 n ↔ a.toNat + 256 * b.toNat = n := by
  have ha := a.isLt
  have hb := b.isLt
  simp only [le16, List.cons.injEq, and_true, ← BitVec.toNat_inj, byteOf, BitVec.toNat_ofNat]
  omega

/-- The substitute field of a font's header (R162): a code below 256, or 0xFFFF for none. -/
def substituteField (substitute : Option Byte) : Nat :=
  match substitute with
  | some code => code.toNat
  | none => 0xFFFF

theorem substituteField_le (substitute : Option Byte) : substituteField substitute ≤ 65535 := by
  cases substitute with
  | none => exact le_rfl
  | some code => exact code.isLt.le.trans (by decide)

theorem substitute_bytes (substitute : Option Byte) :
    (match substitute with | some code => [code, 0] | none => [0xFF, 0xFF] : List Byte) =
      le16 (substituteField substitute) := by
  cases substitute with
  | none => decide
  | some code => exact (pair_eq_le16_iff code 0 (substituteField_le (some code))).mpr (by simp [substituteField])

/-- The font format in the terms in which a font is read (R162 to R164). -/
theorem fontFormat_iff (data : List Byte) (font : FontInfo) :
    FontFormat data font ↔
      (1 ≤ u16At data 0 ∧ u16At data 0 ≤ 256) ∧
      readDirectory data (u16At data 0) 4 (4 + 6 * u16At data 0) = font.glyphs ∧
      data.length = 4 + 6 * u16At data 0 + (font.glyphs.map Glyph.size).sum ∧
      u16At data 2 = substituteField font.substitute ∧
      (font.glyphs.map fun g => g.code.toNat).Pairwise (fun a b => a < b) ∧
      ∀ code ∈ font.substitute, code ∈ font.glyphs.map Glyph.code := by
  have hcount (h : 2 ≤ data.length) {n : Nat} (hn : n ≤ 65535) : data.take 2 = le16 n ↔ u16At data 0 = n := by
    rw [← List.drop_zero (l := data), take_two (by rw [Nat.zero_add]; exact h), pair_eq_le16_iff _ _ hn]
    rfl
  have hsub (h : 4 ≤ data.length) : (data.drop 2).take 2 = le16 (substituteField font.substitute) ↔
      u16At data 2 = substituteField font.substitute := by
    rw [take_two h, pair_eq_le16_iff _ _ (substituteField_le _)]
    rfl
  unfold FontFormat
  dsimp only
  constructor
  · rintro ⟨hpos, hle, hlen, htake, hsubstitute, hglyphs, hcodes, hmem⟩
    have hn := (hcount (by omega) (by omega)).mp htake
    rw [hn]
    exact ⟨⟨hpos, hle⟩, (readDirectory_iff _ _ _ (by omega) _).mpr ⟨rfl, hglyphs⟩, hlen,
      (hsub (by omega)).mp (hsubstitute.trans (substitute_bytes _)), hcodes, hmem⟩
  · rintro ⟨⟨hpos, hle⟩, hread, hlen, hsubstitute, hcodes, hmem⟩
    obtain ⟨hn, hglyphs⟩ := (readDirectory_iff _ _ _ (by omega) _).mp hread
    rw [← hn] at hpos hle hlen hglyphs
    exact ⟨hpos, hle, hlen, (hcount (by omega) (by omega)).mpr hn.symm,
      ((hsub (by omega)).mpr hsubstitute).trans (substitute_bytes _).symm, hglyphs, hcodes, hmem⟩

/-- A FONT reads as a directory exactly when its bytes obey the font format with it (R162 to R164). -/
theorem parseFont_iff (data : List Byte) (font : FontInfo) :
    parseFont data = some font ↔ FontFormat data font := by
  rw [fontFormat_iff]
  obtain ⟨substitute, glyphs⟩ := font
  have hsizes (glyphs : List Glyph) : bitmapBytes glyphs = (glyphs.map Glyph.size).sum := rfl
  unfold parseFont
  dsimp only
  set count := u16At data 0
  set field := u16At data 2
  set read := readDirectory data count 4 (4 + 6 * count)
  by_cases hbad : (data.length < 4 || !inRange 1 256 count || data.length < 4 + 6 * count ||
      !codesIncrease read || decide (data.length ≠ 4 + 6 * count + bitmapBytes read)) = true
  · rw [if_pos hbad]
    refine iff_of_false (by simp) ?_
    rintro ⟨⟨hpos, hle⟩, hread, hlen, -, hcodes, -⟩
    rw [← hread, ← codesIncrease_iff] at hcodes
    rw [← hread, ← hsizes] at hlen
    simp [inRange, hpos, hle, hcodes, hlen] at hbad
    omega
  · rw [if_neg hbad]
    simp only [inRange, Bool.or_eq_true, Bool.not_eq_true', Bool.and_eq_false_iff, decide_eq_true_eq,
      decide_eq_false_iff_not, not_or, not_not, Bool.not_eq_false] at hbad
    obtain ⟨⟨⟨⟨-, hpos, hle⟩, -⟩, hcodes⟩, hlen⟩ := hbad
    rw [codesIncrease_iff] at hcodes
    have hbase : ((1 ≤ count ∧ count ≤ 256) ∧ read = glyphs ∧
        data.length = 4 + 6 * count + (glyphs.map Glyph.size).sum ∧ field = substituteField substitute ∧
        (glyphs.map fun g => g.code.toNat).Pairwise (fun a b => a < b) ∧
        ∀ code ∈ substitute, code ∈ glyphs.map Glyph.code) ↔
        read = glyphs ∧ field = substituteField substitute ∧ ∀ code ∈ substitute, code ∈ read.map Glyph.code := by
      constructor
      · rintro ⟨-, rfl, -, hfield, -, hmem⟩
        exact ⟨rfl, hfield, hmem⟩
      · rintro ⟨rfl, hfield, hmem⟩
        exact ⟨⟨hpos, hle⟩, rfl, hlen, hfield, hcodes, hmem⟩
    rw [hbase]
    cases substitute with
    | none =>
      simp only [substituteField, Option.not_mem_none, false_implies, implies_true, and_true]
      split
      · simp [*]
      · rename_i hnone
        refine iff_of_false ?_ fun h => hnone h.2
        split <;> simp
    | some code =>
      have hcode := code.isLt
      simp only [substituteField, Option.mem_some_iff, forall_eq']
      split
      · rename_i hnone
        exact iff_of_false (by simp) fun h => by omega
      · by_cases hany : field ≤ 255 ∧ ∃ g ∈ read, g.code.toNat = field
        · obtain ⟨hle', g, hg, hgcode⟩ := hany
          rw [if_pos (by simp; exact ⟨hle', g, hg, hgcode⟩)]
          simp only [Option.some.injEq, FontInfo.mk.injEq]
          constructor
          · rintro ⟨hbyte, hread⟩
            have hfield : g.code = code := by rw [← hbyte, ← hgcode, byteOf_toNat]
            exact ⟨hread, by rw [← hgcode, hfield], hfield ▸ List.mem_map_of_mem hg⟩
          · rintro ⟨hread, hfield, -⟩
            exact ⟨by rw [hfield, byteOf_toNat], hread⟩
        · rw [if_neg (by simpa using hany)]
          refine iff_of_false (by simp) ?_
          rintro ⟨-, hfield, hmem⟩
          refine hany ?_
          obtain ⟨g, hg, hgcode⟩ := List.mem_map.mp hmem
          exact ⟨by omega, g, hg, by rw [hgcode, hfield]⟩

/-! ### ASSET_END, ASSET_DROP and ASSET_QUERY -/

/-- Settles O28: the format by `parseFont_iff`, and the owner by the checksum, the kind and the format. -/
theorem assetEndReadiesOrRemoves : Obligations.AssetEndReadiesOrRemoves := by
  unfold Obligations.AssetEndReadiesOrRemoves
  refine ⟨parseFont_iff, ?_⟩
  intro seq id crc a s rq hid hcrc hfound hloading hwhole hn htakes
  have hlen : rq.payload.length = 6 := rfl
  have hidAt : u16At rq.payload 0 = id := u16At_le16_append hid _
  have hcrcAt : u32At rq.payload 2 = crc :=
    (List.append_nil (le32 crc) ▸ u32At_le32_append hcrc [] : u32At (le32 crc) 0 = crc)
  obtain rfl : a.id = id := State.asset?_id hfound
  have howner : endAsset rq (taken rq s) =
      if (crc32 a.data).toNat ≠ crc then
        (dropAsset a.id (taken rq s), .checkFailedCrc, .assetEnd (some a.id) (some a.received) none)
      else if a.kind = .font then
        match parseFont a.data with
        | none =>
          (dropAsset a.id (taken rq s), .checkFailedFormat, .assetEnd (some a.id) (some a.received) none)
        | some font =>
          (makeReady a.id (some font) (taken rq s), .ok,
            .assetEnd (some a.id) (some a.received) (some font.glyphs.length))
      else (makeReady a.id none (taken rq s), .ok, .assetEnd (some a.id) (some a.received) none) := by
    simp only [endAsset, hlen, hidAt, hcrcAt, taken_asset?, hfound]
    rw [if_neg (by simp), if_neg (not_not.mpr hloading), if_neg (not_not.mpr hwhole)]
    <;> rfl
  have hfound' : (taken rq s).asset? a.id = some a := by rw [taken_asset?]; exact hfound
  have hremoved (status : Status) (howner : endAsset rq (taken rq s) = (dropAsset a.id (taken rq s), status,
      .assetEnd (some a.id) (some a.received) none)) :
      ∃ t, exec (.assetEnd seq (le16 a.id ++ le32 crc)) s = .next t ∧ RequestKeeps [.assets] s t ∧
        (∀ j, j ≠ a.id → t.asset? j = s.asset? j) ∧ t.asset? a.id = none ∧
        t.assets.freeBlocks = s.assets.freeBlocks + (a.declared + 63) / 64 ∧
        Answered rq status (.assetEnd (some a.id) (some a.received) none) s t := by
    obtain ⟨u, hu, hanswered, hkeeps, hsame⟩ := effect_request_of_keeps (changed := [.assets]) endAsset htakes
      howner (by intro p hp; cases p <;> first | rfl | simp at hp) (by decide) (by decide) (by decide)
    obtain ⟨hnone, hothers, hfree⟩ := dropAsset_effect hfound' (by rwa [taken_assets])
    have hassets := hsame .assets (by decide)
    simp only [State.asset?, taken_assets] at hnone hothers hfree ⊢
    rw [← hassets] at hnone hothers hfree
    exact ⟨u, congrArg Host.Outcome.next hu, hkeeps, hothers, hnone, hfree, hanswered⟩
  have hready (font : Option FontInfo) (glyphs : Option Nat) (howner : endAsset rq (taken rq s) =
      (makeReady a.id font (taken rq s), .ok, .assetEnd (some a.id) (some a.received) glyphs)) :
      ∃ t, exec (.assetEnd seq (le16 a.id ++ le32 crc)) s = .next t ∧ RequestKeeps [.assets] s t ∧
        (∀ j, j ≠ a.id → t.asset? j = s.asset? j) ∧
        t.asset? a.id = some { a with state := .ready, font := font } ∧
        t.assets.freeBlocks = s.assets.freeBlocks ∧
        Answered rq .ok (.assetEnd (some a.id) (some a.received) glyphs) s t := by
    obtain ⟨u, hu, hanswered, hkeeps, hsame⟩ := effect_request_of_keeps (changed := [.assets]) endAsset htakes
      howner (by intro p hp; cases p <;> first | rfl | simp at hp) (by decide) (by decide) (by decide)
    obtain ⟨hthis, hothers, hfree⟩ := changeAsset_effect (t := u) hfound
      (fun a => { a with state := .ready, font := font }) (fun _ => rfl)
      ((hsame .assets (by decide)).trans (by simp only [makeReady, State.withAssets_assets, taken_assets]))
    exact ⟨u, congrArg Host.Outcome.next hu, hkeeps, hothers, hthis, hfree, hanswered⟩
  by_cases hmatch : (crc32 a.data).toNat = crc
  · rw [if_neg (not_not.mpr hmatch)] at howner
    simp only [if_pos hmatch]
    cases hkind : a.kind with
    | font =>
      rw [if_pos hkind] at howner
      cases hfont : parseFont a.data with
      | none =>
        rw [hfont] at howner
        exact hremoved _ howner
      | some font =>
        rw [hfont] at howner
        have hresult := hready _ _ howner
        rw [hkind] at hresult
        exact hresult
    | bitmap | pattern =>
      have hresult := hready _ _ (by rw [howner, if_neg (by simp [hkind])])
      rw [hkind] at hresult
      exact hresult
  · rw [if_pos hmatch] at howner
    simp only [if_neg hmatch]
    exact hremoved _ howner

/-- Settles O29: the owner by the asset's state, and with READY by its count. -/
theorem assetDropRemovesOrDooms : Obligations.AssetDropRemovesOrDooms := by
  unfold Obligations.AssetDropRemovesOrDooms
  intro seq id a s rq hid hfound hn htakes
  have hidAt : u16At rq.payload 0 = id := u16At_le16 hid
  obtain rfl : a.id = id := State.asset?_id hfound
  have hfound' : (taken rq s).asset? a.id = some a := by rw [taken_asset?]; exact hfound
  have howner : dropRequest rq (taken rq s) =
      match a.state with
      | .loading => (dropAsset a.id (taken rq s), .ok, .assetDrop (some a.id) (some .removed) (some 0))
      | .ready =>
        if a.refCount = 0 then
          (dropAsset a.id (taken rq s), .ok, .assetDrop (some a.id) (some .removed) (some 0))
        else
          ((taken rq s).withAssets { (taken rq s).assets with
              table := changeAsset a.id (fun x => { x with state := .doomed }) (taken rq s).assets.table },
            .ok, .assetDrop (some a.id) (some .doomed) (some a.refCount))
      | .doomed => (taken rq s, .wrongState, .assetDrop (some a.id) (some .doomed) (some a.refCount)) := by
    simp only [dropRequest, hidAt, hfound'] <;> rfl
  have hremoved (howner : dropRequest rq (taken rq s) =
      (dropAsset a.id (taken rq s), .ok, .assetDrop (some a.id) (some .removed) (some 0))) :
      ∃ t, exec (.assetDrop seq (le16 a.id)) s = .next t ∧ RequestKeeps [.assets] s t ∧
        (∀ j, j ≠ a.id → t.asset? j = s.asset? j) ∧ t.asset? a.id = none ∧
        t.assets.freeBlocks = s.assets.freeBlocks + (a.declared + 63) / 64 ∧
        Answered rq .ok (.assetDrop (some a.id) (some .removed) (some 0)) s t := by
    obtain ⟨u, hu, hanswered, hkeeps, hsame⟩ := effect_request_of_keeps (changed := [.assets]) dropRequest htakes
      howner (by intro p hp; cases p <;> first | rfl | simp at hp) (by decide) (by decide) (by decide)
    obtain ⟨hnone, hothers, hfree⟩ := dropAsset_effect hfound' (by rwa [taken_assets])
    have hassets := hsame .assets (by decide)
    simp only [State.asset?, taken_assets] at hnone hothers hfree ⊢
    rw [← hassets] at hnone hothers hfree
    exact ⟨u, congrArg Host.Outcome.next hu, hkeeps, hothers, hnone, hfree, hanswered⟩
  cases hstate : a.state with
  | loading =>
    rw [hstate] at howner
    obtain ⟨t, ht, hkeeps, hothers, hanswer⟩ := hremoved howner
    exact ⟨t, ht, hkeeps, hothers, fun _ => hanswer, nofun, nofun⟩
  | doomed =>
    rw [hstate] at howner
    obtain ⟨hanswered, hkeeps⟩ := reading_request dropRequest htakes (by rw [howner])
    rw [howner] at hanswered
    have hassets := hkeeps.1 .assets (by decide)
    exact ⟨_, rfl, ⟨hkeeps.1.weaken (by decide), hkeeps.2⟩, fun j _ => by simp only [State.asset?]; rw [hassets],
      by simp, nofun, fun _ => ⟨hassets, hanswered⟩⟩
  | ready =>
    rw [hstate] at howner
    dsimp only at howner
    by_cases hcount : a.refCount = 0
    · rw [if_pos hcount] at howner
      obtain ⟨t, ht, hkeeps, hothers, hanswer⟩ := hremoved howner
      exact ⟨t, ht, hkeeps, hothers, fun _ => hanswer, fun _ hpos => absurd hcount (by omega), nofun⟩
    · rw [if_neg hcount] at howner
      obtain ⟨u, hu, hanswered, hkeeps, hsame⟩ := effect_request_of_keeps (changed := [.assets]) dropRequest
        htakes howner (by intro p hp; cases p <;> first | rfl | simp at hp) (by decide) (by decide) (by decide)
      obtain ⟨hthis, hothers, hfree⟩ := changeAsset_effect (t := u) hfound
        (fun a => { a with state := .doomed }) (fun _ => rfl)
        ((hsame .assets (by decide)).trans (by simp only [State.withAssets_assets, taken_assets]))
      exact ⟨u, congrArg Host.Outcome.next hu, hkeeps, hothers, by simp [hcount], fun _ _ => ⟨hthis, hfree,
        hanswered⟩, nofun⟩

/-- Settles O30: the owner only reads. -/
theorem assetQueryReports : Obligations.AssetQueryReports := by
  unfold Obligations.AssetQueryReports
  intro seq id a s hid hfound htakes
  set rq := requestOf seq 0x14 (le16 id) with hrq
  have hidAt : u16At rq.payload 0 = id := u16At_le16 hid
  have howner : queryAsset rq (taken rq s) = (taken rq s, .ok, .assetQuery a.record) := by
    simp only [queryAsset, hidAt, taken_asset?, hfound]
    rfl
  obtain ⟨hanswered, hkeeps⟩ := reading_request queryAsset htakes (by rw [howner])
  rw [howner] at hanswered
  exact ⟨_, rfl, hanswered, hkeeps⟩

/-! ### PAGE_OPEN -/

/-- Settles O33: the payload's fields pass the checks of R6. -/
theorem pageOpenCreates : Obligations.PageOpenCreates := by
  unfold Obligations.PageOpenCreates
  intro seq length copies s rq bands hlong hlong' hcopies hcopies' hnone hroom htakes
  have hlengthAt : u16At rq.payload 0 = length := u16At_le16_append (by omega) _
  have hcopiesAt : u16At rq.payload 2 = copies := u16At_le16 (by omega)
  have howner : openPage rq (taken rq s) =
      ((taken rq s).withComposer { s.composer with
          pages := s.composer.pages ++ [newPage s.composer.newId s.settings.printWidth length copies],
          lastId := s.composer.newId }, .ok,
        .pageOpen s.composer.newId s.settings.printWidth bands) := by
    have hlen : rq.payload.length = 4 := rfl
    simp only [openPage, hlen, hlengthAt, hcopiesAt, taken_composer, taken_settings]
    rw [if_neg (by simp), if_neg (by simp [inRange]; omega), if_neg (by simpa using hnone),
      if_neg (by simpa [Config.pageEntries] using hroom)]
    rfl
  obtain ⟨u, hu, hanswered, hkeeps, hsame⟩ := effect_request_of_keeps (changed := [.composer]) openPage htakes
    howner (by intro p hp; cases p <;> first | rfl | simp at hp) (by decide) (by decide) (by decide)
  exact ⟨u, congrArg Host.Outcome.next hu, hanswered, hsame .composer (by decide), hkeeps⟩

end Sys2Proof.Machine
end

section
/-! PROOF. OBJECT_ADD payloads (R29, R30, R38): the bytes of an object read back as it, and no other object has
them. -/

namespace Sys2Proof.Machine

/-! ### Fields that a host wrote -/

theorem s8At_wire8_append {z : Int} (h : -128 ≤ z ∧ z ≤ 127) (rest : List Byte) :
    s8At (wire8 z ++ rest) 0 = z := (twosComplement_byte_iff _ z).mpr ⟨h, rfl⟩

theorem s16At_wire16_append {z : Int} (h : -32768 ≤ z ∧ z ≤ 32767) (rest : List Byte) :
    s16At (wire16 z ++ rest) 0 = z := by
  have hread : u16At (wire16 z ++ rest) 0 = (z % 65536).toNat := u16At_le16_append (by omega) rest
  rw [s16At, hread]
  unfold twosComplement
  split <;> omega

theorem onSheet_wire {z : Int} (h : OnSheet z) : -32768 ≤ z ∧ z ≤ 32767 := by
  have := h.1
  have := h.2
  omega

theorem toNat_byteOf {n : Nat} (h : n ≤ 255) : (byteOf n).toNat = n :=
  (toNat_byte_iff _ n).mpr ⟨h, rfl⟩

/-! ### Bytes that are read -/

/-- A payload from a byte on. -/
theorem drop_u8 {p : List Byte} {i : Nat} (h : i + 1 ≤ p.length) :
    p.drop i = byteOf (u8At p i) :: p.drop (i + 1) := by
  rw [u8At, byteOf_toNat, List.getD_eq_getElem _ _ (by omega)]
  exact List.drop_eq_getElem_cons (by omega)

theorem u8At_lt_256 (p : List Byte) (i : Nat) : u8At p i ≤ 255 := Nat.le_of_lt_succ (u8At_lt p i)

/-- A payload from a 2-byte field on. -/
theorem drop_u16 {p : List Byte} {i : Nat} (h : i + 2 ≤ p.length) :
    p.drop i = le16 (u16At p i) ++ p.drop (i + 2) := by
  have hpair : [byteOf (u8At p i), byteOf (u8At p (i + 1))] = le16 (u16At p i) := by
    rw [pair_eq_le16_iff _ _ (u16At_le p i), toNat_byteOf (u8At_lt_256 p i), toNat_byteOf (u8At_lt_256 p (i + 1))]
    rfl
  rw [drop_u8 (by omega), drop_u8 (i := i + 1) (by omega), ← hpair]
  rfl

theorem wire16_s16At (p : List Byte) (i : Nat) : wire16 (s16At p i) = le16 (u16At p i) := by
  have h := u16At_le p i
  rw [wire16, s16At]
  unfold twosComplement
  congr 1
  split <;> omega

theorem wire8_s8At (p : List Byte) (i : Nat) : wire8 (s8At p i) = [byteOf (u8At p i)] := by
  have h := u8At_lt_256 p i
  rw [wire8, s8At]
  unfold twosComplement
  congr 2
  split <;> omega

theorem drop_s16 {p : List Byte} {i : Nat} (h : i + 2 ≤ p.length) :
    p.drop i = wire16 (s16At p i) ++ p.drop (i + 2) := by
  rw [wire16_s16At]
  exact drop_u16 h

theorem drop_s8 {p : List Byte} {i : Nat} (h : i + 1 ≤ p.length) :
    p.drop i = wire8 (s8At p i) ++ p.drop (i + 1) := by
  rw [wire8_s8At]
  exact drop_u8 h

theorem drop_u32 {p : List Byte} {i : Nat} (h : i + 4 ≤ p.length) :
    p.drop i = le32 (u32At p i) ++ p.drop (i + 4) := by
  have hlow := u16At_le p i
  have hhigh := u16At_le p (i + 2)
  have hle : le32 (u32At p i) = le16 (u16At p i) ++ le16 (u16At p (i + 2)) := by
    rw [le32, u32At]
    congr 1
    · simp only [le16, byteOf, List.cons.injEq, and_true]
      constructor <;> apply BitVec.eq_of_toNat_eq <;> simp only [BitVec.toNat_ofNat] <;> omega
    · congr 1
      omega
  rw [drop_u16 (by omega), drop_u16 (i := i + 2) (by omega), hle, List.append_assoc]

/-- The vertices of a FILL's payload (R33). -/
theorem drop_vertices {p : List Byte} {n i : Nat} (h : i + 4 * n ≤ p.length) :
    p.drop i = (verticesAt p n i).flatMap (fun v => wire16 v.1 ++ wire16 v.2) ++ p.drop (i + 4 * n) := by
  induction n generalizing i with
  | zero => rfl
  | succ n ih =>
    rw [verticesAt, List.flatMap_cons, drop_s16 (by omega), drop_s16 (i := i + 2) (by omega), ih (by omega),
      List.append_assoc, List.append_assoc, show i + 2 + 2 + 4 * n = i + 4 * (n + 1) by omega]

theorem verticesAt_length (p : List Byte) (n i : Nat) : (verticesAt p n i).length = n := by
  induction n generalizing i with
  | zero => rfl
  | succ n ih => simp [verticesAt, ih]

/-! ### Codes -/

theorem Mix.ofCode_iff (n : Nat) (m : Mix) : Mix.ofCode n = some m ↔ n = (mixCode m).toNat := by
  unfold Mix.ofCode
  split <;> cases m <;> simp_all [mixCode]

theorem EndMode.ofCode_iff (n : Nat) (e : EndMode) : EndMode.ofCode n = some e ↔ n = (endsCode e).toNat := by
  unfold EndMode.ofCode
  split <;> cases e <;> simp_all [endsCode]

theorem Orientation.ofCode_iff (n : Nat) (o : Orientation) :
    Orientation.ofCode n = some o ↔ n = (turnCode o).toNat := by
  unfold Orientation.ofCode
  split <;> cases o <;> simp_all [turnCode]

theorem flagOf_iff (n : Nat) (b : Bool) : flagOf n = some b ↔ n = (flagCode b).toNat := by
  unfold flagOf
  split <;> cases b <;> simp_all [flagCode]

theorem keepIf_eq_some {ok : Bool} {shape shape' : Shape} :
    keepIf ok shape = some shape' ↔ ok = true ∧ shape = shape' := by
  unfold keepIf
  split <;> simp_all

theorem coordinate_iff (n : Int) : coordinate n = true ↔ OnSheet n := by
  simp [coordinate, inRangeInt, OnSheet]

/-! ### The kind part -/

/-- A shape as it is sent, before its codes are read (R29). -/
def rawShapeOf : Shape → RawShape
  | .rule x y w h => .rule x y w h
  | .stroke x0 y0 x1 y1 t ends => .stroke x0 y0 x1 y1 t (endsCode ends).toNat
  | .fill vs => .fill vs
  | .place bitmap x y o whitens => .place bitmap x y (turnCode o).toNat (flagCode whitens).toNat
  | .text font x y o sp codes => .text font x y (turnCode o).toNat sp codes
  | .counter font x y o sp start step digits =>
    .counter font x y (turnCode o).toNat sp start step digits
  | .bars x y height m along widths => .bars x y height m (flagCode along).toNat widths

/-- Check 2 on a shape in its ranges finds it (R38). -/
theorem rawShapeOf_check {shape : Shape} (h : ShapeInRange shape) : (rawShapeOf shape).check = some shape := by
  have hmix (o : Orientation) : Orientation.ofCode (turnCode o).toNat = some o := (Orientation.ofCode_iff _ _).mpr rfl
  have hends (e : EndMode) : EndMode.ofCode (endsCode e).toNat = some e := (EndMode.ofCode_iff _ _).mpr rfl
  have hflag (b : Bool) : flagOf (flagCode b).toNat = some b := (flagOf_iff _ _).mpr rfl
  cases shape with
  | fill vs =>
    obtain ⟨hlen, hall⟩ := h
    exact keepIf_eq_some.mpr ⟨by
      simp only [Bool.and_eq_true, List.all_eq_true, inRange, decide_eq_true_eq, coordinate_iff]
      exact ⟨hlen, hall⟩, rfl⟩
  | rule | stroke | place | text | counter | bars =>
    simp only [ShapeInRange] at h
    simp only [rawShapeOf, RawShape.check, hmix, hends, hflag, Option.bind_some, keepIf_eq_some, Bool.and_eq_true,
      decide_eq_true_eq, coordinate_iff, inRange, inRangeInt, List.all_eq_true, and_true]
    grind

/-- Check 2 finds a shape in its ranges, from the codes that it is sent with (R38). -/
theorem RawShape.check_eq_some {raw : RawShape} {shape : Shape} (h : raw.check = some shape) :
    raw = rawShapeOf shape := by
  cases raw with
  | rule | fill =>
    obtain ⟨-, rfl⟩ := keepIf_eq_some.mp h
    rfl
  | stroke =>
    obtain ⟨ends, hends, hkeep⟩ := Option.bind_eq_some_iff.mp h
    obtain ⟨-, rfl⟩ := keepIf_eq_some.mp hkeep
    rw [(EndMode.ofCode_iff _ _).mp hends]
    rfl
  | place =>
    obtain ⟨turn, hturn, hrest⟩ := Option.bind_eq_some_iff.mp h
    obtain ⟨whitens, hflag, hkeep⟩ := Option.bind_eq_some_iff.mp hrest
    obtain ⟨-, rfl⟩ := keepIf_eq_some.mp hkeep
    rw [(Orientation.ofCode_iff _ _).mp hturn, (flagOf_iff _ _).mp hflag]
    rfl
  | text | counter =>
    obtain ⟨turn, hturn, hkeep⟩ := Option.bind_eq_some_iff.mp h
    obtain ⟨-, rfl⟩ := keepIf_eq_some.mp hkeep
    rw [(Orientation.ofCode_iff _ _).mp hturn]
    rfl
  | bars =>
    obtain ⟨along, hflag, hkeep⟩ := Option.bind_eq_some_iff.mp h
    obtain ⟨-, rfl⟩ := keepIf_eq_some.mp hkeep
    rw [(flagOf_iff _ _).mp hflag]
    rfl

/-- The asset that a shape names, which its payload gives in a 2-byte field. -/
def Shape.namedAsset : Shape → Nat
  | .place bitmap _ _ _ _ => bitmap
  | .text font _ _ _ _ _ => font
  | .counter font _ _ _ _ _ _ _ => font
  | .rule _ _ _ _ | .stroke _ _ _ _ _ _ | .fill _ | .bars _ _ _ _ _ _ => 0

/-- Check 2 passes shapes in their ranges (R38). -/
theorem shapeInRange_of_check {shape : Shape} (h : (rawShapeOf shape).check = some shape)
    (hasset : shape.namedAsset ≤ 65535) : ShapeInRange shape := by
  have hmix (o : Orientation) : Orientation.ofCode (turnCode o).toNat = some o := (Orientation.ofCode_iff _ _).mpr rfl
  have hends (e : EndMode) : EndMode.ofCode (endsCode e).toNat = some e := (EndMode.ofCode_iff _ _).mpr rfl
  have hflag (b : Bool) : flagOf (flagCode b).toNat = some b := (flagOf_iff _ _).mpr rfl
  cases shape with
  | fill vs =>
    obtain ⟨hkeep, -⟩ := keepIf_eq_some.mp h
    simp only [Bool.and_eq_true, List.all_eq_true, inRange, decide_eq_true_eq, coordinate_iff] at hkeep
    exact hkeep
  | rule | stroke | place | text | counter | bars =>
    simp only [rawShapeOf, RawShape.check, hmix, hends, hflag, Option.bind_some, keepIf_eq_some, Bool.and_eq_true,
      decide_eq_true_eq, coordinate_iff, inRange, inRangeInt, List.all_eq_true, and_true] at h
    simp only [ShapeInRange, Shape.namedAsset] at hasset ⊢
    grind

/-! ### The layout of the kind part -/

theorem u8At_drop (p : List Byte) (i k : Nat) : u8At (p.drop i) k = u8At p (i + k) := by
  simp [u8At, List.getD_eq_getElem?_getD, List.getElem?_drop]

theorem u16At_drop (p : List Byte) (i k : Nat) : u16At (p.drop i) k = u16At p (i + k) := by
  rw [u16At, u8At_drop, u8At_drop]
  rfl

/-- A byte that a host wrote, and the bytes after it. -/
theorem take_u8 {p rest : List Byte} {i : Nat} {b : Byte} (h : p.drop i = b :: rest) :
    u8At p i = b.toNat ∧ p.drop (i + 1) = rest := by
  constructor
  · rw [← Nat.add_zero i, ← u8At_drop, h]
    rfl
  · rw [← List.drop_drop, h]
    rfl

/-- A signed byte that a host wrote, and the bytes after it. -/
theorem take_s8 {p rest : List Byte} {i : Nat} {z : Int} (h : p.drop i = wire8 z ++ rest)
    (hz : -128 ≤ z ∧ z ≤ 127) : s8At p i = z ∧ p.drop (i + 1) = rest := by
  constructor
  · rw [← s8At_wire8_append hz rest, ← h, s8At, s8At, u8At_drop]
    rfl
  · rw [← List.drop_drop, h]
    rfl

/-- A 2-byte field that a host wrote, and the bytes after it. -/
theorem take_u16 {p rest : List Byte} {i n : Nat} (h : p.drop i = le16 n ++ rest) (hn : n ≤ 65535) :
    u16At p i = n ∧ p.drop (i + 2) = rest := by
  constructor
  · rw [← u16At_le16_append hn rest, ← h, u16At_drop]
    rfl
  · rw [← List.drop_drop, h]
    rfl

/-- A signed 2-byte field that a host wrote, and the bytes after it. -/
theorem take_s16 {p rest : List Byte} {i : Nat} {z : Int} (h : p.drop i = wire16 z ++ rest)
    (hz : -32768 ≤ z ∧ z ≤ 32767) : s16At p i = z ∧ p.drop (i + 2) = rest := by
  constructor
  · rw [← s16At_wire16_append hz rest, ← h, s16At, s16At, u16At_drop]
    rfl
  · rw [← List.drop_drop, h]
    rfl

/-- A coordinate that a host wrote, and the bytes after it. -/
theorem take_coordinate {p rest : List Byte} {i : Nat} {z : Int} (h : p.drop i = wire16 z ++ rest)
    (hz : OnSheet z) : s16At p i = z ∧ p.drop (i + 2) = rest := take_s16 h (onSheet_wire hz)

/-- A 4-byte field that a host wrote, and the bytes after it. -/
theorem take_u32 {p rest : List Byte} {i n : Nat} (h : p.drop i = le32 n ++ rest) (hn : n < 4294967296) :
    u32At p i = n ∧ p.drop (i + 4) = rest := by
  constructor
  · rw [← u32At_le32_append hn rest, ← h, u32At, u32At, u16At_drop, u16At_drop]
    rfl
  · rw [← List.drop_drop, h]
    rfl

/-- The vertices that a host wrote read back (R33). -/
theorem verticesAt_wire (vs : List (Int × Int)) (h : ∀ v ∈ vs, OnSheet v.1 ∧ OnSheet v.2) {p : List Byte} {i : Nat}
    (hdrop : p.drop i = vs.flatMap fun v => wire16 v.1 ++ wire16 v.2) : verticesAt p vs.length i = vs := by
  induction vs generalizing i with
  | nil => rfl
  | cons v rest ih =>
    obtain ⟨hv, hrest⟩ := List.forall_mem_cons.mp h
    rw [List.flatMap_cons, List.append_assoc] at hdrop
    obtain ⟨hx, hnext⟩ := take_coordinate hdrop hv.1
    obtain ⟨hy, hnext⟩ := take_coordinate hnext hv.2
    rw [List.length_cons, verticesAt, hx, hy, ih hrest hnext]

theorem ofLength_eq {p : List Byte} {n : Nat} (h : p.length = n) (shape : RawShape) :
    ofLength p n shape = .ok shape := if_pos h

theorem ofLength_ok {p : List Byte} {n : Nat} {shape shape' : RawShape}
    (h : ofLength p n shape = .ok shape') : p.length = n ∧ shape = shape' := by
  unfold ofLength at h
  split at h <;> simp_all

/-- A shape's bytes read back as it (R29, R30). -/
theorem parseShape_of_drop {p : List Byte} {shape : Shape} (h6 : p.drop 6 = shapeBytes shape)
    (h : ShapeInRange shape) : parseShape (kindCode shape).toNat p = .ok (rawShapeOf shape) := by
  have hlen : p.length = 6 + (shapeBytes shape).length := by
    have hsub := congrArg List.length h6
    rw [List.length_drop] at hsub
    have : 1 ≤ (shapeBytes shape).length := by
      cases shape <;> simp [shapeBytes, wire16, le16]
    omega
  cases shape with
  | rule x y w hh =>
    obtain ⟨hx, hy, hw, hh⟩ := h
    simp only [shapeBytes, List.append_assoc] at h6
    obtain ⟨ex, h8⟩ := take_coordinate h6 hx
    obtain ⟨ey, h10⟩ := take_coordinate h8 hy
    obtain ⟨ew, h12⟩ := take_u16 h10 (by omega)
    obtain ⟨eh, -⟩ := take_u16 (rest := []) (h12.trans (List.append_nil _).symm) (by omega)
    exact (ofLength_eq hlen _).trans (by rw [ex, ey, ew, eh]; rfl)
  | stroke x0 y0 x1 y1 thickness ends =>
    obtain ⟨hx0, hy0, hx1, hy1, ht⟩ := h
    simp only [shapeBytes, List.append_assoc] at h6
    obtain ⟨ex0, h8⟩ := take_coordinate h6 hx0
    obtain ⟨ey0, h10⟩ := take_coordinate h8 hy0
    obtain ⟨ex1, h12⟩ := take_coordinate h10 hx1
    obtain ⟨ey1, h14⟩ := take_coordinate h12 hy1
    obtain ⟨et, h15⟩ := take_u8 h14
    obtain ⟨ee, -⟩ := take_u8 h15
    rw [toNat_byteOf (by omega)] at et
    exact (ofLength_eq hlen _).trans (by rw [ex0, ey0, ex1, ey1, et, ee]; rfl)
  | fill vs =>
    obtain ⟨hcount, hvs⟩ := h
    obtain ⟨ec, h7⟩ := take_u8 h6
    rw [toNat_byteOf (by omega)] at ec
    have hlen' : p.length = 7 + 4 * u8At p 6 := by
      have hbytes := congrArg List.length h7
      rw [List.length_drop, List.length_flatMap, show (vs.map fun v => (wire16 v.1 ++ wire16 v.2).length) =
        vs.map (fun _ => 4) from rfl, List.map_const', List.sum_replicate, smul_eq_mul] at hbytes
      omega
    exact (if_neg (by omega)).trans ((ofLength_eq hlen' _).trans (by rw [ec, verticesAt_wire vs hvs h7]; rfl))
  | place bitmap x y o whitens =>
    obtain ⟨hb, hx, hy⟩ := h
    simp only [shapeBytes, List.append_assoc] at h6
    obtain ⟨eb, h8⟩ := take_u16 h6 hb.2
    obtain ⟨ex, h10⟩ := take_coordinate h8 hx
    obtain ⟨ey, h12⟩ := take_coordinate h10 hy
    obtain ⟨eo, h13⟩ := take_u8 h12
    obtain ⟨ew, -⟩ := take_u8 h13
    exact (ofLength_eq hlen _).trans (by rw [eb, ex, ey, eo, ew]; rfl)
  | text font x y o spacing codes =>
    obtain ⟨hf, hx, hy, hs, hc⟩ := h
    simp only [shapeBytes, List.append_assoc] at h6
    obtain ⟨ef, h8⟩ := take_u16 h6 hf.2
    obtain ⟨ex, h10⟩ := take_coordinate h8 hx
    obtain ⟨ey, h12⟩ := take_coordinate h10 hy
    obtain ⟨eo, h13⟩ := take_u8 h12
    obtain ⟨es, h14⟩ := take_s8 h13 (by omega)
    obtain ⟨eform, h15⟩ := take_u8 h14
    obtain ⟨ec, h16⟩ := take_u8 h15
    rw [toNat_byteOf (by omega)] at ec
    replace h16 : p.drop 16 = codes := h16
    replace ec : u8At p 15 = codes.length := ec
    have hlen' : p.length = 16 + u8At p 15 := by
      have hbytes := congrArg List.length h16
      rw [List.length_drop] at hbytes
      omega
    exact (if_neg (by omega)).trans ((if_pos eform).trans ((if_neg (by omega)).trans
      ((ofLength_eq hlen' _).trans (by rw [ef, ex, ey, eo, es, h16]; rfl))))
  | counter font x y o spacing start step digits =>
    obtain ⟨hf, hx, hy, hs, hstart, hstep, hd⟩ := h
    simp only [shapeBytes, List.append_assoc] at h6
    obtain ⟨ef, h8⟩ := take_u16 h6 hf.2
    obtain ⟨ex, h10⟩ := take_coordinate h8 hx
    obtain ⟨ey, h12⟩ := take_coordinate h10 hy
    obtain ⟨eo, h13⟩ := take_u8 h12
    obtain ⟨es, h14⟩ := take_s8 h13 (by omega)
    obtain ⟨eform, h15⟩ := take_u8 h14
    obtain ⟨estart, h19⟩ := take_u32 h15 (by omega)
    obtain ⟨estep, h21⟩ := take_s16 h19 (by omega)
    obtain ⟨ed, -⟩ := take_u8 h21
    rw [toNat_byteOf (by omega)] at ed
    have hform : ¬ u8At p 14 = 0 := by
      rw [eform]
      decide
    have hlen' : p.length = 22 := hlen
    exact (if_neg (by omega)).trans ((if_neg hform).trans ((if_pos eform).trans
      ((ofLength_eq hlen _).trans (by rw [ef, ex, ey, eo, es, estart, estep, ed]; rfl))))
  | bars x y height m along widths =>
    obtain ⟨hx, hy, hheight, hm, hcount, hwidths⟩ := h
    simp only [shapeBytes, List.append_assoc] at h6
    obtain ⟨ex, h8⟩ := take_coordinate h6 hx
    obtain ⟨ey, h10⟩ := take_coordinate h8 hy
    obtain ⟨eh, h12⟩ := take_u16 h10 (by omega)
    obtain ⟨em, h13⟩ := take_u8 h12
    obtain ⟨ea, h14⟩ := take_u8 h13
    obtain ⟨ec, h15⟩ := take_u8 h14
    rw [toNat_byteOf (by omega)] at em ec
    have hread : (widths.map byteOf).map BitVec.toNat = widths := by
      rw [List.map_map]
      exact (List.map_congr_left fun w hw => toNat_byteOf (by have := hwidths w hw; omega)).trans (List.map_id _)
    replace h15 : p.drop 15 = widths.map byteOf := h15
    replace ec : u8At p 14 = widths.length := ec
    have hlen' : p.length = 15 + u8At p 14 := by
      have hbytes := congrArg List.length h15
      rw [List.length_drop, List.length_map] at hbytes
      omega
    exact (if_neg (by omega)).trans ((ofLength_eq hlen' _).trans
      (by rw [ex, ey, eh, em, ea, h15, hread]; rfl))

theorem byteOf_u8At {p : List Byte} {i : Nat} {b : Byte} (h : u8At p i = b.toNat) : byteOf (u8At p i) = b := by
  rw [h, byteOf_toNat]

/-- A payload that reads as a shape holds exactly the shape's bytes (R29, R30). -/
theorem drop_of_parseShape {p : List Byte} {shape : Shape}
    (h : parseShape (u8At p 2) p = .ok (rawShapeOf shape)) :
    byteOf (u8At p 2) = kindCode shape ∧ p.drop 6 = shapeBytes shape ∧ shape.namedAsset ≤ 65535 := by
  have hend {n : Nat} (h : p.length = n) : p.drop n = [] := List.drop_eq_nil_of_le h.le
  unfold parseShape at h
  split at h
  next hk =>
    obtain ⟨hlen, heq⟩ := ofLength_ok h
    cases shape <;> cases heq
    refine ⟨by rw [hk]; rfl, ?_, Nat.zero_le _⟩
    rw [drop_s16 (by omega), drop_s16 (i := 8) (by omega), drop_u16 (i := 10) (by omega),
      drop_u16 (i := 12) (by omega), hend hlen]
    rfl
  next hk =>
    obtain ⟨hlen, heq⟩ := ofLength_ok h
    cases shape <;> simp only [rawShapeOf, RawShape.stroke.injEq, reduceCtorEq] at heq
    obtain ⟨rfl, rfl, rfl, rfl, rfl, hends⟩ := heq
    refine ⟨by rw [hk]; rfl, ?_, Nat.zero_le _⟩
    rw [drop_s16 (by omega), drop_s16 (i := 8) (by omega), drop_s16 (i := 10) (by omega),
      drop_s16 (i := 12) (by omega), drop_u8 (i := 14) (by omega), drop_u8 (i := 15) (by omega), hend hlen,
      byteOf_u8At hends]
    rfl
  next hk =>
    split at h
    · simp at h
    obtain ⟨hlen, heq⟩ := ofLength_ok h
    cases shape <;> cases heq
    refine ⟨by rw [hk]; rfl, ?_, Nat.zero_le _⟩
    rw [shapeBytes, verticesAt_length, drop_u8 (by omega), drop_vertices (n := u8At p 6) (i := 7) (by omega),
      hend hlen, List.append_nil]
  next hk =>
    obtain ⟨hlen, heq⟩ := ofLength_ok h
    cases shape <;> simp only [rawShapeOf, RawShape.place.injEq, reduceCtorEq] at heq
    obtain ⟨rfl, rfl, rfl, hturn, hflag⟩ := heq
    refine ⟨by rw [hk]; rfl, ?_, u16At_le _ _⟩
    rw [drop_u16 (by omega), drop_s16 (i := 8) (by omega), drop_s16 (i := 10) (by omega),
      drop_u8 (i := 12) (by omega), drop_u8 (i := 13) (by omega), hend hlen, byteOf_u8At hturn, byteOf_u8At hflag]
    rfl
  next hk =>
    unfold parseText at h
    split at h
    · simp at h
    split at h
    next hform =>
      split at h
      · simp at h
      obtain ⟨hlen, heq⟩ := ofLength_ok h
      cases shape <;> simp only [rawShapeOf, RawShape.text.injEq, reduceCtorEq] at heq
      obtain ⟨rfl, rfl, rfl, hturn, rfl, rfl⟩ := heq
      refine ⟨by rw [hk]; rfl, ?_, u16At_le _ _⟩
      have hcount : (p.drop 16).length = u8At p 15 := by
        rw [List.length_drop]
        omega
      rw [shapeBytes, hcount, drop_u16 (by omega), drop_s16 (i := 8) (by omega), drop_s16 (i := 10) (by omega),
        drop_u8 (i := 12) (by omega), drop_s8 (i := 13) (by omega), drop_u8 (i := 14) (by omega),
        drop_u8 (i := 15) (by omega), byteOf_u8At hturn, hform]
      simp [byteOf]
    next =>
      split at h
      next hform =>
        obtain ⟨hlen, heq⟩ := ofLength_ok h
        cases shape <;> simp only [rawShapeOf, RawShape.counter.injEq, reduceCtorEq] at heq
        obtain ⟨rfl, rfl, rfl, hturn, rfl, rfl, rfl, rfl⟩ := heq
        refine ⟨by rw [hk]; rfl, ?_, u16At_le _ _⟩
        rw [drop_u16 (by omega), drop_s16 (i := 8) (by omega), drop_s16 (i := 10) (by omega),
          drop_u8 (i := 12) (by omega), drop_s8 (i := 13) (by omega), drop_u8 (i := 14) (by omega),
          drop_u32 (i := 15) (by omega), drop_s16 (i := 19) (by omega), drop_u8 (i := 21) (by omega), hend hlen,
          byteOf_u8At hturn, hform]
        simp [shapeBytes, byteOf]
      next => simp at h
  next hk =>
    split at h
    · simp at h
    obtain ⟨hlen, heq⟩ := ofLength_ok h
    cases shape <;> simp only [rawShapeOf, RawShape.bars.injEq, reduceCtorEq] at heq
    obtain ⟨rfl, rfl, rfl, rfl, hflag, rfl⟩ := heq
    refine ⟨by rw [hk]; rfl, ?_, Nat.zero_le _⟩
    have hbytes : ((p.drop 15).map BitVec.toNat).map byteOf = p.drop 15 := by
      rw [List.map_map]
      exact (List.map_congr_left fun b _ => byteOf_toNat b).trans (List.map_id _)
    have hcount : ((p.drop 15).map BitVec.toNat).length = u8At p 14 := by
      rw [List.length_map, List.length_drop]
      omega
    rw [shapeBytes, hbytes, hcount, drop_s16 (by omega), drop_s16 (i := 8) (by omega), drop_u16 (i := 10) (by omega),
      drop_u8 (i := 12) (by omega), drop_u8 (i := 13) (by omega), drop_u8 (i := 14) (by omega), byteOf_u8At hflag]
    simp
  next => simp at h

/-! ### Whole payloads -/

/-- An object with every field in the range of R27 to R37. -/
structure CheckedObject.Legal (o : CheckedObject) : Prop where
  page : o.page ≤ 65535
  shape : ShapeInRange o.shape
  source : SourceAllowed o.source o.shape

theorem sourceAllowed_iff {shape : Shape} {source : Nat} (h : source ≤ 65535) :
    (rawShapeOf shape).sourceAllowed source = true ↔ SourceAllowed source shape := by
  cases shape <;> simp [rawShapeOf, RawShape.sourceAllowed, SourceAllowed, h]

theorem SourceAllowed.le {shape : Shape} {source : Nat} (h : SourceAllowed source shape) : source ≤ 65535 := by
  cases shape <;> simp only [SourceAllowed] at h <;> omega

theorem objectPayload_drop (o : CheckedObject) :
    (objectPayload o).drop 0 = le16 o.page ++ kindCode o.shape :: mixCode o.mix :: (le16 o.source ++
      shapeBytes o.shape) := rfl

/-- A legal object's payload reads back as it (R29, R38). -/
theorem parseObject_payload {o : CheckedObject} (h : o.Legal) :
    ∃ raw, parseObject (objectPayload o) = .ok raw ∧ raw.check = some o := by
  obtain ⟨epage, h2⟩ := take_u16 (objectPayload_drop o) h.page
  obtain ⟨ekind, h3⟩ := take_u8 h2
  obtain ⟨emix, h4⟩ := take_u8 h3
  obtain ⟨esource, h6⟩ := take_u16 h4 h.source.le
  have hshape : parseShape (u8At (objectPayload o) 2) (objectPayload o) = .ok (rawShapeOf o.shape) := by
    rw [show u8At (objectPayload o) 2 = _ from ekind]
    exact parseShape_of_drop h6 h.shape
  refine ⟨{ page := o.page, mix := (mixCode o.mix).toNat, source := o.source, shape := rawShapeOf o.shape }, ?_, ?_⟩
  · rw [parseObject, if_neg (by simp [objectPayload, le16]), hshape]
    simp only [Except.ok.injEq, RawObject.mk.injEq, and_true]
    exact ⟨epage, emix, esource⟩
  · rw [RawObject.check, if_pos ((sourceAllowed_iff h.source.le).mpr h.source), (Mix.ofCode_iff _ _).mpr rfl,
      Option.bind_some, rawShapeOf_check h.shape]
    rfl

/-- A payload that passes checks 1 and 2 is a legal object's (R29, R38). -/
theorem payload_of_check {p : List Byte} {raw : RawObject} {o : CheckedObject} (hparse : parseObject p = .ok raw)
    (hcheck : raw.check = some o) : o.Legal ∧ objectPayload o = p := by
  unfold parseObject at hparse
  split at hparse
  · simp at hparse
  next hlen =>
  split at hparse
  · simp at hparse
  next shape hshape =>
  obtain rfl := Except.ok.inj hparse
  unfold RawObject.check at hcheck
  split at hcheck
  next hsource =>
    obtain ⟨mix, hmix, hmap⟩ := Option.bind_eq_some_iff.mp hcheck
    obtain ⟨checked, hchecked, rfl⟩ := Option.map_eq_some_iff.mp hmap
    obtain rfl := RawShape.check_eq_some hchecked
    obtain ⟨hkind, hdrop, hasset⟩ := drop_of_parseShape hshape
    refine ⟨⟨u16At_le _ _, shapeInRange_of_check hchecked hasset, (sourceAllowed_iff (u16At_le _ _)).mp hsource⟩, ?_⟩
    have hbytes : p.drop 0 = _ := drop_u16 (by omega)
    rw [drop_u8 (i := 2) (by omega), drop_u8 (i := 3) (by omega), drop_u16 (i := 4) (by omega), hdrop, hkind,
      byteOf_u8At ((Mix.ofCode_iff _ _).mp hmix)] at hbytes
    exact hbytes.symm
  next => simp at hcheck

/-- Check 1 fails by the length that the kind requires (R30). -/
theorem lengthFailure_iff (p : List Byte) (status : Status) :
    lengthFailure p = some status ↔ parseObject p = .error status := by
  have hexact (n : Nat) (shape : RawShape) :
      (if p.length = n then none else some Status.badLength) = some status ↔ ofLength p n shape = .error status := by
    unfold ofLength
    split <;> simp
  unfold lengthFailure parseObject
  simp only [show ∀ i, (p.getD i 0).toNat = u8At p i from fun _ => rfl]
  split
  · simp
  have hshape : (match parseShape (u8At p 2) p with
      | .error status => .error status
      | .ok shape => .ok { page := u16At p 0, mix := u8At p 3, source := u16At p 4, shape := shape }) =
      (Except.error status : Except Status RawObject) ↔ parseShape (u8At p 2) p = .error status := by
    cases parseShape (u8At p 2) p <;> simp
  refine Iff.trans ?_ hshape.symm
  split
  next hk =>
    obtain hk | hk := hk <;> rw [hk] <;> exact hexact 14 _
  split
  next hk =>
    rw [hk]
    exact hexact 16 _
  split
  next hk =>
    rw [hk, parseShape]
    split
    · simp
    · exact hexact (7 + 4 * u8At p 6) _
  split
  next hk =>
    rw [hk, parseShape]
    split
    · simp
    · exact hexact (15 + u8At p 14) _
  split
  next hk =>
    rw [hk, parseShape, parseText]
    split
    · simp
    split
    · split
      · simp
      · exact hexact (16 + u8At p 15) _
    split
    · exact hexact 22 _
    · simp
  next => simp_all [parseShape]

/-- Settles O35: the fields are read where a host wrote them. -/
theorem objectPayloadReadsBack : Obligations.ObjectPayloadReadsBack :=
  fun _ hpage hshape hsource => parseObject_payload ⟨hpage, hshape, hsource⟩

/-! ### The checks of OBJECT_ADD, in order (R25) -/

theorem addObject_of_lengthFailure {rq : Request} {s : State} {status : Status}
    (h : lengthFailure rq.payload = some status) : addObject rq s = (s, status, refusedObject 1) := by
  simp only [addObject, (lengthFailure_iff _ _).mp h]

theorem addObject_of_illegal {rq : Request} {s : State} (hlength : lengthFailure rq.payload = none)
    (h : ∀ o : CheckedObject, o.Legal → objectPayload o ≠ rq.payload) :
    addObject rq s = (s, .badValue, refusedObject 2) := by
  unfold addObject
  cases hparse : parseObject rq.payload with
  | error status => simp [(lengthFailure_iff _ _).mpr hparse] at hlength
  | ok raw =>
    cases hcheck : raw.check with
    | none => simp only [hcheck]
    | some o => exact absurd (payload_of_check hparse hcheck).2 (h o (payload_of_check hparse hcheck).1)

/-- The request passes the checks of its payload (R29, R38) and names this page. -/
theorem addObject_of_legal {rq : Request} {s : State} {o : CheckedObject} (hp : rq.payload = objectPayload o)
    (h : o.Legal) : addObject rq s =
      match s.page? o.page with
      | none => (s, .notFound, refusedObject 3)
      | some page =>
        if page.state ≠ .opened then (s, .wrongState, refusedObject 3)
        else
          match checkAsset o s with
          | .error status => (s, status, refusedObject 4)
          | .ok asset => placeObject o page asset s := by
  obtain ⟨raw, hparse, hcheck⟩ := parseObject_payload h
  simp only [addObject, hp, hparse, hcheck] <;> rfl

/-- The request has passed checks 1 to 4 (R25). -/
theorem addObject_of_checked {rq : Request} {s : State} {o : CheckedObject} {page : Page} {asset : Option Asset}
    (hp : rq.payload = objectPayload o) (h : o.Legal) (hpage : s.page? o.page = some page)
    (hopen : page.state = .opened) (hasset : checkAsset o s = .ok asset) :
    addObject rq s = placeObject o page asset s := by
  simp [addObject_of_legal hp h, hpage, hopen, hasset]

theorem placeObject_of_empty {o : CheckedObject} {page : Page} {asset : Option Asset} {s : State}
    (h : ((o.shape.box asset).clip page.width page.length).isEmpty = true) :
    placeObject o page asset s = (cullObject page s, .ok,
      .objectAdd
        { failedCheck := 0, number := 0,
          clippedFlag := clippedFlag (o.shape.box asset) page.width page.length, culledFlag := true, firstBand := 0,
          bandsTouched := 0, substitutions := (o.shape.warnings asset).1,
          skipped := (o.shape.warnings asset).2 }) := if_pos h

theorem placeObject_of_shortfall {o : CheckedObject} {page : Page} {asset : Option Asset} {s : State}
    {status : Status} (h : ((o.shape.box asset).clip page.width page.length).isEmpty = false)
    (hpools : poolShortfall s.composer o.shape.elements
      ((o.shape.box asset).clip page.width page.length).bandsTouched = some status) :
    placeObject o page asset s = (s, status, refusedObject 6) := by
  simp [placeObject, h, hpools]

theorem placeObject_of_room {o : CheckedObject} {page : Page} {asset : Option Asset} {s : State}
    (h : ((o.shape.box asset).clip page.width page.length).isEmpty = false)
    (hpools : poolShortfall s.composer o.shape.elements
      ((o.shape.box asset).clip page.width page.length).bandsTouched = none) :
    placeObject o page asset s =
      let record := recordOf o page ((o.shape.box asset).clip page.width page.length)
      (storeObject record page (o.shape.warnings asset) s, .ok,
        .objectAdd
          { failedCheck := 0, number := record.number,
            clippedFlag := clippedFlag (o.shape.box asset) page.width page.length, culledFlag := false,
            firstBand := record.firstBand, bandsTouched := record.bandsTouched,
            substitutions := (o.shape.warnings asset).1, skipped := (o.shape.warnings asset).2 }) := by
  simp [placeObject, h, hpools]

/-- Nothing that check 4 reads changes when a request takes its slot. -/
theorem checkAsset_taken (rq : Request) (o : CheckedObject) (s : State) :
    checkAsset o (taken rq s) = checkAsset o s := by
  simp only [checkAsset, taken_asset?] <;> rfl

/-! ### OBJECT_ADD of an object that is stored -/

/-- The page with the stored object on it (R61, R62). -/
theorem Page.store_eq (p : Page) (o : StoredObject) (w : Nat × Nat) :
    p.store o w = { p with
      storedCount := p.storedCount + 1, objects := p.objects ++ [o],
      substitutions := min 65535 (p.substitutions + w.1), skipped := min 65535 (p.skipped + w.2),
      bandLists := p.bandLists.mapIdx fun b list => if o.touches b then list ++ [o.number] else list } := by
  simp [Page.store, appendLinks, saturate, Config.counterTop, StoredObject.touches]

/-- A page looked up in a state whose table is another's with one entry changed. -/
theorem State.page?_of_changed {s u : State} {id : Nat} {f : Page → Page} (hf : ∀ p, (f p).id = p.id)
    (h : u.composer.pages = Machine.changePage id f s.composer.pages) (j : Nat) :
    u.page? j = if j = id then (s.page? j).map f else s.page? j := by
  rw [State.page?, h]
  exact find_changePage id j f hf s.composer.pages

/-- Settles O36: the object passes the checks, and its record is stored. -/
theorem objectAddStores : Obligations.ObjectAddStores := by
  unfold Obligations.ObjectAddStores
  intro seq o page asset s rq whole box bands stored warnings hpage hshape hsource hfound hopen hasset hbox hobjects
    helements hlinks htakes
  have hpools : poolShortfall (taken rq s).composer o.shape.elements bands = none := by
    rw [taken_composer, poolShortfall, if_neg (by omega), if_neg (by omega), if_neg (by omega)]
  have howner : addObject rq (taken rq s) = _ :=
    (addObject_of_checked rfl ⟨hpage, hshape, hsource⟩ ((taken_page? rq s _).trans hfound) hopen
      ((checkAsset_taken rq o s).trans hasset)).trans (placeObject_of_room hbox hpools)
  obtain ⟨u, hu, hanswered, hkeeps, hsame⟩ := effect_request_of_keeps (changed := [.composer, .assets]) addObject
    htakes howner (by intro p hp; cases p <;> first | rfl | simp at hp) (by decide) (by decide) (by decide)
  have hc : u.composer = { s.composer with
      pages := changePage o.page (fun p => p.store stored warnings) s.composer.pages,
      freeObjects := s.composer.freeObjects - 1, freeElements := s.composer.freeElements - o.shape.elements,
      freeLinks := s.composer.freeLinks - bands } := by
    rw [show u.composer = _ from hsame .composer (by decide), ← State.page?_id hfound]
    simp only [storeObject, State.withAssets_composer, State.withComposer_composer, taken_composer]
    rfl
  have ha : u.assets = s.assets.lendTo stored := by
    rw [show u.assets = _ from hsame .assets (by decide)]
    exact congrArg (AssetStore.lendTo · stored) (taken_assets rq s)
  have hview := State.page?_of_changed (s := s) (u := u) (f := fun p => p.store stored warnings) (fun _ => rfl)
    (congrArg Composer.pages hc)
  refine ⟨u, congrArg Host.Outcome.next hu, hanswered, ?_, fun id hid => (hview id).trans (if_neg hid),
    (congrArg Composer.queue hc :), (congrArg Composer.lastId hc :), (congrArg Composer.freeObjects hc :),
    (congrArg Composer.freeElements hc :), (congrArg Composer.freeLinks hc :), ?_, ?_, hkeeps⟩
  · rw [hview, if_pos rfl, hfound]
    exact congrArg some (Page.store_eq page stored warnings)
  · rw [ha, AssetStore.lendTo_table]
    rfl
  · rw [ha, AssetStore.lendTo]
    split <;> rfl

/-! ### OBJECT_ADD of an object that is not stored -/

/-- A request whose owner leaves the state is answered, and changes no block. -/
theorem refused_request {rq : Request} {s : State} {status : Status} {results : Results}
    (f : Request → State → State × Status × Results) (h : Takes rq s)
    (hf : f rq (taken rq s) = (taken rq s, status, results)) :
    ∃ t, request (answering f) id rq s = t ∧ Answered rq status results s t ∧ RequestKeeps [] s t := by
  obtain ⟨u, hu, hanswered, hkeeps, -⟩ := effect_request_of_keeps f h hf (Keeps.refl [] _) (by decide) (by decide)
    (by decide)
  exact ⟨u, hu, hanswered, hkeeps⟩

theorem checkAsset_of_named {o : CheckedObject} {s : State} {id : Nat} (h : o.shape.assetId? o.source = some id) :
    checkAsset o s =
      match s.asset? id with
      | none => .error .notFound
      | some a =>
        match a.state with
        | .loading => .error .assetNotReady
        | .doomed => .error .assetGone
        | .ready => if a.kind = o.shape.needs then .ok (some a) else .error .badValue := by
  simp only [checkAsset, h] <;> rfl

theorem Shape.needs_eq (shape : Shape) :
    shape.needs = match kindCode shape with | 4 => .bitmap | 5 => .font | _ => .pattern := by
  cases shape <;> rfl

/-- Settles O37: the first check that fails decides, and an empty clipped box is counted. -/
theorem objectAddCulls : Obligations.ObjectAddCulls := by
  unfold Obligations.ObjectAddCulls
  refine ⟨?_, ?_⟩
  · intro seq payload s rq refused htakes
    have hrefused {check : Nat} {status : Status}
        (h : addObject rq (taken rq s) = (taken rq s, status, refusedObject check)) : refused check status := by
      obtain ⟨t, ht, hanswered, hkeeps⟩ := refused_request addObject htakes h
      exact ⟨t, congrArg Host.Outcome.next ht, hanswered, hkeeps⟩
    refine ⟨fun status hlength => hrefused (addObject_of_lengthFailure hlength), fun hlength hnone => hrefused
      (addObject_of_illegal hlength fun o hlegal => hnone o hlegal.page hlegal.shape hlegal.source), ?_⟩
    intro o hpage hshape hsource hp
    have hlegal : o.Legal := ⟨hpage, hshape, hsource⟩
    have howner := addObject_of_legal (s := taken rq s) (show rq.payload = _ from hp) hlegal
    refine ⟨fun hnone => hrefused ?_, fun page hfound => ⟨fun hstate => hrefused ?_, fun hopen => ⟨?_, ?_⟩⟩⟩
    · rw [howner, taken_page?, hnone]
    · rw [howner, taken_page?, hfound]
      exact if_pos hstate
    · intro id hid
      have hasset {status : Status} (h : checkAsset o s = .error status) : refused 4 status := by
        refine hrefused ?_
        rw [howner, taken_page?, hfound]
        simp only [hopen, ne_eq, not_true_eq_false, if_false, checkAsset_taken, h]
      rw [checkAsset_of_named hid] at hasset
      refine ⟨fun hnone => hasset (by rw [hnone]), fun a ha => ⟨fun hstate => hasset ?_, fun hstate => hasset ?_,
        fun hstate hkind => hasset ?_⟩⟩
      · simp only [ha, hstate]
      · simp only [ha, hstate]
      · simp only [ha, hstate]
        exact if_neg fun hneeds => hkind (hneeds.trans (Shape.needs_eq o.shape))
    · intro asset hasset box hbox
      have hpools {status : Status}
          (h : poolShortfall (taken rq s).composer o.shape.elements box.bandsTouched = some status) :
          refused 6 status :=
        hrefused ((addObject_of_checked hp hlegal ((taken_page? rq s _).trans hfound) hopen
          ((checkAsset_taken rq o s).trans hasset)).trans (placeObject_of_shortfall hbox h))
      rw [taken_composer, poolShortfall] at hpools
      refine ⟨fun hobjects => hpools (if_pos hobjects), fun hobjects helements => hpools ?_,
        fun hobjects helements hlinks => hpools ?_⟩
      · rw [if_neg (by omega), if_pos helements]
      · rw [if_neg (by omega), if_neg (by omega)]
        exact if_pos hlinks
  · intro seq o page asset s rq whole warnings hpage hshape hsource hfound hopen hasset hbox htakes
    have howner : addObject rq (taken rq s) = _ :=
      (addObject_of_checked rfl ⟨hpage, hshape, hsource⟩ ((taken_page? rq s _).trans hfound) hopen
        ((checkAsset_taken rq o s).trans hasset)).trans (placeObject_of_empty hbox)
    obtain ⟨u, hu, hanswered, hkeeps, hsame⟩ := effect_request_of_keeps (changed := [.composer]) addObject
      htakes howner (by intro p hp; cases p <;> first | rfl | simp at hp) (by decide) (by decide) (by decide)
    have hc : u.composer = { s.composer with
        pages := changePage o.page (fun p => { p with culled := saturate p.culled 1 }) s.composer.pages } := by
      rw [show u.composer = _ from hsame .composer (by decide), ← State.page?_id hfound, ← taken_composer rq s]
      rfl
    have hview := State.page?_of_changed (s := s) (u := u) (f := fun p => { p with culled := saturate p.culled 1 })
      (fun _ => rfl) (congrArg Composer.pages hc)
    refine ⟨u, congrArg Host.Outcome.next hu, hanswered, ?_, fun id hid => (hview id).trans (if_neg hid), ?_, hkeeps⟩
    · rw [hview, if_pos rfl, hfound]
      rfl
    · rw [hc]

end Sys2Proof.Machine
end

section
/-! PROOF. Drawing (chapter 4): the dots of a raster, the digits of a counter, and the boxes that hold what an
object draws (R42 to R50). -/

namespace Sys2Proof.Machine

/-! ### Rasters -/

/-- A raster made dot by dot has those dots. -/
theorem Raster.dot_ofDots (f : Nat → Nat → Bool) {row col : Nat} (hrow : row < 64) (hcol : col < 832) :
    (Raster.ofDots f).dot row col = f row col := by
  rw [Raster.dot, Raster.ofDots, Vector.toArray_ofFn, Array.getD_eq_getD_getElem?, Array.getElem?_ofFn]
  simp [hrow, hcol]

/-- Settles O54: the dot is made by the mix, inside the window. -/
theorem drawnDotFollowsTheMix : Obligations.DrawnDotFollowsTheMix := by
  unfold Obligations.DrawnDotFollowsTheMix
  intro o asset page tag r row col hrow hcol y
  rw [drawObject, Raster.dot_ofDots _ hrow hcol]
  have hwindow : inWindow page.width page.length tag.band row col = true ↔ col < page.width ∧ y < page.length := by
    rw [inWindow, Bool.and_eq_true]
    exact and_congr (decide_eq_true_iff) (decide_eq_true_iff)
  by_cases h : col < page.width ∧ y < page.length
  · rw [if_pos (hwindow.mpr h), if_pos h, StoredObject.dotAfter]
    cases o.mix <;> rfl
  · rw [if_neg (mt hwindow.mp h), if_neg h]

/-! ### Counters -/

theorem decimalCodes_length (digits value : Nat) : (decimalCodes digits value).length = digits := by
  induction digits generalizing value with
  | zero => rfl
  | succ digits ih => rw [decimalCodes, List.length_append, ih, List.length_singleton]

theorem digitCode_toNat (value : Nat) : (byteOf (0x30 + value % 10)).toNat = 0x30 + value % 10 :=
  toNat_byteOf (by omega)

theorem decimalCodes_digits {digits value : Nat} {code : Byte} (h : code ∈ decimalCodes digits value) :
    0x30 ≤ code.toNat ∧ code.toNat ≤ 0x39 := by
  induction digits generalizing value with
  | zero => simp [decimalCodes] at h
  | succ digits ih =>
    obtain h | h := List.mem_append.mp h
    · exact ih h
    · rw [List.mem_singleton.mp h, digitCode_toNat]
      omega

/-- The digits read back as the value, modulo 10 to the power of their count (R88). -/
theorem decimalCodes_value (digits value : Nat) :
    (decimalCodes digits value).foldl (fun v code => 10 * v + (code.toNat - 0x30)) 0 = value % 10 ^ digits := by
  induction digits generalizing value with
  | zero => simp [decimalCodes, Nat.mod_one]
  | succ digits ih =>
    rw [decimalCodes, List.foldl_append, ih, List.foldl_cons, List.foldl_nil, digitCode_toNat, Nat.add_sub_cancel_left,
      Nat.pow_succ', Nat.mod_mul, Nat.add_comm]

/-- Settles O57: the value is reduced, and its digits read back as it. -/
theorem counterShowsItsValue : Obligations.CounterShowsItsValue := by
  unfold Obligations.CounterShowsItsValue
  intro start step digits copy codes
  have hpos : (0 : Int) < (10 ^ digits : Nat) := by positivity
  refine ⟨decimalCodes_length _ _, fun code h => decimalCodes_digits h,
    (start + step * copy) / (10 ^ digits : Nat), ?_⟩
  have hvalue : ((counterValue start step digits copy : Nat) : Int) = (start + step * copy) % (10 ^ digits : Nat) :=
    Int.toNat_of_nonneg (Int.emod_nonneg _ hpos.ne')
  have hlt : counterValue start step digits copy < 10 ^ digits := by
    have := Int.emod_lt_of_pos ((start : Int) + step * copy) hpos
    omega
  rw [show codes = decimalCodes digits (counterValue start step digits copy) from rfl, decimalCodes_value,
    Nat.mod_eq_of_lt hlt, hvalue]
  exact Int.emod_add_ediv_mul _ _

/-! ### Boxes -/

theorem Box.has_iff (b : Box) (x y : Int) : b.has x y = true ↔ b.c0 ≤ x ∧ x < b.c1 ∧ b.r0 ≤ y ∧ y < b.r1 := by
  simp [Box.has, and_assoc]

/-- A box within another has no dot outside it. -/
def Box.Within (a b : Box) : Prop := b.c0 ≤ a.c0 ∧ a.c1 ≤ b.c1 ∧ b.r0 ≤ a.r0 ∧ a.r1 ≤ b.r1

theorem Box.Within.has {a b : Box} (h : a.Within b) {x y : Int} (ha : a.has x y = true) : b.has x y = true := by
  obtain ⟨hc0, hc1, hr0, hr1⟩ := h
  rw [Box.has_iff] at ha ⊢
  omega

theorem Box.within_refl (a : Box) : a.Within a := ⟨le_rfl, le_rfl, le_rfl, le_rfl⟩

theorem Box.Within.trans {a b c : Box} (h : a.Within b) (h' : b.Within c) : a.Within c :=
  ⟨h'.1.trans h.1, h.2.1.trans h'.2.1, h'.2.2.1.trans h.2.2.1, h.2.2.2.trans h'.2.2.2⟩

theorem Box.within_union_left (a b : Box) : a.Within (a.union b) :=
  ⟨min_le_left _ _, le_max_left _ _, min_le_left _ _, le_max_left _ _⟩

theorem Box.within_union_right (a b : Box) : b.Within (a.union b) :=
  ⟨min_le_right _ _, le_max_right _ _, min_le_right _ _, le_max_right _ _⟩

/-- The box around a list holds each box of it. -/
theorem Box.within_unionAll {boxes : List Box} {b : Box} (h : b ∈ boxes) :
    b.Within ((Box.unionAll boxes).getD Box.none) := by
  induction boxes with
  | nil => simp at h
  | cons a rest ih =>
    rw [Box.unionAll]
    cases hrest : Box.unionAll rest with
    | none =>
      obtain rfl | h := List.mem_cons.mp h
      · exact Box.within_refl _
      · cases rest with
        | nil => simp at h
        | cons c rest =>
          rw [Box.unionAll] at hrest
          split at hrest <;> simp at hrest
    | some u =>
      rw [hrest] at ih
      obtain rfl | h := List.mem_cons.mp h
      · exact Box.within_union_left _ _
      · exact (ih h).trans (Box.within_union_right _ _)

/-! ### Strokes (R44) -/

/-- A number runs one way. -/
def Monotonic (f : Nat → Int) : Prop := Monotone f ∨ Antitone f

theorem majorAt_monotonic (a0 a1 : Int) : Monotonic (majorAt a0 a1) := by
  unfold majorAt
  by_cases h : a0 ≤ a1
  · exact .inl fun i j hij => by simp only [h, if_true]; omega
  · exact .inr fun i j hij => by simp only [h, if_false]; omega

theorem minorAt_monotonic (m0 m1 : Int) (n : Nat) : Monotonic (minorAt m0 m1 n) := by
  unfold minorAt
  by_cases hn : n = 0
  · exact .inl fun i j _ => by simp [hn]
  · simp only [hn, if_false]
    obtain h | h := Int.le_total 0 (m1 - m0)
    · refine .inl fun i j hij => Int.ediv_le_ediv (by omega) ?_
      have : (m1 - m0) * i ≤ (m1 - m0) * j := Int.mul_le_mul_of_nonneg_left (by exact_mod_cast hij) h
      omega
    · refine .inr fun i j hij => Int.ediv_le_ediv (by omega) ?_
      have : (m1 - m0) * j ≤ (m1 - m0) * i := Int.mul_le_mul_of_nonpos_left h (by exact_mod_cast hij)
      omega

theorem Monotonic.between {f : Nat → Int} (h : Monotonic f) {i j k : Nat} (hij : i ≤ j) (hjk : j ≤ k) :
    min (f i) (f k) ≤ f j ∧ f j ≤ max (f i) (f k) := by
  obtain h | h := h <;> (have h1 := h hij; have h2 := h hjk; omega)

/-- A step dot lies between any two of which one comes before it and one after (R32, R80). -/
theorem stepDot_between (x0 y0 x1 y1 : Int) {i j k : Nat} (hij : i ≤ j) (hjk : j ≤ k) :
    let d := stepDot x0 y0 x1 y1
    (min (d i).1 (d k).1 ≤ (d j).1 ∧ (d j).1 ≤ max (d i).1 (d k).1) ∧
      min (d i).2 (d k).2 ≤ (d j).2 ∧ (d j).2 ≤ max (d i).2 (d k).2 := by
  intro d
  simp only [d, stepDot]
  split
  · exact ⟨(majorAt_monotonic _ _).between hij hjk, (minorAt_monotonic _ _ _).between hij hjk⟩
  · exact ⟨(minorAt_monotonic _ _ _).between hij hjk, (majorAt_monotonic _ _).between hij hjk⟩

theorem strokeBox_has {x0 y0 x1 y1 : Int} {thickness : Nat} {ends : EndMode} {x y : Int}
    (h : strokeCovers x0 y0 x1 y1 thickness ends x y = true) :
    (strokeBox x0 y0 x1 y1 thickness ends).has x y = true := by
  obtain ⟨i, hi, hsquare⟩ := List.any_eq_true.mp h
  have hkept := List.mem_range.mp hi
  obtain ⟨⟨hx0, hx1⟩, hy0, hy1⟩ := stepDot_between x0 y0 x1 y1 (show ends.first ≤ ends.first + i by omega)
    (show ends.first + i ≤ ends.first + keptSteps ends (strokeLast x0 y0 x1 y1) - 1 by omega)
  rw [strokeBox, if_neg (by omega)]
  refine Box.Within.has ?_ hsquare
  simp only [Box.Within, Box.union, penSquare]
  omega

/-! ### Polygons (R45, R82) -/

theorem leastOf_le {first z : Int} {rest : List Int} (h : z ∈ first :: rest) : leastOf first rest ≤ z := by
  have hbase (l : List Int) (a : Int) : l.foldl min a ≤ a := by
    induction l generalizing a with
    | nil => exact le_rfl
    | cons b l ih => exact (ih _).trans (min_le_left _ _)
  unfold leastOf
  induction rest generalizing first with
  | nil => simp_all
  | cons b rest ih =>
    rw [List.foldl_cons]
    obtain rfl | h := List.mem_cons.mp h
    · exact (hbase _ _).trans (min_le_left _ _)
    · obtain rfl | h := List.mem_cons.mp h
      · exact (hbase _ _).trans (min_le_right _ _)
      · exact ih (List.mem_cons_of_mem _ h)

theorem le_greatestOf {first z : Int} {rest : List Int} (h : z ∈ first :: rest) : z ≤ greatestOf first rest := by
  have hbase (l : List Int) (a : Int) : a ≤ l.foldl max a := by
    induction l generalizing a with
    | nil => exact le_rfl
    | cons b l ih => exact (le_max_left _ _).trans (ih _)
  unfold greatestOf
  induction rest generalizing first with
  | nil => simp_all
  | cons b rest ih =>
    rw [List.foldl_cons]
    obtain rfl | h := List.mem_cons.mp h
    · exact (le_max_left _ _).trans (hbase _ _)
    · obtain rfl | h := List.mem_cons.mp h
      · exact (le_max_right _ _).trans (hbase _ _)
      · exact ih (List.mem_cons_of_mem _ h)

/-- An edge crosses a sample line when its ends lie on different sides. -/
theorem edgeCrosses_eq (a b : Int × Int) (y : Int) :
    edgeCrosses a b y = (decide (a.2 ≤ y) != decide (b.2 ≤ y)) := by
  unfold edgeCrosses
  by_cases ha : a.2 ≤ y <;> by_cases hb : b.2 ≤ y <;> simp [ha, hb] <;> omega

/-- A path crosses a sample line an odd number of times when its ends lie on different sides. -/
theorem crossings_parity (y : Int) (v w : Int × Int) (rest : List (Int × Int)) :
    (((v :: rest).zip (rest ++ [w])).countP fun e => edgeCrosses e.1 e.2 y) % 2 =
      if decide (v.2 ≤ y) = decide (w.2 ≤ y) then 0 else 1 := by
  induction rest generalizing v with
  | nil => by_cases h : decide (v.2 ≤ y) = decide (w.2 ≤ y) <;> simp [edgeCrosses_eq, h]
  | cons u rest ih =>
    rw [List.cons_append, List.zip_cons_cons, List.countP_cons, Nat.add_mod, ih u, edgeCrosses_eq]
    cases decide (v.2 ≤ y) <;> cases decide (u.2 ≤ y) <;> cases decide (w.2 ≤ y) <;> rfl

/-- A polygon crosses a sample line an even number of times. -/
theorem polygon_crossings (vs : List (Int × Int)) (y : Int) :
    ((polygonEdges vs).countP fun e => edgeCrosses e.1 e.2 y) % 2 = 0 := by
  cases vs with
  | nil => rfl
  | cons v rest => exact (crossings_parity y v v rest).trans (if_pos rfl)

/-- The ends of a polygon's edges are its vertices (R33). -/
theorem mem_polygonEdges {vs : List (Int × Int)} {e : (Int × Int) × (Int × Int)} (h : e ∈ polygonEdges vs) :
    e.1 ∈ vs ∧ e.2 ∈ vs := by
  obtain ⟨h1, h2⟩ := List.of_mem_zip h
  refine ⟨h1, ?_⟩
  cases vs with
  | nil => simp at h1
  | cons v rest => simpa [or_comm] using h2

/-- Where an edge crosses a sample line, as its ends' columns in the proportion of their distances from the line. -/
theorem crossesLeft_iff {a b : Int × Int} {y : Int} (hcross : edgeCrosses a b y = true) (x : Int) :
    ∃ p q : Int, 0 < p ∧ 0 < q ∧
      (crossesLeft a b x y = true ↔ 2 * (a.1 * q + b.1 * p) ≤ (2 * x + 1) * (p + q)) := by
  simp only [edgeCrosses, Bool.or_eq_true, Bool.and_eq_true, decide_eq_true_eq] at hcross
  simp only [crossesLeft]
  obtain ⟨ha, hb⟩ | ⟨hb, ha⟩ := hcross
  · refine ⟨2 * y + 1 - 2 * a.2, 2 * b.2 - 2 * y - 1, by omega, by omega, ?_⟩
    rw [if_pos (by omega), decide_eq_true_iff]
    constructor <;> intro h <;> linarith
  · refine ⟨2 * a.2 - 2 * y - 1, 2 * y + 1 - 2 * b.2, by omega, by omega, ?_⟩
    rw [if_neg (by omega), decide_eq_true_iff]
    constructor <;> intro h <;> linarith

/-- A crossing at or to the left of a dot's centre has an end at or to the left of the dot. -/
theorem crossesLeft_end {a b : Int × Int} {x y : Int} (hcross : edgeCrosses a b y = true)
    (hleft : crossesLeft a b x y = true) : a.1 ≤ x ∨ b.1 ≤ x := by
  by_contra hnot
  obtain ⟨ha, hb⟩ := not_or.mp hnot
  obtain ⟨p, q, hp, hq, hiff⟩ := crossesLeft_iff hcross x
  have hle := hiff.mp hleft
  have hqa : (x + 1) * q ≤ a.1 * q := Int.mul_le_mul_of_nonneg_right (by omega) hq.le
  have hpb : (x + 1) * p ≤ b.1 * p := Int.mul_le_mul_of_nonneg_right (by omega) hp.le
  linarith

/-- A crossing to the right of a dot's centre has an end to the right of the dot. -/
theorem crossesRight_end {a b : Int × Int} {x y : Int} (hcross : edgeCrosses a b y = true)
    (hright : crossesLeft a b x y = false) : x < a.1 ∨ x < b.1 := by
  by_contra hnot
  obtain ⟨ha, hb⟩ := not_or.mp hnot
  obtain ⟨p, q, hp, hq, hiff⟩ := crossesLeft_iff hcross x
  have hlt := mt hiff.mpr (by simp [hright])
  have hqa : a.1 * q ≤ x * q := Int.mul_le_mul_of_nonneg_right (by omega) hq.le
  have hpb : b.1 * p ≤ x * p := Int.mul_le_mul_of_nonneg_right (by omega) hp.le
  linarith

/-- A FILL's box holds its vertices' columns, the last left out, and likewise its rows (R45). -/
theorem fillBox_of_mem {vs : List (Int × Int)} {u v w z : Int × Int} {x y : Int} (hu : u ∈ vs) (hv : v ∈ vs)
    (hw : w ∈ vs) (hz : z ∈ vs) (hleft : u.1 ≤ x) (hright : x < v.1) (habove : w.2 ≤ y) (hbelow : y < z.2) :
    (fillBox vs).has x y = true := by
  cases vs with
  | nil => simp at hu
  | cons first rest =>
    rw [Box.has_iff, fillBox]
    have hcol {p : Int × Int} (hp : p ∈ first :: rest) : p.1 ∈ first.1 :: rest.map Prod.fst :=
      List.mem_map_of_mem (f := Prod.fst) hp
    have hrow {p : Int × Int} (hp : p ∈ first :: rest) : p.2 ∈ first.2 :: rest.map Prod.snd :=
      List.mem_map_of_mem (f := Prod.snd) hp
    exact ⟨(leastOf_le (hcol hu)).trans hleft, hright.trans_le (le_greatestOf (hcol hv)),
      (leastOf_le (hrow hw)).trans habove, hbelow.trans_le (le_greatestOf (hrow hz))⟩

theorem fillBox_has {vs : List (Int × Int)} {x y : Int} (h : fillCovers vs x y = true) :
    (fillBox vs).has x y = true := by
  have hodd := of_decide_eq_true h
  have heven := polygon_crossings vs y
  obtain ⟨e, he, hcovers⟩ := List.countP_pos_iff.mp (show 0 < (polygonEdges vs).countP
    (fun e => edgeCrosses e.1 e.2 y && crossesLeft e.1 e.2 x y) by omega)
  obtain ⟨hcross, hleft⟩ := Bool.and_eq_true_iff.mp hcovers
  obtain ⟨f, hf, hfcross, hright⟩ : ∃ f ∈ polygonEdges vs, edgeCrosses f.1 f.2 y = true ∧
      crossesLeft f.1 f.2 x y = false := by
    by_contra hnone
    have hall := List.countP_congr (l := polygonEdges vs)
      (p := fun e => edgeCrosses e.1 e.2 y && crossesLeft e.1 e.2 x y) (q := fun e => edgeCrosses e.1 e.2 y)
      fun f hf => ⟨fun hboth => (Bool.and_eq_true_iff.mp hboth).1, fun hcross => by
        refine Bool.and_eq_true_iff.mpr ⟨hcross, ?_⟩
        by_contra hright
        exact hnone ⟨f, hf, hcross, by simpa using hright⟩⟩
    omega
  obtain ⟨u, hu, hux⟩ : ∃ u ∈ vs, u.1 ≤ x :=
    (crossesLeft_end hcross hleft).elim (⟨_, (mem_polygonEdges he).1, ·⟩) (⟨_, (mem_polygonEdges he).2, ·⟩)
  obtain ⟨v, hv, hvx⟩ : ∃ v ∈ vs, x < v.1 :=
    (crossesRight_end hfcross hright).elim (⟨_, (mem_polygonEdges hf).1, ·⟩) (⟨_, (mem_polygonEdges hf).2, ·⟩)
  simp only [edgeCrosses, Bool.or_eq_true, Bool.and_eq_true, decide_eq_true_eq] at hcross
  obtain ⟨habove, hbelow⟩ | ⟨habove, hbelow⟩ := hcross
  · exact fillBox_of_mem hu hv (mem_polygonEdges he).1 (mem_polygonEdges he).2 hux hvx habove hbelow
  · exact fillBox_of_mem hu hv (mem_polygonEdges he).2 (mem_polygonEdges he).1 hux hvx habove hbelow

/-! ### Bitmaps (R46, R84) -/

theorem placeBox_has {a : Asset} {x y px py : Int} {turn : Orientation} {dot : Bool}
    (h : placedDot a x y turn px py = some dot) : (placeBox a.width a.height x y turn).has px py = true := by
  simp only [placedDot] at h
  split at h
  next hin =>
    rw [Box.has_iff]
    cases turn <;> simp only [placeSource, placeBox] at hin ⊢ <;> omega
  next => simp at h

/-! ### Text (R48, R49) -/

/-- A rectangle of the text frame, turned onto the page, holds the dots whose frame offsets it holds (R48). -/
theorem turnBox_has (o : Orientation) (x y px py : Int) (b : Box) :
    (turnBox o x y b).has px py = b.has (frameSource o x y px py).1 (frameSource o x y px py).2 := by
  rw [Bool.eq_iff_iff, Box.has_iff, Box.has_iff]
  cases o <;> simp only [turnBox, frameSource] <;> omega

/-- A glyph's dots lie in its frame rectangle, and it is not blank (R48). -/
theorem glyphFrame_has {data : List Byte} {pen : Int} {g : Glyph} {ab : Int × Int}
    (h : glyphDot data pen g ab = true) : (glyphFrame pen g).has ab.1 ab.2 = true ∧ g.blank = false := by
  simp only [glyphDot, Bool.and_eq_true, decide_eq_true_eq] at h
  simp only [Box.has_iff, glyphFrame]
  constructor
  · omega
  · simp only [Glyph.blank, Bool.or_eq_false_iff, decide_eq_false_iff_not]
    omega

theorem textBox_has {a : Asset} {f : FontInfo} {x y px py : Int} {o : Orientation} {spacing : Int}
    {codes : List Byte} (h : textCovers a f x y o spacing codes px py = true) :
    (textBox f x y o spacing codes).has px py = true := by
  obtain ⟨⟨pen, g⟩, hplaced, hdot⟩ := List.any_eq_true.mp h
  obtain ⟨hframe, hblank⟩ := glyphFrame_has hdot
  refine (Box.within_unionAll (List.mem_map_of_mem (List.mem_filter.mpr ⟨hplaced, ?_⟩))).has
    ((turnBox_has o x y px py (glyphFrame pen g)).trans hframe)
  simp [hblank]

/-- The pen of a digit run lies between the least and the greatest steps of as many digits as went before. -/
theorem placeGlyphs_pen {f : FontInfo} {spacing smin smax : Int}
    (hsteps : ∀ c ∈ digitCodes, smin ≤ digitStep f spacing c ∧ digitStep f spacing c ≤ smax) {codes : List Byte}
    (hcodes : ∀ c ∈ codes, c ∈ digitCodes) {pen pen' : Int} {g : Glyph}
    (h : (pen', g) ∈ placeGlyphs f spacing pen codes) :
    (∃ c ∈ digitCodes, (f.resolve c).glyph? = some g) ∧
      ∃ i : Nat, i + 1 ≤ codes.length ∧ pen + i * smin ≤ pen' ∧ pen' ≤ pen + i * smax := by
  induction codes generalizing pen with
  | nil => simp [placeGlyphs] at h
  | cons code rest ih =>
    obtain ⟨hcode, hrest⟩ := List.forall_mem_cons.mp hcodes
    have hstep := hsteps code hcode
    have hlater {next : Int} (hnext : next = pen + digitStep f spacing code)
        (h : (pen', g) ∈ placeGlyphs f spacing next rest) :
        (∃ c ∈ digitCodes, (f.resolve c).glyph? = some g) ∧
          ∃ i : Nat, i + 1 ≤ (code :: rest).length ∧ pen + i * smin ≤ pen' ∧ pen' ≤ pen + i * smax := by
      obtain ⟨hglyph, i, hi, hlow, hhigh⟩ := ih hrest h
      refine ⟨hglyph, i + 1, by simpa using hi, ?_, ?_⟩ <;> push_cast <;> linarith
    rw [placeGlyphs] at h
    cases hres : (f.resolve code).glyph? with
    | none =>
      rw [hres] at h
      exact hlater (by simp [digitStep, hres]) h
    | some g' =>
      rw [hres] at h
      obtain heq | h := List.mem_cons.mp h
      · obtain ⟨rfl, rfl⟩ := Prod.mk.inj heq
        exact ⟨⟨code, hcode, hres⟩, 0, by simp, by simp, by simp⟩
      · exact hlater (by simp [digitStep, hres, add_assoc]) h

/-- As many steps as a digit run takes lie between none and all of the steps before its last digit. -/
theorem steps_between {smin smax : Int} {i digits : Nat} (hi : i + 1 ≤ digits) :
    min 0 (((digits - 1 : Nat) : Int) * smin) ≤ i * smin ∧
      (i * smax : Int) ≤ max 0 (((digits - 1 : Nat) : Int) * smax) := by
  have hle : (i : Int) ≤ (digits - 1 : Nat) := by omega
  constructor
  · obtain h | h := Int.le_total 0 smin
    · exact (min_le_left _ _).trans (Int.mul_nonneg (by omega) h)
    · exact (min_le_right _ _).trans (Int.mul_le_mul_of_nonpos_right hle h)
  · obtain h | h := Int.le_total 0 smax
    · exact (Int.mul_le_mul_of_nonneg_right hle h).trans (le_max_right _ _)
    · exact (Int.mul_nonpos_of_nonneg_of_nonpos (by omega) h).trans (le_max_left _ _)

theorem digitCodes_of_digit {code : Byte} (h : 0x30 ≤ code.toNat ∧ code.toNat ≤ 0x39) : code ∈ digitCodes := by
  have hcode : code = byteOf code.toNat := (byteOf_toNat code).symm
  obtain ⟨hlow, hhigh⟩ := h
  rw [hcode]
  generalize code.toNat = n at hlow hhigh
  interval_cases n <;> decide

/-- The box of a counter holds each digit glyph of each value that it can show (R49). -/
theorem counterBox_has {a : Asset} {f : FontInfo} {x y px py : Int} {o : Orientation} {spacing : Int}
    {codes : List Byte} (hcodes : ∀ c ∈ codes, c ∈ digitCodes)
    (h : textCovers a f x y o spacing codes px py = true) :
    (counterBox f x y o spacing codes.length).has px py = true := by
  obtain ⟨⟨pen, g⟩, hplaced, hdot⟩ := List.any_eq_true.mp h
  obtain ⟨hframe, hblank⟩ := glyphFrame_has hdot
  obtain ⟨st, sts, hsteps⟩ : ∃ st sts, digitCodes.map (digitStep f spacing) = st :: sts := ⟨_, _, rfl⟩
  obtain ⟨⟨c, hc, hglyph⟩, i, hi, hlow, hhigh⟩ := placeGlyphs_pen (smin := leastOf st sts)
    (smax := greatestOf st sts) (fun c hc => by
      have hmem : digitStep f spacing c ∈ st :: sts := hsteps ▸ List.mem_map_of_mem hc
      exact ⟨leastOf_le hmem, le_greatestOf hmem⟩) hcodes hplaced
  have hdrawn : g ∈ (digitCodes.filterMap fun c => (f.resolve c).glyph?).filter fun g => !g.blank :=
    List.mem_filter.mpr ⟨List.mem_filterMap.mpr ⟨c, hc, hglyph⟩, by simp [hblank]⟩
  obtain ⟨hmin, hmax⟩ := steps_between (smin := leastOf st sts) (smax := greatestOf st sts) hi
  simp only [counterBox, hsteps]
  cases hlist : (digitCodes.filterMap fun c => (f.resolve c).glyph?).filter fun g => !g.blank with
  | nil => simp [hlist] at hdrawn
  | cons first rest =>
    rw [hlist] at hdrawn
    have hof (m : Glyph → Int) : m g ∈ m first :: rest.map m := List.mem_map_of_mem (f := m) hdrawn
    have hbearing := leastOf_le (hof Glyph.bearing)
    have hright := le_greatestOf (hof fun h => h.bearing + h.width)
    have htop := leastOf_le (hof fun h => -h.ascent)
    have hbottom := le_greatestOf (hof fun h => -h.ascent + h.height)
    simp only [turnBox_has]
    refine Box.Within.has ?_ hframe
    simp only [Box.Within, glyphFrame]
    omega

/-! ### Bar sequences (R50, R79) -/

/-- A bar lies before the end of the last one. -/
theorem barsCover_within {m : Nat} {t : Int} : ∀ {widths : List Nat} {at_ : Nat},
    barsCover m t true at_ widths = true → (at_ : Int) ≤ t ∧ t < at_ + (barExtent widths * m : Nat)
  | [], _, h => by simp [barsCover] at h
  | [w], at_, h => by
    simp only [barsCover, Bool.or_false, Bool.true_and, Bool.and_eq_true, decide_eq_true_eq] at h
    simp only [barExtent, List.length_singleton, List.sum_singleton]
    push_cast at h ⊢
    rwa [Int.mul_comm (m : Int)] at h
  | w :: v :: rest, at_, h => by
    simp only [barsCover, Bool.true_and, Bool.not_true, Bool.false_and, Bool.false_or, Bool.not_false,
      Bool.or_eq_true, Bool.and_eq_true, decide_eq_true_eq] at h
    obtain ⟨hfrom, hto⟩ | h := h
    · have hfirst : w ≤ barExtent (w :: v :: rest) := by
        unfold barExtent
        split
        · simp
        · simp [List.dropLast]
      have := Nat.mul_le_mul_right m hfirst
      rw [Nat.mul_comm w m] at this
      omega
    · obtain ⟨hfrom, hto⟩ := barsCover_within h
      have hrest : barExtent (w :: v :: rest) = w + v + barExtent rest := by
        cases rest with
        | nil => simp [barsCover] at h
        | cons u rest =>
          simp only [barExtent, List.length_cons, List.dropLast_cons_cons, List.sum_cons]
          split <;> split <;> omega
      rw [hrest]
      push_cast at hfrom hto ⊢
      constructor <;> nlinarith

/-- A shape's box holds the dots that it covers on any copy. -/
theorem Shape.box_has_of_covers {shape : Shape} {asset : Option Asset} {copy : Nat} {x y : Int}
    (h : shape.covers asset copy x y = true) : (shape.box asset).has x y = true := by
  cases shape with
  | rule => exact h
  | stroke => exact strokeBox_has h
  | fill => exact fillBox_has h
  | place bitmap ax ay turn whitens =>
    cases asset with
    | none => simp [Shape.covers] at h
    | some a =>
      replace h : (placedDot a ax ay turn x y).getD false = true := h
      cases hdot : placedDot a ax ay turn x y with
      | none => simp [hdot] at h
      | some dot => exact placeBox_has hdot
  | text =>
    obtain _ | a := asset
    · simp [Shape.covers] at h
    cases hfont : a.font with
    | none => simp [Shape.covers, hfont] at h
    | some f =>
      simp only [Shape.covers, Shape.box, Option.bind_some, hfont] at h ⊢
      exact textBox_has h
  | counter font ax ay turn spacing start step digits =>
    obtain _ | a := asset
    · simp [Shape.covers] at h
    cases hfont : a.font with
    | none => simp [Shape.covers, hfont] at h
    | some f =>
      simp only [Shape.covers, Shape.box, Option.bind_some, hfont] at h ⊢
      rw [← decimalCodes_length digits (counterValue start step digits copy)]
      exact counterBox_has (fun code hcode => digitCodes_of_digit (decimalCodes_digits hcode)) h
  | bars ax ay height m along widths =>
    simp only [Shape.covers] at h
    simp only [Shape.box]
    split at h <;> simp only [Bool.and_eq_true, decide_eq_true_eq] at h
    next halong =>
      have := barsCover_within h.2
      rw [if_pos halong, Box.has_iff]
      push_cast at this ⊢
      omega
    next hacross =>
      have := barsCover_within h.2
      rw [if_neg hacross, Box.has_iff]
      push_cast at this ⊢
      omega

/-- A PLACE's box holds the dots that its opaque flag whitens. -/
theorem StoredObject.box_has_of_whitens {o : StoredObject} {asset : Option Asset} {x y : Int}
    (h : o.whitens asset x y = true) : (o.shape.box asset).has x y = true := by
  unfold StoredObject.whitens at h
  split at h
  next hshape =>
    rw [hshape]
    exact placeBox_has (of_decide_eq_true h)
  next => simp at h

/-- Settles O55: every kind's box, by its drawing rule. -/
theorem boxHoldsEveryDot : Obligations.BoxHoldsEveryDot := by
  unfold Obligations.BoxHoldsEveryDot
  rintro o asset copy x y (hselects | hwhitens)
  · exact Shape.box_has_of_covers (Bool.and_eq_true_iff.mp hselects).1
  · exact StoredObject.box_has_of_whitens hwhitens

end Sys2Proof.Machine
end

section
/-! PROOF. The print order (R97): each position is followed by the next band, the next copy or the next page, and
the ring goes on at the position after those that its buffers hold (R99, R100). -/

namespace Sys2Proof.Machine

/-! ### Positions that follow one another -/

/-- Each position is followed by the next of the list, and the last by what comes after the list. -/
def Runs (after : Tag → Option Tag) : List Tag → Option Tag → Prop
  | [], _ => True
  | a :: rest, next => after a = rest.head?.or next ∧ Runs after rest next

theorem Runs.append {after : Tag → Option Tag} {l₁ l₂ : List Tag} {next : Option Tag}
    (h₁ : Runs after l₁ (l₂.head?.or next)) (h₂ : Runs after l₂ next) : Runs after (l₁ ++ l₂) next := by
  induction l₁ with
  | nil => exact h₂
  | cons a rest ih =>
    obtain ⟨hfirst, hrest⟩ := h₁
    refine ⟨?_, ih hrest⟩
    rw [hfirst]
    cases rest <;> rfl

theorem Runs.after_getElem {after : Tag → Option Tag} {l : List Tag} (h : Runs after l none) {i : Nat} {t : Tag}
    (hi : l[i]? = some t) : after t = l[i + 1]? := by
  induction l generalizing i with
  | nil => simp at hi
  | cons a rest ih =>
    obtain ⟨hfirst, hrest⟩ := h
    cases i with
    | zero =>
      obtain rfl : a = t := by simpa using hi
      rw [hfirst, Option.or_none, List.head?_eq_getElem?]
      rfl
    | succ i => exact ih hrest (by simpa using hi)

/-- A run of numbers gives a run of positions. -/
theorem runs_range' {after : Tag → Option Tag} {f : Nat → Tag} {next : Option Tag} {a n : Nat}
    (hnext : ∀ b, b + 1 < a + n → after (f b) = some (f (b + 1))) (hlast : after (f (a + n - 1)) = next) :
    Runs after ((List.range' a n).map f) next := by
  induction n generalizing a with
  | zero => trivial
  | succ n ih =>
    refine ⟨?_, ih (fun b hb => hnext b (by omega)) (by rw [show a + 1 + n - 1 = a + (n + 1) - 1 by omega, hlast])⟩
    cases n with
    | zero => exact hlast
    | succ n => exact hnext a (by omega)

/-! ### One page -/

/-- A page's positions, its copies counted from those done. -/
theorem pagePositions_eq (p : Page) : pagePositions p =
    (List.range' p.copiesDone (p.copiesOrdered - p.copiesDone)).flatMap (copyPositions p) := by
  rw [pagePositions, List.range'_eq_map_range, List.flatMap_map]

theorem copyPositions_eq (p : Page) (copy : Nat) : copyPositions p copy =
    (List.range' 0 p.bandCount).map fun b => { page := p.id, copy := copy, band := b } := by
  rw [copyPositions, List.range_eq_range']

theorem copyPositions_head? {p : Page} (h : 0 < p.bandCount) (copy : Nat) :
    (copyPositions p copy).head? = some { page := p.id, copy := copy, band := 0 } := by
  obtain ⟨n, hn⟩ := Nat.exists_eq_succ_of_ne_zero h.ne'
  rw [copyPositions_eq, hn]
  rfl

theorem pagePositions_head? {p : Page} (h : 0 < p.bandCount) (hcopies : p.copiesDone < p.copiesOrdered) :
    (pagePositions p).head? = some { page := p.id, copy := p.copiesDone, band := 0 } := by
  obtain ⟨n, hn⟩ := Nat.exists_eq_succ_of_ne_zero (Nat.sub_pos_of_lt hcopies).ne'
  rw [pagePositions_eq, hn, List.range'_succ, List.flatMap_cons, List.head?_append, copyPositions_head? h]
  rfl

/-- A queued page's positions follow one another, and the last is followed by the page behind it. -/
theorem pagePositions_runs {s : State} {p : Page} (hfound : s.page? p.id = some p) (hbands : 0 < p.bandCount)
    (hcopies : p.copiesDone < p.copiesOrdered) :
    Runs s.positionAfter? (pagePositions p) ((pageBehind s.composer.queue p.id).bind s.firstPosition?) := by
  have hafter (copy band : Nat) : s.positionAfter? { page := p.id, copy := copy, band := band } =
      if band + 1 < p.bandCount then some { page := p.id, copy := copy, band := band + 1 }
      else if copy + 1 < p.copiesOrdered then some { page := p.id, copy := copy + 1, band := 0 }
      else (pageBehind s.composer.queue p.id).bind s.firstPosition? := by
    simp only [State.positionAfter?, hfound]
  have hcopy {copy : Nat} {next : Option Tag}
      (hnext : (if copy + 1 < p.copiesOrdered then some { page := p.id, copy := copy + 1, band := 0 }
        else (pageBehind s.composer.queue p.id).bind s.firstPosition?) = next) :
      Runs s.positionAfter? (copyPositions p copy) next := by
    rw [copyPositions_eq]
    refine runs_range' (fun b hb => ?_) ?_
    · rw [hafter, if_pos (by omega)]
    · rw [hafter, if_neg (by omega), hnext]
  have hall {n copy : Nat} (hn : copy + n = p.copiesOrdered) : Runs s.positionAfter?
      ((List.range' copy n).flatMap (copyPositions p))
      ((pageBehind s.composer.queue p.id).bind s.firstPosition?) := by
    induction n generalizing copy with
    | zero => trivial
    | succ n ih =>
      rw [List.range'_succ, List.flatMap_cons]
      refine Runs.append (hcopy ?_) (ih (by omega))
      cases n with
      | zero =>
        rw [if_neg (by omega)]
        rfl
      | succ n =>
        rw [if_pos (by omega), List.range'_succ, List.flatMap_cons, List.head?_append, copyPositions_head? hbands]
        rfl
  rw [pagePositions_eq]
  exact hall (by omega)

/-! ### The queue -/

/-- The positions of the page with an id. -/
def State.positionsOf (s : State) (id : Nat) : List Tag :=
  match s.page? id with
  | some p => pagePositions p
  | none => []

theorem State.printOrder_eq (s : State) : s.printOrder = s.composer.queue.flatMap s.positionsOf := rfl

theorem State.positionsOf_found {s : State} {id : Nat} {p : Page} (h : s.page? id = some p) :
    s.positionsOf id = pagePositions p := by
  simp only [State.positionsOf, h]

/-- A page of the queue has positions left, in at least one band (R1, R11). -/
theorem PagesLaw.queued {s : State} (h : PagesLaw s) {id : Nat} (hid : id ∈ s.composer.queue) :
    ∃ p, s.page? id = some p ∧ p.id = id ∧ p.state.inQueue = true ∧ p.copiesDone < p.copiesOrdered ∧
      16 ≤ p.length ∧ p.bandCount = bandCountOf p.length := by
  obtain ⟨p, hp, rfl, hstate⟩ := h.1.2.2.2.2.2.2.1 id hid
  have hlaw : EntryLaw p := h.2 p hp
  have hlive : p.state ≠ .ended := by
    intro hended
    simp [hended, PageState.inQueue] at hstate
  rw [EntryLaw, if_neg hlive] at hlaw
  obtain ⟨-, ⟨hlong, -⟩, -, hcopies, hbands, -⟩ := hlaw
  exact ⟨p, State.page?_of_mem h.1.2.1 hp, rfl, hstate, hcopies, hlong, hbands⟩

theorem bandCountOf_pos {length : Nat} (h : 16 ≤ length) : 0 < bandCountOf length := by
  unfold bandCountOf Config.bandHeight
  omega

theorem pageBehind_append {front l : List Nat} {id : Nat} (h : id ∉ front) :
    pageBehind (front ++ l) id = pageBehind l id := by
  induction front with
  | nil => rfl
  | cons a rest ih =>
    obtain ⟨hne, hrest⟩ := List.ne_and_not_mem_of_not_mem_cons h
    rw [← ih hrest, List.cons_append]
    cases rest ++ l with
    | nil => rfl
    | cons b tail => simp [pageBehind, Ne.symm hne]

/-- The print order runs on from each position to the next (R97, R104). -/
theorem printOrder_runs {s : State} (h : PagesLaw s) : Runs s.positionAfter? s.printOrder none := by
  have hnodup : s.composer.queue.Nodup := h.1.2.2.2.2.2.1
  have hsuffix (front l : List Nat) (hsplit : s.composer.queue = front ++ l) :
      Runs s.positionAfter? (l.flatMap s.positionsOf) none := by
    induction l generalizing front with
    | nil => trivial
    | cons id rest ih =>
      obtain ⟨p, hfound, rfl, -, hcopies, hlong, hbands⟩ := h.queued (id := id) (by simp [hsplit])
      have hbands : 0 < p.bandCount := hbands ▸ bandCountOf_pos hlong
      have hfresh : p.id ∉ front := by
        rw [hsplit] at hnodup
        exact fun hmem => (List.nodup_append.mp hnodup).2.2 _ hmem _ (by simp) rfl
      rw [List.flatMap_cons, State.positionsOf_found hfound]
      refine Runs.append ?_ (ih (front ++ [p.id]) (by simp [hsplit]))
      have hbehind : (pageBehind s.composer.queue p.id).bind s.firstPosition? =
          ((rest.flatMap s.positionsOf).head?).or none := by
        rw [hsplit, pageBehind_append hfresh, Option.or_none]
        cases rest with
        | nil => rfl
        | cons id' rest =>
          obtain ⟨q, hfound', rfl, -, hcopies', hlong', hbands'⟩ := h.queued (id := id') (by simp [hsplit])
          have hbands' : 0 < q.bandCount := hbands' ▸ bandCountOf_pos hlong'
          simp [pageBehind, State.firstPosition?, hfound', State.positionsOf_found hfound', List.head?_append,
            pagePositions_head? hbands' hcopies']
      rw [← hbehind]
      exact pagePositions_runs hfound hbands hcopies
  exact hsuffix [] _ rfl

/-- The position after one of the print order is the next of it. -/
theorem positionAfter?_of_getElem {s : State} (h : PagesLaw s) {i : Nat} {t : Tag} (hi : s.printOrder[i]? = some t) :
    s.positionAfter? t = s.printOrder[i + 1]? := (printOrder_runs h).after_getElem hi

/-! ### The cursor and the ring in the print order -/

theorem copyPositions_getElem? {p : Page} {band : Nat} (h : band < p.bandCount) (copy : Nat) :
    (copyPositions p copy)[band]? = some { page := p.id, copy := copy, band := band } := by
  simp [copyPositions, h]

/-- A page's positions begin with those of its next copy. -/
theorem pagePositions_cons {p : Page} (h : p.copiesDone < p.copiesOrdered) : pagePositions p =
    copyPositions p p.copiesDone ++ pagePositions { p with copiesDone := p.copiesDone + 1 } := by
  rw [pagePositions_eq, pagePositions_eq, show p.copiesOrdered - p.copiesDone =
    (p.copiesOrdered - (p.copiesDone + 1)) + 1 by omega, List.range'_succ, List.flatMap_cons]
  rfl

/-- The head page, and the print order from it on. -/
theorem printOrder_head {s : State} (h : PagesLaw s) {p : Page} (hhead : s.headPage? = some p) :
    ∃ tail, s.composer.queue = p.id :: tail ∧ s.printOrder = pagePositions p ++ tail.flatMap s.positionsOf ∧
      s.page? p.id = some p ∧ p.bandCount = bandCountOf p.length ∧ 16 ≤ p.length ∧
      p.copiesDone < p.copiesOrdered := by
  obtain ⟨id, hid, hfound⟩ := Option.bind_eq_some_iff.mp hhead
  obtain rfl := State.page?_id hfound
  obtain ⟨tail, hqueue⟩ := List.head?_eq_some_iff.mp hid
  obtain ⟨q, hfound', -, -, hcopies, hlong, hbands⟩ := h.queued (id := p.id) (by simp [hqueue])
  obtain rfl : p = q := Option.some.inj (hfound.symm.trans hfound')
  refine ⟨tail, hqueue, ?_, hfound, hbands, hlong, hcopies⟩
  rw [State.printOrder_eq, hqueue, List.flatMap_cons, State.positionsOf_found hfound]

theorem headPage?_eq_none {s : State} (h : PagesLaw s) (hhead : s.headPage? = none) : s.composer.queue = [] := by
  cases hqueue : s.composer.queue with
  | nil => rfl
  | cons id rest =>
    obtain ⟨p, hfound, -⟩ := h.queued (id := id) (by simp [hqueue])
    simp [State.headPage?, hqueue, hfound] at hhead

/-- The cursor's position stands in the print order at its band (R98). -/
theorem cursorTag?_eq {s : State} (h : PagesLaw s) (hcursor : ∀ p ∈ s.headPage?, s.feed.line < p.length) :
    s.cursorTag? = s.printOrder[s.feed.line / 64]? := by
  cases hhead : s.headPage? with
  | none =>
    rw [State.printOrder_eq, headPage?_eq_none h hhead]
    simp [State.cursorTag?, State.cursor?, hhead]
  | some p =>
    obtain ⟨tail, -, horder, -, hbands, -, hcopies⟩ := printOrder_head h hhead
    have hline := hcursor p hhead
    have hband : s.feed.line / 64 < p.bandCount := by
      rw [hbands, bandCountOf, Config.bandHeight]
      omega
    rw [horder, pagePositions_cons hcopies, List.append_assoc, List.getElem?_append_left (by simpa [copyPositions] using hband), copyPositions_getElem? hband]
    simp [State.cursorTag?, State.cursor?, hhead, Config.bandHeight]

theorem BufferState.tag?_isSome_of_live {b : BufferState} (h : b.live = true) : b.tag?.isSome = true := by
  cases b <;> simp_all [BufferState.live, BufferState.tag?]

/-- The newest non-void buffer holds the last of the tags. -/
theorem BandRing.liveTags_getLast? (r : BandRing) :
    r.liveTags.getLast? = r.liveOrder.getLast?.bind fun i => (r.stateOf i).tag? := by
  have hall : ∀ i ∈ r.liveOrder, (r.stateOf i).tag?.isSome = true := fun i hi =>
    BufferState.tag?_isSome_of_live (List.mem_filter.mp hi).2
  unfold BandRing.liveTags
  obtain hnil | ⟨front, last, hlist⟩ := r.liveOrder.eq_nil_or_concat
  · simp [hnil]
  · obtain ⟨t, ht⟩ := Option.isSome_iff_exists.mp (hall last (by simp [hlist]))
    simp [hlist, ht]

/-- The next band to render stands after the positions that the non-void buffers hold. -/
theorem nextBand?_eq {s : State} (h : PagesLaw s) (hcursor : ∀ p ∈ s.headPage?, s.feed.line < p.length)
    (hring : RingLaw s) : s.nextBand? = s.printOrder[s.feed.line / 64 + s.ring.liveTags.length]? := by
  have hlast := s.ring.liveTags_getLast?
  obtain ⟨rest, hprefix⟩ := hring
  unfold State.nextBand?
  cases hnewest : s.ring.liveOrder.getLast? with
  | none =>
    have hnil : s.ring.liveTags = [] := by
      rw [BandRing.liveTags, List.getLast?_eq_none_iff.mp hnewest]
      rfl
    simp only [hnil, List.length_nil, Nat.add_zero]
    exact cursorTag?_eq h hcursor
  | some i =>
    rw [hnewest, Option.bind_some] at hlast
    obtain ⟨t, ht⟩ := Option.isSome_iff_exists.mp (BufferState.tag?_isSome_of_live
      (List.mem_filter.mp (List.mem_of_getLast? hnewest)).2)
    rw [ht] at hlast
    have hpos : 0 < s.ring.liveTags.length := List.length_pos_of_ne_nil (by rintro hnil; simp [hnil] at hlast)
    have hat : s.printOrder[s.feed.line / 64 + (s.ring.liveTags.length - 1)]? = some t := by
      rw [← List.getElem?_drop, ← hprefix, List.getElem?_append_left (by omega), ← List.getLast?_eq_getElem?, hlast]
    simp only [ht, Option.bind_some]
    rw [positionAfter?_of_getElem h hat]
    congr 1
    omega

/-- Settles O58: the position after the newest non-void buffer's, or the cursor's with none. -/
theorem nextBandContinuesThePrintOrder : Obligations.NextBandContinuesThePrintOrder := by
  unfold Obligations.NextBandContinuesThePrintOrder
  intro s hpage hentry hcursor hring
  rw [List.head?_drop]
  exact nextBand?_eq ⟨hpage, hentry⟩ hcursor.1 hring

end Sys2Proof.Machine
end

section
/-! SUPPORT. What a decision of the feed at a line boundary leaves alone, and what it decides, as the statements
about the feed say it: in the state after the whole event, which shows the state that the decision left. -/

namespace Sys2Proof.Machine

/-! ### What a decision leaves alone -/

/-- A page entry after a decision of the feed: begun or not, its stalls counted or not; one that has ended is
touched no more. -/
structure Page.Worked (p q : Page) : Prop where
  record : q = { p with state := q.state, stalls := q.stalls }
  begun : q.state = p.state ∨ p.state = .queued ∧ q.state = .active
  ended : p.state = .ended → q = p

theorem Page.Worked.refl (p : Page) : p.Worked p := ⟨rfl, .inl rfl, fun _ => rfl⟩

theorem Page.Worked.state {p q : Page} (h : p.Worked q) (hp : p.state ≠ .queued) : q.state = p.state :=
  h.begun.resolve_right fun hq => hp hq.1

theorem Page.Worked.trans {p q r : Page} (h : p.Worked q) (h' : q.Worked r) : p.Worked r := by
  refine ⟨by rw [h'.record, h.record], ?_, fun hp => ?_⟩
  · obtain hq | ⟨hqueued, hactive⟩ := h.begun
    · rw [← hq]
      exact h'.begun
    · exact .inr ⟨hqueued, (h'.state (by simp [hactive])).trans hactive⟩
  · have hq := h.ended hp
    rw [h'.ended (by rw [hq, hp]), hq]

/-- What a decision of the feed at a boundary leaves alone: of the feed its line, hold flag, pitch and pending
stops, of the composer all but what it reports of the pages it works on, and every other block but the ring. -/
structure Decided (s t : State) : Prop where
  keeps : Keeps feedParts s t
  line : t.feed.line = s.feed.line
  hold : t.feed.hold = s.feed.hold
  pitch : t.feed.pitch = s.feed.pitch
  pending : t.feed.pending = s.feed.pending
  composer : t.composer = { s.composer with pages := t.composer.pages }
  pages : ∃ g : Page → Page, (∀ p : Page, p.Worked (g p)) ∧ t.composer.pages = s.composer.pages.map g

namespace Decided

theorem refl (s : State) : Decided s s :=
  ⟨Keeps.refl _ _, rfl, rfl, rfl, rfl, rfl, id, Page.Worked.refl, (List.map_id _).symm⟩

theorem trans {s t u : State} (h : Decided s t) (h' : Decided t u) : Decided s u := by
  obtain ⟨g, hg, hpages⟩ := h.pages
  obtain ⟨g', hg', hpages'⟩ := h'.pages
  refine ⟨h.keeps.trans h'.keeps, h'.line.trans h.line, h'.hold.trans h.hold, h'.pitch.trans h.pitch,
    h'.pending.trans h.pending, ?_, g' ∘ g, fun p => (hg p).trans (hg' (g p)), ?_⟩
  · rw [h'.composer, h.composer]
  · rw [hpages', hpages, List.map_map]

theorem queue {s t : State} (h : Decided s t) : t.composer.queue = s.composer.queue := by rw [h.composer]

theorem settings {s t : State} (h : Decided s t) : t.settings = s.settings := h.keeps .settings (by decide)

theorem conditions {s t : State} (h : Decided s t) : t.conditions = s.conditions := by
  rw [State.conditions, State.conditions, show t.sensors = s.sensors from h.keeps .sensors (by decide)]

/-- A change of the feed's other fields. -/
theorem of_feed {s : State} {f : Feed → Feed} (hline : (f s.feed).line = s.feed.line)
    (hhold : (f s.feed).hold = s.feed.hold) (hpitch : (f s.feed).pitch = s.feed.pitch)
    (hpending : (f s.feed).pending = s.feed.pending) : Decided s (s.onFeed f) :=
  ⟨(State.onFeed_keeps s f).weaken (by decide), hline, hhold, hpitch, hpending, rfl, id, Page.Worked.refl,
    (List.map_id _).symm⟩

theorem of_ring (s : State) (r : BandRing) : Decided s (s.withRing r) :=
  ⟨(State.withRing_keeps s r).weaken (by decide), rfl, rfl, rfl, rfl, rfl, id, Page.Worked.refl,
    (List.map_id _).symm⟩

theorem of_page {s : State} {id : Nat} {f : Page → Page} (hf : ∀ p : Page, p.Worked (f p)) :
    Decided s (s.changePage id f) :=
  ⟨(State.changePage_keeps s id f).weaken (by decide), rfl, rfl, rfl, rfl, rfl,
    fun p => if p.id = id then f p else p, fun p => by dsimp only; split; exacts [hf p, Page.Worked.refl p], rfl⟩

/-- A page looked up after a decision. -/
theorem page? {s t : State} (h : Decided s t) :
    ∃ g : Page → Page, (∀ p : Page, p.Worked (g p)) ∧ ∀ id, t.page? id = (s.page? id).map g := by
  obtain ⟨g, hg, hpages⟩ := h.pages
  have hid (p : Page) : (g p).id = p.id := by rw [(hg p).record]
  refine ⟨g, hg, fun id => ?_⟩
  rw [State.page?, hpages, List.find?_map]
  simp only [Function.comp_def, hid]
  rfl

theorem headPage? {s t : State} (h : Decided s t) :
    ∃ g : Page → Page, (∀ p : Page, p.Worked (g p)) ∧ t.headPage? = s.headPage?.map g := by
  obtain ⟨g, hg, hpage⟩ := h.page?
  refine ⟨g, hg, ?_⟩
  rw [State.headPage?, State.headPage?, h.queue]
  cases s.composer.queue.head? with
  | none => rfl
  | some id => exact hpage id

/-- No decision moves the cursor. -/
theorem cursor? {s t : State} (h : Decided s t) : t.cursor? = s.cursor? := by
  obtain ⟨g, hg, hhead⟩ := h.headPage?
  rw [State.cursor?, State.cursor?, hhead, h.line, Option.map_map]
  congr 1
  funext p
  simp only [Function.comp]
  rw [(hg p).record]

theorem cursorTag? {s t : State} (h : Decided s t) : t.cursorTag? = s.cursorTag? := by
  rw [State.cursorTag?, State.cursorTag?, h.cursor?]

end Decided

theorem callStep_decided (d) (s : State) : Decided s (callStep d s) := by
  unfold callStep startStep
  split <;> exact .of_feed rfl rfl rfl rfl

theorem callBurn_decided (s : State) : Decided s (callBurn s) := by
  unfold callBurn startBurn
  split <;> exact .of_feed rfl rfl rfl rfl

theorem State.enter_decided (s : State) (st : FeedState) : Decided s (s.enter st) := .of_feed rfl rfl rfl rfl

theorem reportStall_decided (id) (s : State) : Decided s (reportStall id s) :=
  .of_page fun p => by
    split
    next hactive => exact ⟨rfl, .inl rfl, fun h => by simp [hactive] at h⟩
    · exact .refl p

theorem beginHead_decided (s : State) : Decided s (beginHead s) := by
  unfold beginHead
  split
  · refine .of_page fun p => ?_
    split
    next hqueued => exact ⟨rfl, .inr ⟨hqueued, rfl⟩, fun h => by simp [hqueued] at h⟩
    · exact .refl p
  · exact .refl s

theorem requestBand_decided (t) (s : State) : Decided s (requestBand t s) := by
  unfold requestBand
  split
  · exact ((Decided.of_ring s _).trans (State.enter_decided _ _)).trans (callBurn_decided _)
  · exact ((Decided.of_ring s _).trans (State.enter_decided _ _)).trans (reportStall_decided _ _)

theorem printLine_decided (s : State) : Decided s (printLine s) := by
  unfold printLine
  split
  · exact (State.enter_decided s _).trans (callBurn_decided _)
  · split
    · exact (State.enter_decided s _).trans (requestBand_decided _ _)
    · exact State.enter_decided s _

theorem enterOffset_decided (s : State) : Decided s (enterOffset s) := by
  unfold enterOffset
  split
  · exact printLine_decided s
  · exact (State.enter_decided s _).trans (callStep_decided _ _)

theorem enterSeek_decided (s : State) : Decided s (enterSeek s) := by
  unfold enterSeek
  split
  · exact printLine_decided s
  · exact (State.enter_decided s _).trans (callStep_decided _ _)

theorem pause_decided (c x) (s : State) : Decided s (pause c x s) := .of_feed rfl rfl rfl rfl

theorem pausePrint_decided (j c) (s : State) : Decided s (pausePrint j c s) := by
  unfold pausePrint; split <;> exact pause_decided _ _ _

theorem pauseSeek_decided (c) (s : State) : Decided s (pauseSeek c s) := by
  unfold pauseSeek; split <;> exact pause_decided _ _ _

theorem keepParked_decided (b) (s : State) : Decided s (keepParked b s) := by
  unfold keepParked; split
  · exact .refl s
  · exact .of_feed rfl rfl rfl rfl

theorem pauseBackfeed_decided (j c) (s : State) : Decided s (pauseBackfeed j c s) := by
  unfold pauseBackfeed; split
  · exact pauseSeek_decided _ _
  · exact (pause_decided _ _ s).trans (keepParked_decided _ _)

theorem pauseTrail_decided (j c r) (s : State) : Decided s (pauseTrail j c r s) :=
  (pause_decided _ _ s).trans (keepParked_decided _ _)

theorem start_decided (s : State) : Decided s (start s) := by
  unfold start; dsimp only; split
  · exact (beginHead_decided s).trans (pauseBackfeed_decided _ _ _)
  · split
    · exact (beginHead_decided s).trans (enterSeek_decided _)
    · exact ((beginHead_decided s).trans (State.enter_decided _ _)).trans (callStep_decided _ _)

theorem startDecision_decided (s : State) : Decided s (startDecision s) := by
  unfold startDecision; split
  · exact start_decided s
  · exact .refl s

theorem goIdle_decided (s : State) : Decided s (goIdle s) := .of_feed rfl rfl rfl rfl

theorem enterIdle_decided (s : State) : Decided s (enterIdle s) :=
  (goIdle_decided s).trans (startDecision_decided _)

theorem startOrIdle_decided (s : State) : Decided s (startOrIdle s) := by
  unfold startOrIdle; split
  · exact start_decided s
  · exact goIdle_decided s

theorem enterTrailing_decided (s : State) : Decided s (enterTrailing s) := by
  unfold enterTrailing; split
  · exact enterIdle_decided s
  · exact (State.enter_decided s _).trans (callStep_decided _ _)

theorem endOfCopyDecision_decided (p e) (s : State) : Decided s (endOfCopyDecision p e s) := by
  unfold endOfCopyDecision; dsimp only
  split
  · refine (beginHead_decided s).trans ?_
    split
    · exact pauseSeek_decided _ _
    · split
      · exact enterOffset_decided _
      · exact enterSeek_decided _
  · split
    · exact pauseTrail_decided _ _ _ _
    · exact enterTrailing_decided _

/-! ### The state after the whole event -/

/-- The state after the event shows what the feed decided: reports, replies and the ring's test for an assignment
have come after. -/
structure Shows (t u : State) : Prop where
  feed : u.feed = t.feed
  composer : u.composer = t.composer
  settings : u.settings = t.settings
  sensors : u.sensors = t.sensors
  waiting : u.ring.waiting = t.ring.waiting
  draining : ∀ i tag, t.ring.stateOf i = .draining tag → u.ring.stateOf i = .draining tag
  row : ∀ line, u.drainingRow line = t.drainingRow line

/-- A feed that ends PAUSED has told it. -/
def Tells (u : State) : Prop :=
  u.feed.state.paused?.isSome = true → ∃ n ∈ u.notices.entries, n.content = .feedState u.feedReport

/-- The blocks that a decision does not read. -/
def unreadParts : List Part := [.power, .clock, .link, .notices, .assets, .engine, .pending]

namespace Shows

theorem of_keeps {t u : State} (h : Keeps unreadParts t u) : Shows t u := by
  have hring : u.ring = t.ring := h .ring (by decide)
  refine ⟨h .feed (by decide), h .composer (by decide), h .settings (by decide), h .sensors (by decide),
    by rw [hring], fun i tag hi => by rwa [hring], fun line => by rw [State.drainingRow, State.drainingRow, hring]⟩

theorem refl (t : State) : Shows t t := .of_keeps (.refl _ _)

theorem trans {t u v : State} (h : Shows t u) (h' : Shows u v) : Shows t v :=
  ⟨h'.feed.trans h.feed, h'.composer.trans h.composer, h'.settings.trans h.settings, h'.sensors.trans h.sensors,
    h'.waiting.trans h.waiting, fun i tag hi => h'.draining i tag (h.draining i tag hi),
    fun line => (h'.row line).trans (h.row line)⟩

theorem page? {t u : State} (h : Shows t u) (id : Nat) : u.page? id = t.page? id := by
  rw [State.page?, State.page?, h.composer]

theorem headPage? {t u : State} (h : Shows t u) : u.headPage? = t.headPage? := by
  rw [State.headPage?, State.headPage?, h.composer, show u.page? = t.page? from funext h.page?]

theorem cursor? {t u : State} (h : Shows t u) : u.cursor? = t.cursor? := by
  rw [State.cursor?, State.cursor?, h.headPage?, h.feed]

theorem cursorTag? {t u : State} (h : Shows t u) : u.cursorTag? = t.cursorTag? := by
  rw [State.cursorTag?, State.cursorTag?, h.cursor?]

theorem conditions {t u : State} (h : Shows t u) : u.conditions = t.conditions := by
  rw [State.conditions, State.conditions, h.sensors]

end Shows

theorem reportFeed_shows (before s : State) : Shows s (reportFeed before s) :=
  .of_keeps ((reportFeed_keeps before s).weaken (by decide))

theorem choose_shows (s : State) : Shows s (choose s) := .of_keeps ((choose_keeps s).1.weaken (by decide))

theorem completeReply_keeps (key kind status results) (s : State) :
    Keeps [.link] s (completeReply key kind status results s) := by
  intro p hp; cases p <;> first | rfl | simp at hp

theorem BandRing.lowestFree_free {r : BandRing} {i : Fin 4} (h : r.lowestFree? = some i) : r.stateOf i = .free := by
  simpa using List.find?_some h

/-- The ring's test takes a FREE buffer, so the feed's own stays. -/
theorem assignBand_shows (s : State) : Shows s (assignBand s) := by
  obtain h | ⟨i, t, -, hfree, -, h⟩ := assignBand_cases s
  · rw [h]
    exact .refl s
  · have hi := BandRing.lowestFree_free hfree
    have hstate (j : Fin 4) : ((s.ring.assign i t).stateOf j).isDraining = (s.ring.stateOf j).isDraining := by
      rw [BandRing.stateOf_assign]
      split
      · rename_i hij
        rw [← hij, hi]
        rfl
      · rfl
    rw [h]
    refine ⟨rfl, rfl, rfl, rfl, rfl, fun j tag hj => ?_, fun line => ?_⟩
    · refine (BandRing.stateOf_assign ..).trans ?_
      rw [if_neg (by rintro rfl; simp [hi] at hj), hj]
    · have hfound : (s.ring.assign i t).draining? = s.ring.draining? := by
        simp only [BandRing.draining?, hstate]
      have hraster {j : Fin 4} (hj : s.ring.draining? = some j) : j ≠ i := by
        rintro rfl
        have := BandRing.draining_found hj
        simp [hi, BufferState.isDraining] at this
      unfold State.drainingRow
      show (match (s.ring.assign i t).draining? with | some i => _ | none => _) = _
      rw [hfound]
      cases hd : s.ring.draining? with
      | none => rfl
      | some j =>
        exact congrArg (fun r : Raster => r.toArray.getD (line % Config.bandHeight) 0)
          (BandRing.assign_raster_ne s.ring t (hraster hd))

/-! ### What is decided, as the state after the event shows it -/

theorem Steps.shows {d : Direction} {f : Feed} {t u : State} (hs : Steps d f t) (h : Shows t u) : Steps d f u := by
  unfold Steps at *
  rwa [h.feed]

theorem Burns.shows {f : Feed} {t u : State} (hb : Burns f t) (h : Shows t u) : Burns f u := by
  unfold Burns at *
  rwa [h.feed, h.row, h.cursor?]

theorem Prints.shows {f : Feed} {r : BandRing} {t u : State} (hp : Prints f r t) (h : Shows t u) : Prints f r u := by
  obtain ⟨hheld, hnone⟩ := hp
  refine ⟨fun hd => (hheld hd).shows h, fun hd tag htag => ?_⟩
  have hrest := hnone hd tag (h.cursorTag? ▸ htag)
  split
  next i hi =>
    simp only [hi] at hrest
    exact ⟨hrest.1.shows h, h.draining i tag hrest.2⟩
  next hi =>
    simp only [hi] at hrest
    rw [h.feed, h.waiting, h.page?]
    exact hrest

theorem Seeks.shows {f : Feed} {r : BandRing} {t u : State} (hs : Seeks f r t) (h : Shows t u) : Seeks f r u := by
  unfold Seeks at *
  rw [h.settings, h.feed]
  split at hs
  next hmode => rw [if_pos hmode]; exact hs.shows h
  next hmode => rw [if_neg hmode]; exact ⟨hs.1, hs.2.shows h⟩

/-- The feed has come to stand PAUSED. -/
def PausedAs (cause : PauseCause) (context : PausedContext) (t : State) : Prop :=
  t.feed.state = .paused cause context ∧ t.feed.edge = none ∧ t.feed.called = none

theorem PausedAs.pauses {cause : PauseCause} {context : PausedContext} {t u : State} (hp : PausedAs cause context t)
    (h : Shows t u) (htold : Tells u) : Pauses cause context u := by
  obtain ⟨hstate, hedge, hcalled⟩ := hp
  rw [← h.feed] at hstate hedge hcalled
  exact ⟨hstate, hedge, hcalled, htold (by simp [hstate, FeedState.paused?])⟩

theorem pause_pausedAs (c x) (s : State) : PausedAs c x (pause c x s) := ⟨rfl, rfl, rfl⟩

theorem pauseSeek_pausedAs {s : State} {cursor : Cursor} (h : s.cursor? = some cursor) (c) :
    PausedAs c (.seek cursor.page cursor.copy) (pauseSeek c s) := by
  simp only [pauseSeek, h]
  exact pause_pausedAs _ _ _

theorem pausePrint_pausedAs {s : State} {cursor : Cursor} (h : s.cursor? = some cursor) (j c) :
    PausedAs c (.print cursor.page cursor.copy cursor.line (positionValid j c s)) (pausePrint j c s) := by
  simp only [pausePrint, h]
  exact pause_pausedAs _ _ _

/-- The feed has come to stand PAUSED with a park to measure. -/
def PausedParked (cause : PauseCause) (context : PausedContext) (valid : Bool) (parked : Nat) (t : State) : Prop :=
  PausedAs cause context t ∧ t.feed.parked = if valid then parked else 0

theorem PausedParked.pauses {cause context valid parked} {t u : State}
    (hp : PausedParked cause context valid parked t) (h : Shows t u) (htold : Tells u) :
    PausesParked cause context valid parked u :=
  ⟨hp.1.pauses h htold, by rw [h.feed]; exact hp.2⟩

theorem keepParked_pausedParked {cause context} {s : State} (h : PausedAs cause context s) (valid : Bool) :
    PausedParked cause context valid s.feed.parked (keepParked valid s) := by
  unfold keepParked
  cases valid
  · exact ⟨h, rfl⟩
  · exact ⟨h, rfl⟩

theorem pauseTrail_pausedParked (j c r) (s : State) :
    PausedParked c (.trail r (positionValid j c s)) (positionValid j c s) s.feed.parked (pauseTrail j c r s) :=
  keepParked_pausedParked (pause_pausedAs _ _ s) _

theorem pauseBackfeed_pausedParked {s : State} (h : s.feed.parked ≠ 0) (j c) :
    PausedParked c (.backfeed s.feed.parked (positionValid j c s)) (positionValid j c s) s.feed.parked
      (pauseBackfeed j c s) := by
  rw [pauseBackfeed, if_neg h]
  exact keepParked_pausedParked (pause_pausedAs _ _ s) _

theorem pauseBackfeed_of_unparked {s : State} (h : s.feed.parked = 0) (j c) :
    pauseBackfeed j c s = pauseSeek c s := if_pos h

/-- A cause read from the set leaves the position valid unless MEDIA_OUT is in it (R138, R143). -/
theorem positionValid_of_cause {s : State} {cause : PauseCause} (h : s.conditions.cause? = some cause) :
    positionValid false cause s = !s.conditions.mediaOut := by
  unfold ConditionSet.cause? at h
  unfold positionValid
  split at h
  next hout => simp [hout]
  next hout =>
    split at h
    · obtain rfl := Option.some.inj h
      simp
    · simp at h

theorem beginHead_head {s : State} : ∀ head ∈ (beginHead s).headPage?, head.state ≠ .queued := by
  intro head hhead
  unfold beginHead at hhead
  cases hq : s.composer.queue.head? with
  | none => simp [hq, State.headPage?] at hhead
  | some id =>
    simp only [hq, State.headPage?] at hhead
    rw [show (s.changePage id _).composer.queue = s.composer.queue from rfl, hq, Option.bind_some,
      State.page?_changePage _ _ _ _ (fun p => by split <;> rfl), if_pos rfl] at hhead
    obtain ⟨p, -, rfl⟩ := Option.map_eq_some_iff.mp hhead
    split
    · simp
    · assumption

/-- Once the head page is begun no decision makes it QUEUED. -/
theorem Decided.head_begun {s t : State} (h : Decided (beginHead s) t) :
    ∀ head ∈ t.headPage?, head.state ≠ .queued := by
  intro head hhead
  obtain ⟨g, hg, hmap⟩ := h.headPage?
  obtain ⟨p, hp, rfl⟩ := Option.map_eq_some_iff.mp (hmap.symm.trans hhead)
  have hstate := beginHead_head p hp
  rwa [(hg p).state hstate]

theorem beginHead_ring (s : State) : (beginHead s).ring = s.ring := beginHead_keeps s .ring (by decide)

theorem pauseSeek_parked (c) (s : State) : (pauseSeek c s).feed.parked = s.feed.parked := by
  unfold pauseSeek; split <;> rfl

theorem pauseSeek_inFlight (c) (s : State) : (pauseSeek c s).feed.inFlight = s.feed.inFlight := by
  unfold pauseSeek; split <;> rfl

theorem pauseBackfeed_inFlight (j c) (s : State) : (pauseBackfeed j c s).feed.inFlight = s.feed.inFlight := by
  unfold pauseBackfeed keepParked
  split
  · exact pauseSeek_inFlight c s
  · split <;> rfl

theorem callStep_parked (d) (s : State) : (callStep d s).feed.parked = s.feed.parked := by
  unfold callStep startStep; split <;> rfl

theorem callBurn_parked (s : State) : (callBurn s).feed.parked = s.feed.parked := by
  unfold callBurn startBurn; split <;> rfl

theorem printLine_parked (s : State) : (printLine s).feed.parked = s.feed.parked := by
  unfold printLine
  split
  · exact callBurn_parked _
  · split
    · unfold requestBand; split
      · exact callBurn_parked _
      · rfl
    · rfl

theorem enterSeek_parked (s : State) : (enterSeek s).feed.parked = s.feed.parked := by
  unfold enterSeek; split
  · exact printLine_parked _
  · exact callStep_parked _ _

/-- A start begins the head page. -/
theorem start_begins {s u : State} (h : Shows (start s) u) : ∀ head ∈ u.headPage?, head.state ≠ .queued := by
  rw [h.headPage?]
  refine Decided.head_begun (s := s) ?_
  unfold start; dsimp only; split
  · exact pauseBackfeed_decided _ _ _
  · split
    · exact enterSeek_decided _
    · exact (State.enter_decided _ _).trans (callStep_decided _ _)

/-- A start, as the state after the event shows it (R114, R115). -/
theorem start_started {s u : State} (h : Shows (start s) u) (htold : Tells u) : Started s.feed s.ring u := by
  have hdecided := start_decided s
  have hfeed := beginHead_feed s
  have hconditions : u.conditions = s.conditions := h.conditions.trans hdecided.conditions
  have hbegun : (beginHead s).conditions = s.conditions := (beginHead_decided s).conditions
  refine ⟨?_, (congrArg Feed.line h.feed).trans hdecided.line, ?_⟩
  · exact start_begins h
  rw [hconditions]
  cases hcause : s.conditions.cause? with
  | some cause =>
    have hstart : start s = pauseBackfeed false cause (beginHead s) := by
      simp only [start, hbegun, hcause]
    rw [hstart] at h
    refine ⟨by rw [h.feed, pauseBackfeed_inFlight, hfeed], ?_⟩
    split
    next hparked =>
      rw [← hfeed] at hparked
      rw [pauseBackfeed_of_unparked hparked] at h
      refine ⟨by rw [h.feed, pauseSeek_parked, hparked], fun cursor hcursor => ?_⟩
      rw [h.cursor?, (pauseSeek_decided _ _).cursor?] at hcursor
      exact (pauseSeek_pausedAs hcursor cause).pauses h htold
    next hparked =>
      rw [← hfeed] at hparked ⊢
      have hpaused := (pauseBackfeed_pausedParked hparked false cause).pauses h htold
      rwa [positionValid_of_cause (hbegun ▸ hcause), hbegun] at hpaused
  | none =>
    have hstart : start s = if (beginHead s).feed.parked = 0 then enterSeek (beginHead s)
        else callStep .reverse ((beginHead s).enter .backfeed) := by
      simp only [start, hbegun, hcause]
    rw [hstart, hfeed] at h
    dsimp only
    by_cases hparked : s.feed.parked = 0
    · rw [if_pos hparked] at h ⊢
      refine ⟨by rw [h.feed, enterSeek_parked, hfeed], ?_⟩
      rw [← hfeed, ← beginHead_ring s]
      exact (enterSeek_seeks _).shows h
    · rw [if_neg hparked] at h ⊢
      refine ⟨by rw [h.feed, callStep_parked]; exact (congrArg Feed.parked hfeed :), ?_, ?_⟩
      · rw [h.feed, callStep_state]
        rfl
      · rw [← hfeed]
        exact (callStep_steps (s := (beginHead s).enter .backfeed) _ rfl rfl).shows h

/-! ### The start decision, trailing and the end of a copy -/

theorem mayStart_iff (s : State) : mayStart s = true ↔ ¬(s.feed.hold = true ∨ s.composer.queue = []) := by
  simp [mayStart]

/-- A feed that stands IDLE, as the start decision leaves it. -/
theorem goIdle_idles {s u : State} (h : Shows (goIdle s) u) : u.feed.state = .idle ∧ u.feed.edge = none ∧
    u.feed.inFlight = s.feed.inFlight ∧ u.feed.called = none ∧ u.feed.parked = s.feed.parked := by
  rw [h.feed]
  exact ⟨rfl, rfl, rfl, rfl, rfl⟩

/-- The start decision goes by the hold flag and the queue, which no decision changes. -/
theorem startsOrIdles_of {s t u : State} (hdecided : Decided s t) (h : Shows t u)
    (hidles : mayStart s = false → u.feed.state = .idle ∧ u.feed.edge = none ∧
      u.feed.inFlight = s.feed.inFlight ∧ u.feed.called = none ∧ u.feed.parked = s.feed.parked)
    (hstarts : mayStart s = true → Started s.feed s.ring u) : StartsOrIdles s.feed s.ring u := by
  have hsame : (u.feed.hold = true ∨ u.composer.queue = []) ↔ ¬ mayStart s = true := by
    rw [mayStart_iff, not_not, h.feed, h.composer, hdecided.hold, hdecided.queue]
  unfold StartsOrIdles
  by_cases hmay : mayStart s = true
  · rw [if_neg (by rw [hsame]; exact not_not.mpr hmay)]
    exact hstarts hmay
  · rw [if_pos (hsame.mpr hmay)]
    exact hidles (by simpa using hmay)

/-- The start decision of a feed that stops without passing through IDLE (R131). -/
theorem startOrIdle_startsOrIdles {s u : State} (h : Shows (startOrIdle s) u) (htold : Tells u) :
    StartsOrIdles s.feed s.ring u := by
  refine startsOrIdles_of (startOrIdle_decided s) h (fun hno => ?_) fun hmay => ?_
  · rw [startOrIdle, if_neg (by simp [hno])] at h
    exact goIdle_idles h
  · rw [startOrIdle, if_pos hmay] at h
    exact start_started h htold

theorem enterIdle_eq (s : State) : enterIdle s = if mayStart s = true then start (goIdle s) else goIdle s := by
  unfold enterIdle startDecision
  by_cases h : mayStart s = true
  · rw [if_pos h, if_pos ⟨rfl, h⟩]
  · rw [if_neg h, if_neg fun hboth => h hboth.2]

/-- The start decision of a feed that enters IDLE (R114). -/
theorem enterIdle_startsOrIdles {s u : State} (h : Shows (enterIdle s) u) (htold : Tells u) :
    StartsOrIdles s.feed s.ring u := by
  refine startsOrIdles_of (enterIdle_decided s) h (fun hno => ?_) fun hmay => ?_
  · rw [enterIdle_eq, if_neg (by simp [hno])] at h
    exact goIdle_idles h
  · rw [enterIdle_eq, if_pos hmay] at h
    exact start_started (s := goIdle s) h htold

/-- TRAILING, or with no tear offset the start decision (R124). -/
theorem enterTrailing_trails {s u : State} (h : Shows (enterTrailing s) u) (htold : Tells u) :
    Trails s.feed s.ring u := by
  unfold Trails
  rw [h.settings, (enterTrailing_decided s).settings]
  unfold enterTrailing at h
  split at h
  next htear =>
    rw [if_pos htear]
    exact enterIdle_startsOrIdles h htold
  next htear =>
    rw [if_neg htear, h.feed, callStep_state, callStep_parked]
    exact ⟨rfl, (callStep_steps (s := s.enter (.trailing s.settings.tearOffset)) _ rfl rfl).shows h, rfl⟩

theorem idle_of_startsOrIdles {f : Feed} {r : BandRing} {t : State} (h : StartsOrIdles f r t)
    (hno : t.feed.hold = true ∨ t.composer.queue = []) : t.feed.state = .idle := by
  rw [StartsOrIdles, if_pos hno] at h
  exact h.1

theorem started_of_startsOrIdles {f : Feed} {r : BandRing} {t : State} (h : StartsOrIdles f r t)
    (hno : ¬(t.feed.hold = true ∨ t.composer.queue = [])) : Started f r t := by
  rwa [StartsOrIdles, if_neg hno] at h

theorem enterIdle_idle_iff (s : State) :
    (enterIdle s).feed.state = .idle ↔ s.feed.hold = true ∨ s.composer.queue = [] := by
  rw [enterIdle_eq]
  split
  next hmay =>
    have hmay := (mayStart_iff s).mp hmay
    exact ⟨fun h => absurd h (start_not_idle _), fun h => absurd h hmay⟩
  next hmay =>
    rw [mayStart_iff, not_not] at hmay
    exact ⟨fun _ => hmay, fun _ => rfl⟩

theorem startOrIdle_idle_iff (s : State) :
    (startOrIdle s).feed.state = .idle ↔ s.feed.hold = true ∨ s.composer.queue = [] := by
  rw [startOrIdle]
  split
  next hmay =>
    have hmay := (mayStart_iff s).mp hmay
    exact ⟨fun h => absurd h (start_not_idle _), fun h => absurd h hmay⟩
  next hmay =>
    rw [mayStart_iff, not_not] at hmay
    exact ⟨fun _ => hmay, fun _ => rfl⟩

/-! ### The FEED_STATE notice (R152) -/

theorem Tells.of_not_paused {u : State} (h : u.feed.state.paused? = none) : Tells u := by
  intro hp
  simp [h] at hp

/-- A notice that a state holds is held, with its content, by one whose notices say the same. -/
theorem content_of_aside {t u : State} (h : NoticesAside t u) {content : NoticeContent}
    (ht : ∃ n ∈ t.notices.entries, n.content = content) : ∃ n ∈ u.notices.entries, n.content = content := by
  obtain ⟨n, hn, rfl⟩ := ht
  have hmem : n.face ∈ u.notices.entries.map Notice.face := h.2 ▸ List.mem_map_of_mem hn
  obtain ⟨m, hm, hface⟩ := List.mem_map.mp hmem
  exact ⟨m, hm, congrArg (fun x => x.2.2) hface⟩

/-- An event that was a trigger has told its FEED_STATE. -/
theorem reportFeed_told {before s : State} (h : feedStateTriggered before s = true) :
    ∃ n ∈ (reportFeed before s).notices.entries, n.content = .feedState (reportFeed before s).feedReport := by
  rw [reportFeed, if_pos h]
  exact NoticeQueue.feedState_told s.notices s.feedReport

theorem triggered_of_paused {before s : State}
    (h : before.feed.state.paused?.isSome ≠ s.feed.state.paused?.isSome) : feedStateTriggered before s = true := by
  simp [feedStateTriggered, h]

theorem triggered_of_conditions {before s : State} (h : before.conditions ≠ s.conditions) :
    feedStateTriggered before s = true := by
  simp [feedStateTriggered, h]

theorem feedReport_of_keeps {t u : State} (h : Keeps unreadParts t u) : u.feedReport = t.feedReport := by
  have hshows := Shows.of_keeps h
  rw [State.feedReport, State.feedReport, hshows.feed, hshows.conditions]

/-- What is told stays told while the notices say the same. -/
theorem told_of_keeps {t u : State} (h : Keeps unreadParts t u) (hn : NoticesAside t u)
    (ht : ∃ n ∈ t.notices.entries, n.content = .feedState t.feedReport) :
    ∃ n ∈ u.notices.entries, n.content = .feedState u.feedReport := by
  rw [feedReport_of_keeps h]
  exact content_of_aside hn ht

/-- A feed that was not PAUSED before the event tells it when it is. -/
theorem reportFeed_tells {before s : State} (h : before.feed.state.paused? = none) : Tells (reportFeed before s) := by
  intro hp
  have hfeed := (reportFeed_shows before s).feed
  rw [hfeed] at hp
  exact reportFeed_told (triggered_of_paused (by simp [h, hp]))

theorem Tells.of_keeps {t u : State} (ht : Tells t) (h : Keeps unreadParts t u) (hn : NoticesAside t u) : Tells u := by
  intro hp
  rw [(Shows.of_keeps h).feed] at hp
  exact told_of_keeps h hn (ht hp)

/-- Nothing is told when the feed was PAUSED neither before nor after and the conditions stayed. -/
theorem reportFeed_eq {before s : State} (hpaused : s.feed.state.paused?.isSome = before.feed.state.paused?.isSome)
    (hconditions : s.conditions = before.conditions) : reportFeed before s = s := by
  rw [reportFeed, if_neg]
  simp [feedStateTriggered, hpaused, hconditions]

end Sys2Proof.Machine
end

section
/-! PROOF. The requests of the feed controller: FEED and CALIBRATE, STOP, HOLD and RELEASE (R125 to R130). -/

namespace Sys2Proof.Machine

/-! ### FEED and CALIBRATE -/

theorem choose_replies_slots (s : State) :
    ((choose s).link.replies = s.link.replies ∧ (choose s).link.slots = s.link.slots) ∨
    ∃ entry rest, s.link.replies = entry :: rest ∧ (choose s).link.replies = rest ∧
      (choose s).link.slots = freeSlot s.link.slots entry := by
  unfold choose
  split
  · exact .inl ⟨rfl, rfl⟩
  split
  · exact .inl ⟨rfl, rfl⟩
  split
  next entry rest hreplies => exact .inr ⟨entry, rest, hreplies, rfl, rfl⟩
  · split
    · exact .inl ⟨rfl, rfl⟩
    · exact .inl ⟨rfl, rfl⟩

theorem waitingKeys_cons_ofSlot (key : RequestKey) (rest : List WaitingReply) :
    waitingKeys (.ofSlot key :: rest) = key :: waitingKeys rest := rfl

theorem mem_slots_of_reply {slots : List Slot} {key : RequestKey} (h : (slotReply? slots key).isSome = true) :
    ∃ slot ∈ slots, slot.key = key := by
  obtain ⟨frame, hframe⟩ := Option.isSome_iff_exists.mp h
  obtain ⟨slot, hfound, -⟩ := Option.bind_eq_some_iff.mp hframe
  exact ⟨slot, List.mem_of_find?_eq_some hfound, by simpa using List.find?_some hfound⟩

/-- A slot stays when the transmitter begins the reply of another. -/
theorem mem_freeSlot {slots : List Slot} {slot : Slot} {entry : WaitingReply} (h : slot ∈ slots)
    (hne : entry ≠ .ofSlot slot.key) : slot ∈ freeSlot slots entry := by
  cases entry with
  | ofSlot key => exact List.mem_filter.mpr ⟨h, decide_eq_true fun heq => hne (by rw [heq])⟩
  | resend => exact h
  | refusal => exact h

/-- The requests whose replies wait stand in slots, a free transmitter's choice made too. -/
theorem inSlot_of_waiting {s : State} (h : SlotsAccounted s) {key : RequestKey}
    (hkey : .ofSlot key ∈ (choose s).link.replies) : (choose s).link.inSlot key = true := by
  obtain ⟨hnodup, hreply, -⟩ := h
  have hslot (hmem : .ofSlot key ∈ s.link.replies) : ∃ slot ∈ s.link.slots, slot.key = key :=
    mem_slots_of_reply (hreply key (List.mem_filterMap.mpr ⟨_, hmem, rfl⟩))
  obtain ⟨hreplies, hslots⟩ | ⟨entry, rest, hreplies, hrest, hslots⟩ := choose_replies_slots s
  · rw [hreplies] at hkey
    obtain ⟨slot, hmem, rfl⟩ := hslot hkey
    exact List.any_eq_true.mpr ⟨slot, hslots ▸ hmem, by simp⟩
  · rw [hrest] at hkey
    obtain ⟨slot, hmem, rfl⟩ := hslot (hreplies ▸ List.mem_cons_of_mem _ hkey)
    refine List.any_eq_true.mpr ⟨slot, hslots ▸ mem_freeSlot hmem ?_, by simp⟩
    rintro rfl
    rw [hreplies, waitingKeys_cons_ofSlot, List.nodup_cons] at hnodup
    exact hnodup.1 (List.mem_filterMap.mpr ⟨_, hkey, rfl⟩)

/-- A taken request whose owner starts its host motion holds its slot. -/
theorem motion_request {rq : Request} {s t : State} (owner : Owner) (h : Takes rq s) (hslots : SlotsAccounted s)
    (howner : owner rq (taken rq s) = (t, none)) (hkeeps : Keeps [.feed] (taken rq s) t) :
    ∃ u, request owner id rq s = u ∧ u.feed = t.feed ∧ u.link.cache = s.link.cache ∧
      (∃ slot ∈ u.link.slots, slot.key = rq.key ∧ slot.reply = none) ∧ RequestKeeps [.feed] s u := by
  have hu : request owner id rq s = choose t := by
    rw [request_taken owner id h]
    simp only [execute]
    rw [show owner rq (takeSlot rq (choose s)) = (t, none) from howner]
    rfl
  have hlink : t.link = (taken rq s).link := hkeeps .link (by decide)
  have htaken : Keeps [.link, .notices, .feed] s t :=
    ((taken_keeps rq s).weaken (by decide)).trans (hkeeps.weaken (by decide))
  refine ⟨choose t, hu, (choose_keeps t).1 .feed (by decide), ?_, ?_, ?_⟩
  · rw [(choose_keeps t).2.2.2.1, hlink]
    exact (choose_keeps s).2.2.2.1
  · have hmem : ({ key := rq.key, kind := rq.kind, reply := none } : Slot) ∈ t.link.slots := by
      rw [hlink]
      exact List.mem_append_right _ (List.mem_singleton.mpr rfl)
    refine ⟨{ key := rq.key, kind := rq.kind, reply := none }, ?_, rfl, rfl⟩
    obtain ⟨-, hsame⟩ | ⟨entry, rest, hreplies, -, hsame⟩ := choose_replies_slots t
    · exact hsame ▸ hmem
    · refine hsame ▸ mem_freeSlot hmem ?_
      rintro rfl
      have hwaits : .ofSlot rq.key ∈ (choose s).link.replies := by
        rw [show (choose s).link.replies = (taken rq s).link.replies from rfl, ← hlink, hreplies]
        exact List.mem_cons_self
      exact absurd (inSlot_of_waiting hslots hwaits) (by simp [h.2.2.1])
  · refine ⟨htaken.trans ((choose_keeps t).1.weaken (by decide)), ?_, ?_⟩
    · refine (taken_linkAside rq s).trans (LinkAside.trans ?_ (choose_keeps t).2.1)
      rw [LinkAside, hlink]
      exact ⟨rfl, rfl, rfl, rfl, rfl⟩
    · refine (taken_notices rq s).trans (NoticesAside.trans ?_ (choose_keeps t).2.2.1)
      rw [NoticesAside, show t.notices = (taken rq s).notices from hkeeps .notices (by decide)]
      exact ⟨rfl, rfl⟩

/-- A taken request that its owner refuses is answered, and changes no block. -/
theorem refused_motion {rq : Request} {s : State} {status : Status} {results : Results} (owner : Owner)
    (h : Takes rq s) (howner : owner rq (taken rq s) = (taken rq s, some (status, results))) :
    Answered rq status results s (request owner id rq s) ∧ RequestKeeps [] s (request owner id rq s) := by
  have hu : request owner id rq s = choose (completeReply rq.key rq.kind status results (taken rq s)) := by
    rw [request_taken owner id h]
    simp only [execute]
    rw [show owner rq (takeSlot rq (choose s)) = _ from howner]
    rfl
  rw [hu]
  exact ⟨completed_answers h rfl ((choose_power s).trans (receives_power h.1)),
    completed_keeps (Keeps.refl _ _) rfl (NoticesAside.refl _)⟩

/-- A feed whose forward step is called for (R112). -/
theorem callStep_feed (s : State) : (callStep .forward s).feed = { s.feed with
    inFlight := if s.feed.stepStarted.isNone then .step .forward else s.feed.inFlight,
    called := if s.feed.stepStarted.isNone then none else some (.step .forward),
    stepStarted := if s.feed.stepStarted.isNone then some s.clock else s.feed.stepStarted } := by
  unfold callStep startStep
  split
  · simp
  · simp

theorem conditions_isEmpty_iff (c : ConditionSet) :
    c.isEmpty = true ↔ c = { coverOpen := false, mediaOut := false } := by
  obtain ⟨coverOpen, mediaOut⟩ := c
  cases coverOpen <;> cases mediaOut <;> simp [ConditionSet.isEmpty]

theorem taken_clock (rq : Request) (s : State) : (taken rq s).clock = s.clock := taken_keeps rq s .clock (by decide)

/-- FEED accepted (R127). -/
theorem feedLines_accepted {rq : Request} {s : State} {n : Nat} (hp : rq.payload = le16 n) (hlow : 1 ≤ n)
    (hhigh : n ≤ 32767) (hidle : s.feed.state = .idle) (hempty : s.conditions.isEmpty = true) :
    feedLines rq s = (callStep .forward
      (s.onFeed fun f => { f with state := .moving rq.key n 0, parked := 0, edge := none }), none) := by
  have hn : u16At rq.payload 0 = n := hp ▸ u16At_le16 (by omega)
  have hlen : rq.payload.length = 2 := hp ▸ rfl
  simp only [feedLines, hn, hlen, hidle, hempty]
  rw [if_neg (by simp), if_neg (by simp [inRange]; omega), if_neg (by simp), if_neg (by simp)]

/-- CALIBRATE accepted (R129). -/
theorem calibratePitch_accepted {rq : Request} {s : State} (hp : rq.payload = [])
    (hmode : s.settings.mediaMode ≠ .continuous) (hidle : s.feed.state = .idle)
    (hempty : s.conditions.isEmpty = true) :
    calibratePitch rq s = (callStep .forward (s.onFeed fun f =>
      { f with state := .calibrating rq.key s.settings.searchLimit 0 0 false, parked := 0, edge := none }), none) := by
  simp [calibratePitch, hp, hmode, hidle, hempty]

/-- CALIBRATE refused (R129, R130). -/
theorem calibratePitch_refused {rq : Request} {s : State}
    (h : rq.payload ≠ [] ∨ s.feed.state ≠ .idle ∨ s.settings.mediaMode = .continuous ∨
      s.conditions ≠ { coverOpen := false, mediaOut := false }) :
    calibratePitch rq s = (s, some (if rq.payload ≠ [] then .badLength
      else if s.feed.state ≠ .idle ∨ s.settings.mediaMode = .continuous then .wrongState
      else .conditionActive, .calibrate s.feed.pitch none)) := by
  have hempty := conditions_isEmpty_iff s.conditions
  have hlen : rq.payload.length ≠ 0 ↔ rq.payload ≠ [] := by simp
  simp only [calibratePitch, hlen]
  split
  · rfl
  split
  · rfl
  · rw [if_pos]
    grind

/-- Settles O43: the owners of FEED and CALIBRATE, accepted and refused. -/
theorem feedAndCalibrateStart : Obligations.FeedAndCalibrateStart := by
  unfold Obligations.FeedAndCalibrateStart
  refine ⟨fun seq payload s htakes hrefused => ?_, ?_⟩
  · have howner := calibratePitch_refused (rq := requestOf seq 0x31 payload)
      (s := taken (requestOf seq 0x31 payload) s)
      (by rw [taken_feed, taken_settings, taken_conditions]; exact hrefused)
    rw [taken_feed, taken_settings] at howner
    obtain ⟨hanswered, hkeeps⟩ := refused_motion calibratePitch htakes howner
    exact ⟨_, rfl, hkeeps, hanswered⟩
  · intro seq n s hslots hidle hconditions started holds
    have hempty (rq : Request) : (taken rq s).conditions.isEmpty = true := by
      rw [taken_conditions, conditions_isEmpty_iff, hconditions]
    have hstart (owner : Owner) (rq : Request) (state : FeedState) (htakes : Takes rq s)
        (howner : owner rq (taken rq s) = (callStep .forward ((taken rq s).onFeed fun f =>
          { f with state := state, parked := 0, edge := none }), none)) :
        ∃ t, request owner id rq s = t ∧ t.feed = started state ∧ holds rq t := by
      obtain ⟨u, hu, hfeed, hcache, hslot, hkeeps⟩ := motion_request owner htakes hslots howner
        ((State.onFeed_keeps _ _).trans (callStep_keeps _ _))
      refine ⟨u, hu, ?_, hcache, hslot, hkeeps⟩
      rw [hfeed, callStep_feed, State.onFeed_feed, State.onFeed_clock, taken_feed, taken_clock]
    refine ⟨fun hlow hhigh htakes => ?_, fun hmode htakes => ?_⟩
    · obtain ⟨t, ht, hrest⟩ := hstart feedLines _ _ htakes
        (feedLines_accepted rfl hlow hhigh (by rw [taken_feed, hidle]) (hempty _))
      exact ⟨t, congrArg Host.Outcome.next ht, hrest⟩
    · obtain ⟨t, ht, hrest⟩ := hstart calibratePitch _ _ htakes
        (calibratePitch_accepted rfl (by rw [taken_settings]; exact hmode) (by rw [taken_feed, hidle]) (hempty _))
      rw [taken_settings] at hrest
      exact ⟨t, congrArg Host.Outcome.next ht, hrest⟩

/-! ### The end of an event -/

/-- What the feed did is reported, and a free transmitter chooses: so end the events of the mechanism. -/
def finish (before after : State) : State := choose (reportFeed before after)

theorem finish_keeps (before after : State) : Keeps [.link, .notices] after (finish before after) :=
  ((reportFeed_keeps before after).weaken (by decide)).trans (choose_keeps _).1

theorem finish_shows (before after : State) : Shows after (finish before after) :=
  (reportFeed_shows before after).trans (choose_shows _)

theorem reportFeed_link (before after : State) : (reportFeed before after).link = after.link :=
  reportFeed_keeps before after .link (by decide)

theorem finish_cache (before after : State) : (finish before after).link.cache = after.link.cache := by
  rw [finish, (choose_keeps _).2.2.2.1, reportFeed_link]

theorem finish_linkAside (before after : State) : LinkAside after (finish before after) := by
  refine LinkAside.trans ?_ (choose_keeps _).2.1
  rw [LinkAside, reportFeed_link]
  exact ⟨rfl, rfl, rfl, rfl, rfl⟩

theorem finish_tells {before after : State} (h : before.feed.state.paused? = none) : Tells (finish before after) :=
  (reportFeed_tells h).of_keeps ((choose_keeps _).1.weaken (by decide)) (choose_keeps _).2.2.1

/-- Nothing is told of a feed that stays out of PAUSED. -/
theorem finish_requestKeeps {before after : State} {changed : List Part} (h : Keeps changed before after)
    (hchanged : .link ∉ changed ∧ .notices ∉ changed ∧ .sensors ∉ changed)
    (hpaused : after.feed.state.paused?.isSome = before.feed.state.paused?.isSome) :
    RequestKeeps changed before (finish before after) := by
  obtain ⟨hlink, hnotices, hsensors⟩ := hchanged
  have hconditions : after.conditions = before.conditions := by
    rw [State.conditions, State.conditions, show after.sensors = before.sensors from h .sensors hsensors]
  rw [finish, reportFeed_eq hpaused hconditions]
  refine ⟨?_, ?_, ?_⟩
  · refine (h.weaken fun p hp => by simp [hp]).trans ((choose_keeps after).1.weaken fun p hp => ?_)
    simp only [List.mem_cons, List.not_mem_nil, or_false] at hp
    rcases hp with rfl | rfl <;> simp
  · refine LinkAside.trans ?_ (choose_keeps after).2.1
    rw [LinkAside, show after.link = before.link from h .link hlink]
    exact ⟨rfl, rfl, rfl, rfl, rfl⟩
  · refine NoticesAside.trans ?_ (choose_keeps after).2.2.1
    rw [NoticesAside, show after.notices = before.notices from h .notices hnotices]
    exact ⟨rfl, rfl⟩

/-! ### The end of a host motion -/

/-- A host motion that ends, as the state after the event shows it (R127, R129). -/
theorem motion_ends {key : RequestKey} {kind : Byte} {status : Status} {results : Results} {s u : State}
    (h : Shows (enterIdle (completeReply key kind status results s)) u)
    (hcache : u.link.cache = (enterIdle (completeReply key kind status results s)).link.cache) (htold : Tells u) :
    u.feed.state.motionKey? = none ∧ StartsOrIdles s.feed s.ring u ∧ MotionAnswered key status results s u := by
  refine ⟨by rw [h.feed]; exact (enterIdle_rests _).motion,
    enterIdle_startsOrIdles (s := completeReply key kind status results s) h htold, ?_⟩
  refine ⟨{ key := key,
            frame := { seq := key.seq, kind := kind, status := status, results := results,
                       serial := s.link.serial } }, ?_, rfl, rfl, rfl⟩
  rw [hcache, (enterIdle_rests _).link]
  rfl

theorem enterIdle_pending (s : State) : (enterIdle s).feed.pending = s.feed.pending := (enterIdle_decided s).pending

/-! ### STOP -/

/-- The results that a host motion is answered with (R127, R129, R130). -/
def FeedState.motionResults (pitch : Nat) : FeedState → Results
  | .moving _ _ done => .feed done
  | .calibrating _ _ _ moved _ => .calibrate pitch (some moved)
  | .idle | .backfeed | .seekSearch _ _ | .seekOffset _ | .printing | .stalled | .trailing _ | .paused _ _ => .unstated

/-- The state at a boundary once the pending stops are spent. -/
def spent (s : State) : State := s.onFeed fun f => { f with pending := PendingStops.none, called := none }

/-- A pending stop that is no reset ends a host motion at the boundary (R127, R129). -/
theorem atBoundary_of_motionEnd {s : State} {key : RequestKey} {status : Status}
    (hreset : s.feed.pending.reset = none) (hend : s.feed.pending.motionEnd? = some status)
    (hmotion : s.feed.state.motionKey? = some key) (edge ended : Bool) :
    ∃ kind, atBoundary edge ended s = enterIdle
      (completeReply key kind status (s.feed.state.motionResults s.feed.pitch) (spent s)) := by
  cases hstate : s.feed.state with
  | moving key' n done =>
    obtain rfl : key' = key := by simpa [hstate, FeedState.motionKey?] using hmotion
    exact ⟨0x30, by simp only [atBoundary, hreset, hstate, boundaryMoving, hend, endFeed]; rfl⟩
  | calibrating key' limit count moved found =>
    obtain rfl : key' = key := by simpa [hstate, FeedState.motionKey?] using hmotion
    exact ⟨0x31, by simp only [atBoundary, hreset, hstate, boundaryCalibrating, hend, endCalibrate]; rfl⟩
  | idle | backfeed | seekSearch | seekOffset | printing | stalled | trailing | paused =>
    simp [hstate, FeedState.motionKey?] at hmotion

theorem paused?_of_motionKey {st : FeedState} {key : RequestKey} (h : st.motionKey? = some key) :
    st.paused? = none := by
  cases st <;> simp_all [FeedState.motionKey?, FeedState.paused?]

/-- STOP taken with a host motion running and no stop pending (R128). -/
theorem stopMotion_accepted {rq : Request} {s : State} {motion : HostMotion} (hp : rq.payload = [])
    (hmotion : s.feed.state.hostMotion? = some motion) (hpending : s.feed.pending.any = false) :
    stopMotion rq s = (s.onFeed fun f => { f with pending := { f.pending with stop := true } }, .ok,
      .stop motion) := by
  simp [stopMotion, hp, hmotion, hpending]

theorem stopAct_of_not_standing {s : State} (h : s.feed.standing = false) : stopAct s = s := by
  simp only [stopAct, actIfStanding, h, Bool.false_and, Bool.false_eq_true, if_false]
  exact reportFeed_eq rfl rfl

theorem stopAct_of_standing {s : State} (h : s.feed.standing = true) (hpending : s.feed.pending.any = true) :
    stopAct s = reportFeed s (atBoundary false false s) := by
  simp [stopAct, actIfStanding, h, hpending]

/-- Settles O44: the stop is pending, or the boundary ends the motion after STOP's own reply. -/
theorem stopEndsTheMotion : Obligations.StopEndsTheMotion := by
  unfold Obligations.StopEndsTheMotion
  intro seq key motion s rq hkey hmotion hpending htakes
  have hreset : s.feed.pending.reset = none := by
    simp only [PendingStops.any, Bool.or_eq_false_iff, Option.isSome_eq_false_iff, Option.isNone_iff_eq_none] at hpending
    exact hpending.1.1.1
  have hnotPaused := paused?_of_motionKey hkey
  have howner := stopMotion_accepted (rq := rq) (s := taken rq s) rfl (by rw [taken_feed]; exact hmotion)
    (by rw [taken_feed]; exact hpending)
  have hu := request_answered stopMotion stopAct htakes howner
  rw [show rq.kind = 0x32 from rfl] at hu
  refine ⟨_, congrArg Host.Outcome.next hu, fun hflight => ?_, fun hflight hline => ?_⟩
  · rw [stopAct_of_not_standing (by simp [Feed.standing, completeReply, taken_feed, hflight])]
    refine ⟨completed_answers htakes rfl ((choose_power s).trans (receives_power htakes.1)),
      completed_keeps ((State.onFeed_keeps _ _).weaken (by decide)) rfl (NoticesAside.refl _), ?_⟩
    rw [(choose_keeps _).1 .feed (by decide)]
    exact congrArg (fun f : Feed => { f with pending := { f.pending with stop := true } }) (taken_feed rq s)
  · rw [stopAct_of_standing (by simp [Feed.standing, completeReply, taken_feed, hflight, hline])
      (by simp [PendingStops.any, completeReply])]
    obtain ⟨kind, hboundary⟩ := atBoundary_of_motionEnd (key := key) (status := .stopped)
      (s := completeReply rq.key 0x32 .ok (.stop motion) ((taken rq s).onFeed fun f =>
        { f with pending := { f.pending with stop := true } }))
      (by simp [completeReply, taken_feed, hreset]) (by simp [PendingStops.motionEnd?, completeReply])
      (by simp [completeReply, taken_feed, hkey]) false false
    rw [hboundary]
    generalize hcompleted : completeReply rq.key 0x32 .ok (.stop motion) ((taken rq s).onFeed fun f =>
      { f with pending := { f.pending with stop := true } }) = c
    have hfeed : c.feed = { s.feed with pending := { s.feed.pending with stop := true } } := by
      rw [← hcompleted]
      exact congrArg (fun f : Feed => { f with pending := { f.pending with stop := true } }) (taken_feed rq s)
    have hring : c.ring = s.ring := by
      rw [← hcompleted]
      exact taken_ring rq s
    have hcache : c.link.cache = cacheReply s.link.cache
        { key := rq.key, frame := replyTo rq .ok (.stop motion) s.link.serial } := by
      rw [← hcompleted]
      show cacheReply (choose s).link.cache
        { key := rq.key, frame := replyTo rq .ok (.stop motion) (choose s).link.serial } = _
      rw [(choose_keeps s).2.2.2.1, (choose_keeps s).2.2.2.2]
    obtain ⟨hrests, hstarts, entry, hlast, hentry, hstatus, hresults⟩ := motion_ends (s := spent c)
      (finish_shows c _) (finish_cache c _) (finish_tells (by rw [hfeed]; exact hnotPaused))
    refine ⟨hrests, ?_, ?_, entry, hentry, hstatus, fun n done hmoving => ?_, fun limit count moved found hcal => ?_, ?_⟩
    · rw [← hring]
      have hspent : (spent c).feed = { s.feed with pending := PendingStops.none, called := none } := by
        rw [spent, State.onFeed_feed, hfeed]
      rw [hspent] at hstarts
      exact hstarts
    · show (finish c _).feed.pending.any = false
      rw [(finish_shows c _).feed, enterIdle_pending]
      rfl
    · rw [hresults, hfeed, hmoving]
      rfl
    · rw [hresults, hfeed, hcal]
      rfl
    · rw [← hcache]
      exact hlast

/-! ### Requests that report the feed -/

/-- A taken request whose owner answers at once and hands over FEED_STATE when its effect was a trigger: it is
answered, and the state shows the effect. -/
theorem reporting_request {rq : Request} {s t : State} {status : Status} {results : Results} {changed : List Part}
    (f : Request → State → State × Status × Results) (h : Takes rq s)
    (hf : f rq (taken rq s) = (reportFeed (taken rq s) t, status, results)) (hkeeps : Keeps changed (taken rq s) t)
    (hlink : .link ∉ changed) (hpower : .power ∉ changed) :
    ∃ u, request (answering f) id rq s = u ∧ Answered rq status results s u ∧ Keeps [.link, .notices] t u ∧
      NoticesAside (reportFeed (taken rq s) t) u ∧ LinkAside s u ∧ Keeps (.link :: .notices :: changed) s u := by
  have hreport := reportFeed_keeps (taken rq s) t
  obtain ⟨u, hu, hanswered, hsame, haside, hnotices, -⟩ := answered_request f h hf
    ((hreport .link (by decide)).trans (hkeeps .link hlink))
    ((hreport .power (by decide)).trans ((hkeeps .power hpower).trans (choose_power s)))
  have hshown : Keeps [.link, .notices] t u := (hreport.weaken (by decide)).trans hsame
  have hsub : ∀ p ∈ [Part.link, .notices], p ∈ Part.link :: .notices :: changed := by
    intro p hp; simp at hp; rcases hp with rfl | rfl <;> simp
  exact ⟨u, hu, hanswered, hshown, hnotices, haside,
    (((taken_keeps rq s).weaken hsub).trans (hkeeps.weaken fun p hp => by simp [hp])).trans (hshown.weaken hsub)⟩

/-- The state after a reporting request has told its FEED_STATE, when the effect was a trigger. -/
theorem told_of_reporting {b t u : State} (hkeeps : Keeps [.link, .notices] t u)
    (hnotices : NoticesAside (reportFeed b t) u) (h : feedStateTriggered b t = true) :
    ∃ n ∈ u.notices.entries, n.content = .feedState u.feedReport := by
  have htold := content_of_aside hnotices (reportFeed_told h)
  rwa [feedReport_of_keeps ((reportFeed_keeps b t).weaken (by decide)),
    ← feedReport_of_keeps (u := u) (hkeeps.weaken (by decide))] at htold

/-- The state after a reporting request tells a pause that it began. -/
theorem tells_of_reporting {b t u : State} (hkeeps : Keeps [.link, .notices] t u)
    (hnotices : NoticesAside (reportFeed b t) u) (hb : b.feed.state.paused? = none) : Tells u := by
  intro hp
  rw [(hkeeps .feed (by decide) : u.feed = t.feed)] at hp
  exact told_of_reporting hkeeps hnotices (triggered_of_paused (by simp [hb, hp]))

/-! ### HOLD and RELEASE -/

/-- The feed with the hold flag cleared (R126). -/
def released (s : State) : State := s.onFeed fun f => { f with hold := false }

theorem releaseQueue_of_unheld {rq : Request} {s : State} (hp : rq.payload = []) (h : s.feed.hold = false) :
    releaseQueue rq s = (s, .ok, .release false false) := by
  simp [releaseQueue, hp, h]

theorem releaseQueue_of_held {rq : Request} {s : State} (hp : rq.payload = []) (h : s.feed.hold = true) :
    releaseQueue rq s = (reportFeed s (startDecision (released s)), .ok,
      .release true (decide (s.feed.state = .idle) && mayStart (released s))) := by
  simp [releaseQueue, hp, h, released]

/-- Settles O45: the owners of HOLD and RELEASE, by the flag, the feed state and the queue. -/
theorem holdAndReleaseSetTheFlag : Obligations.HoldAndReleaseSetTheFlag := by
  unfold Obligations.HoldAndReleaseSetTheFlag
  intro seq s
  refine ⟨fun htakes => ?_, fun htakes => ?_⟩
  · obtain ⟨u, hu, hanswered, hkeeps, hsame⟩ := effect_request_of_keeps (changed := [.feed]) holdQueue htakes rfl
      (State.onFeed_keeps _ _) (by decide) (by decide) (by decide)
    rw [taken_feed] at hanswered
    refine ⟨u, congrArg Host.Outcome.next hu, hanswered, ?_, hkeeps⟩
    rw [show u.feed = _ from hsame .feed (by decide)]
    exact congrArg (fun f : Feed => { f with hold := true }) (taken_feed _ s)
  · obtain ⟨rq, hrq⟩ : ∃ rq, rq = requestOf seq 0x34 [] := ⟨_, rfl⟩
    have hpayload : rq.payload = [] := by rw [hrq]; rfl
    rw [← hrq] at htakes ⊢
    have hexec (u : State) (hu : request (answering releaseQueue) id rq s = u) :
        exec (.release seq []) s = .next u := by
      rw [hrq] at hu
      exact congrArg Host.Outcome.next hu
    have hbefore : (taken rq s).feed = s.feed := taken_feed rq s
    have hqueue : (taken rq s).composer = s.composer := taken_composer rq s
    cases hhold : s.feed.hold with
    | false =>
      obtain ⟨u, hu, hanswered, hkeeps⟩ := refused_request releaseQueue htakes
        (releaseQueue_of_unheld hpayload (by rw [hbefore, hhold]))
      exact ⟨u, hexec u hu, by rw [hkeeps.1 .feed (by decide), hhold],
        fun _ => ⟨hanswered, hkeeps⟩, by simp, by simp⟩
    | true =>
      have howner := releaseQueue_of_held hpayload (show (taken rq s).feed.hold = true by rw [hbefore, hhold])
      have hfeed : (released (taken rq s)).feed = { s.feed with hold := false } :=
        congrArg (fun f : Feed => { f with hold := false }) hbefore
      have hmay : mayStart (released (taken rq s)) = true ↔ s.composer.queue ≠ [] := by
        rw [mayStart_iff, hfeed, show (released (taken rq s)).composer = s.composer from hqueue]
        simp
      by_cases hstays : s.feed.state ≠ .idle ∨ s.composer.queue = []
      · have hno : (decide ((taken rq s).feed.state = .idle) && mayStart (released (taken rq s))) = false := by
          rw [Bool.and_eq_false_iff, hbefore]
          exact hstays.imp decide_eq_false fun hempty => by simpa using mt hmay.mp (by simp [hempty])
        have hcleared : startDecision (released (taken rq s)) = released (taken rq s) := if_neg (by
          rintro ⟨hidle, hstarts⟩
          rw [hfeed] at hidle
          exact hstays.elim (· hidle) (hmay.mp hstarts))
        rw [hno, hcleared, show reportFeed (taken rq s) (released (taken rq s)) = released (taken rq s) from
          reportFeed_eq rfl rfl] at howner
        obtain ⟨u, hu, hanswered, hkeeps, hsame⟩ := effect_request_of_keeps (changed := [.feed]) releaseQueue htakes
          howner (State.onFeed_keeps _ _) (by decide) (by decide) (by decide)
        have hafter : u.feed = { s.feed with hold := false } := (hsame .feed (by decide)).trans hfeed
        exact ⟨u, hexec u hu, by rw [hafter], by simp, fun _ _ => ⟨hanswered, hafter, hkeeps⟩,
          fun _ hidle hsome => absurd hstays (by simp [hidle, hsome])⟩
      · obtain ⟨hidle, hsome⟩ := not_or.mp hstays
        rw [not_not] at hidle
        have hyes : (decide ((taken rq s).feed.state = .idle) && mayStart (released (taken rq s))) = true := by
          simp [hbefore, hidle, hmay.mpr hsome]
        have hstarts : startDecision (released (taken rq s)) = start (released (taken rq s)) :=
          if_pos ⟨by rw [hfeed]; exact hidle, hmay.mpr hsome⟩
        rw [hyes, hstarts] at howner
        obtain ⟨u, hu, hanswered, hsame, hnotices, haside, hkeeps⟩ := reporting_request
          (changed := [.composer, .ring, .feed]) releaseQueue htakes howner
          (((State.onFeed_keeps _ _).weaken (by decide)).trans (start_keeps _)) (by decide) (by decide)
        have hshows : Shows (start (released (taken rq s))) u := .of_keeps (hsame.weaken (by decide))
        have hstarted := start_started hshows (tells_of_reporting hsame hnotices (by rw [hbefore, hidle]; rfl))
        rw [hfeed, show (released (taken rq s)).ring = s.ring from taken_ring rq s] at hstarted
        refine ⟨u, hexec u hu, ?_, by simp, fun _ hno => absurd hno hstays, fun _ _ _ => ⟨hanswered, ?_, hstarted,
          hstarted.1, hkeeps⟩⟩
        · rw [hshows.feed, (start_decided _).hold, hfeed]
        · rw [hshows.feed]
          exact start_not_idle _

end Sys2Proof.Machine
end

section
/-! PROOF. RESUME (R145 to R149): CONTINUE by the context of the pause, and REPRINT. -/

namespace Sys2Proof.Machine

/-! ### What PRINTING at a boundary decides, by the buffer that it holds -/

theorem Burns.called {f : Feed} {t : State} (h : Burns f t) : t.feed.inFlight = .burn ∨ t.feed.called = some .burn := by
  obtain ⟨-, hburn⟩ := h
  split at hburn
  · exact .inl hburn.1
  · exact .inr hburn.2

theorem BandRing.draining_isSome {r : BandRing} {i : Fin 4} (h : (r.stateOf i).isDraining = true) :
    r.draining?.isSome = true := by
  rw [BandRing.draining?, List.find?_isSome]
  exact ⟨i, by fin_cases i <;> simp, h⟩

/-- A line printed from no buffer that is held has one granted, or stalls (R102, R120). -/
theorem Prints.granted_or_stalled {f : Feed} {r : BandRing} {t : State} (h : Prints f r t) (hd : r.draining? = none)
    {tag : Tag} (htag : t.cursorTag? = some tag) :
    t.feed.state = .printing ∧ t.ring.draining?.isSome = true ∨
      t.feed.state = .stalled ∧ t.ring.waiting = some tag := by
  have hnone := h.2 hd tag htag
  split at hnone
  next i hi => exact .inl ⟨hnone.1.1, BandRing.draining_isSome (by rw [hnone.2]; rfl)⟩
  next hi => exact .inr ⟨hnone.1, hnone.2.2.1⟩

theorem printLine_ring_of_draining {s : State} (h : s.ring.draining?.isSome = true) :
    (printLine s).ring = s.ring := by
  obtain ⟨i, hi⟩ := Option.isSome_iff_exists.mp h
  simp only [printLine, hi]
  exact (callBurn_keeps _) .ring (by decide)

/-! ### Without conditions nothing pauses -/

theorem cause?_of_empty {c : ConditionSet} (h : c = { coverOpen := false, mediaOut := false }) : c.cause? = none := by
  rw [h]
  rfl

theorem printLine_not_paused (s : State) : (printLine s).feed.state.paused? = none := by
  obtain h | h := printLine_state s <;> rw [h] <;> rfl

theorem enterSeek_not_paused (s : State) : (enterSeek s).feed.state.paused? = none := by
  unfold enterSeek
  split
  · exact printLine_not_paused s
  · rw [callStep_state]
    rfl

theorem start_not_paused {s : State} (h : s.conditions.cause? = none) : (start s).feed.state.paused? = none := by
  simp only [start, (beginHead_decided s).conditions, h]
  split
  · exact enterSeek_not_paused _
  · rw [callStep_state]
    rfl

theorem enterIdle_not_paused {s : State} (h : s.conditions.cause? = none) :
    (enterIdle s).feed.state.paused? = none := by
  rw [enterIdle_eq]
  split
  · exact start_not_paused h
  · rfl

/-! ### CONTINUE -/

/-- A feed that measures its park no more (R143). -/
def unparked (s : State) : State := s.onFeed fun f => { f with parked := 0 }

theorem continueFrom_decided (context) (s : State) : Decided s (continueFrom context s) := by
  unfold continueFrom
  split
  · exact printLine_decided s
  · exact enterSeek_decided s
  · exact enterIdle_decided s
  · split
    · split
      · exact enterIdle_decided s
      · exact (State.enter_decided s _).trans (callStep_decided _ _)
    · exact (Decided.of_feed rfl rfl rfl rfl).trans (enterIdle_decided _)
  · split
    · split
      · exact enterSeek_decided s
      · exact (State.enter_decided s _).trans (callStep_decided _ _)
    · exact (Decided.of_feed rfl rfl rfl rfl).trans (enterSeek_decided _)

theorem continueFrom_not_paused {s : State} (h : s.conditions.cause? = none) (context) :
    (continueFrom context s).feed.state.paused? = none := by
  unfold continueFrom
  split
  · exact printLine_not_paused s
  · exact enterSeek_not_paused s
  · exact enterIdle_not_paused h
  · split
    · split
      · exact enterIdle_not_paused h
      · rw [callStep_state]
        rfl
    · exact enterIdle_not_paused h
  · split
    · split
      · exact enterSeek_not_paused s
      · rw [callStep_state]
        rfl
    · exact enterSeek_not_paused _

/-- RESUME with CONTINUE in a pause without conditions (R145). -/
theorem resumeFeed_continue {rq : Request} {s : State} {cause : PauseCause} {context : PausedContext}
    (hp : rq.payload = [0]) (hpaused : s.feed.state = .paused cause context) (hempty : s.conditions.isEmpty = true) :
    resumeFeed rq s = ((resumeWithContinue context s).1, (resumeWithContinue context s).2,
      .resume (some 0) (some context.kind) (resumeWithContinue context s).1.feed.state.name) := by
  simp [resumeFeed, hp, hpaused, FeedState.paused?, hempty, resumeReply]

/-- CONTINUE of a PRINT context whose position is lost is refused (R146). -/
theorem resumeWithContinue_lost (page copy line : Nat) (s : State) :
    resumeWithContinue (.print page copy line false) s = (s, .positionLost) := rfl

/-- CONTINUE of any other context goes on (R146, R147, R148). -/
theorem resumeWithContinue_goesOn {context : PausedContext} (h : ∀ page copy line, context ≠ .print page copy line false)
    (s : State) : resumeWithContinue context s = (reportFeed s (continueFrom context s), .ok) := by
  unfold resumeWithContinue
  split
  · exact absurd rfl (h _ _ _)
  all_goals rfl

/-- SEEK outside CONTINUOUS mode searches from its beginning (R117). -/
theorem Seeks.searches {f : Feed} {r : BandRing} {s t : State} (h : Seeks f r t) (hsettings : t.settings = s.settings)
    (hmode : s.settings.mediaMode ≠ .continuous) : t.feed.state = .seekSearch 0 s.settings.searchLimit := by
  rw [Seeks, hsettings, if_neg hmode] at h
  exact h.1

/-- Without conditions the start decision keeps the parked distance. -/
theorem StartsOrIdles.parked {f : Feed} {r : BandRing} {t : State} (h : StartsOrIdles f r t)
    (hconditions : t.conditions.cause? = none) : t.feed.parked = f.parked := by
  unfold StartsOrIdles at h
  split at h
  · exact h.2.2.2.2
  · obtain ⟨-, -, hdecides⟩ := h
    rw [hconditions] at hdecides
    exact hdecides.1

theorem unparked_feed (s : State) : (unparked s).feed = { s.feed with parked := 0 } := rfl

theorem unparked_ring (s : State) : (unparked s).ring = s.ring := rfl

theorem continueFrom_backfeed_lost (remaining : Nat) (s : State) :
    continueFrom (.backfeed remaining false) s = enterSeek (unparked s) := rfl

theorem continueFrom_backfeed_done {remaining : Nat} {s : State} (h : s.feed.parked = 0) :
    continueFrom (.backfeed remaining true) s = enterSeek s := if_pos h

theorem continueFrom_backfeed {remaining : Nat} {s : State} (h : s.feed.parked ≠ 0) :
    continueFrom (.backfeed remaining true) s = callStep .reverse (s.enter .backfeed) := if_neg h

theorem continueFrom_trail {remaining : Nat} {s : State} (h : remaining ≠ 0) :
    continueFrom (.trail remaining true) s = callStep .forward (s.enter (.trailing remaining)) := if_neg h

/-- A feed that enters a state and calls for a step. -/
theorem callStep_enters {d : Direction} {st : FeedState} {s u : State} (h : Shows (callStep d (s.enter st)) u) :
    u.feed.state = st ∧ Steps d s.feed u ∧ u.feed.parked = s.feed.parked := by
  refine ⟨?_, (callStep_steps (s := s.enter st) d rfl rfl).shows h, ?_⟩
  · rw [h.feed, callStep_state]
    rfl
  · rw [h.feed, callStep_parked]
    rfl

/-- A CONTINUE that goes on: it is answered, the feed has left PAUSED and tells it, and the state shows what the
context gives. -/
theorem continue_request {rq : Request} {s : State} {cause : PauseCause} {context : PausedContext}
    (hp : rq.payload = [0]) (hpaused : s.feed.state = .paused cause context)
    (hempty : s.conditions = { coverOpen := false, mediaOut := false }) (htakes : Takes rq s)
    (hcontext : ∀ page copy line, context ≠ .print page copy line false) :
    ∃ u, request (answering resumeFeed) id rq s = u ∧
      Answered rq .ok (.resume (some 0) (some context.kind) u.feed.state.name) s u ∧
      u.feed.state.paused? = none ∧ u.feed.line = s.feed.line ∧
      (∃ n ∈ u.notices.entries, n.content = .feedState u.feedReport) ∧ LinkAside s u ∧
      Keeps [.link, .notices, .composer, .ring, .feed] s u ∧
      Keeps [.link, .notices] (continueFrom context (taken rq s)) u := by
  have hbefore : (taken rq s).feed.state = .paused cause context := by rw [taken_feed, hpaused]
  have hcause : (taken rq s).conditions.cause? = none := by rw [taken_conditions]; exact cause?_of_empty hempty
  have howner := resumeFeed_continue hp hbefore
    (by rw [taken_conditions]; exact (conditions_isEmpty_iff _).mpr hempty)
  rw [resumeWithContinue_goesOn hcontext] at howner
  have hdecided := continueFrom_decided context (taken rq s)
  obtain ⟨u, hu, hanswered, hsame, hnotices, haside, hkeeps⟩ := reporting_request resumeFeed htakes howner
    hdecided.keeps (by decide) (by decide)
  have hshows : Shows (continueFrom context (taken rq s)) u := .of_keeps (hsame.weaken (by decide))
  have hleft := continueFrom_not_paused hcause context
  refine ⟨u, hu, ?_, by rw [hshows.feed, hleft], ?_, told_of_reporting hsame hnotices (triggered_of_paused ?_), haside,
    hkeeps, hsame⟩
  · rwa [(reportFeed_shows _ _).feed, ← hshows.feed] at hanswered
  · rw [hshows.feed, hdecided.line, taken_feed]
  · rw [hbefore, hleft]
    simp [FeedState.paused?]

/-- Settles O46: the context decides what the feed does next. -/
theorem resumeContinueByContext : Obligations.ResumeContinueByContext := by
  unfold Obligations.ResumeContinueByContext
  intro seq cause context s rq hpaused hempty htakes
  have hbefore : (taken rq s).feed = s.feed := taken_feed rq s
  have hring : (taken rq s).ring = s.ring := taken_ring rq s
  have hsettings : (taken rq s).settings = s.settings := taken_settings rq s
  have hqueue : (taken rq s).composer = s.composer := taken_composer rq s
  cases context with
  | print page copy line valid =>
    cases valid with
    | false =>
      have howner := resumeFeed_continue (rq := rq) rfl (hbefore ▸ hpaused)
        (by rw [taken_conditions]; exact (conditions_isEmpty_iff _).mpr hempty)
      rw [resumeWithContinue_lost] at howner
      obtain ⟨u, hu, hanswered, hkeeps⟩ := refused_request resumeFeed htakes howner
      rw [hbefore, hpaused] at hanswered
      exact ⟨u, congrArg Host.Outcome.next hu, hanswered, hkeeps⟩
    | true =>
      obtain ⟨u, hu, hanswered, hleft, hline, htold, haside, hkeeps, hsame⟩ :=
        continue_request rfl hpaused hempty htakes (by simp)
      have hshows : Shows (printLine (taken rq s)) u := .of_keeps (hsame.weaken (by decide))
      have hprints := (printLine_prints (taken rq s)).shows hshows
      have hcursor : u.cursorTag? = s.cursorTag? := by
        rw [hshows.cursorTag?, (printLine_decided _).cursorTag?, State.cursorTag?, taken_cursor?]
        rfl
      rw [hbefore, hring] at hprints
      refine ⟨u, congrArg Host.Outcome.next hu, hanswered, hleft, hline, htold, haside, hkeeps, hprints,
        fun hd => ⟨(hprints.1 hd).1, ?_, (hprints.1 hd).called⟩, fun hd htag => ?_⟩
      · rw [show u.ring = (printLine (taken rq s)).ring from hsame .ring (by decide),
          printLine_ring_of_draining (by rw [hring]; exact hd), hring]
      · obtain ⟨tag, htag⟩ := Option.isSome_iff_exists.mp htag
        rw [htag] at hcursor ⊢
        exact hprints.granted_or_stalled hd hcursor
  | seek page copy =>
    obtain ⟨u, hu, hanswered, hleft, hline, htold, haside, hkeeps, hsame⟩ :=
      continue_request rfl hpaused hempty htakes (by simp)
    have hshows : Shows (enterSeek (taken rq s)) u := .of_keeps (hsame.weaken (by decide))
    have hseeks := (enterSeek_seeks (taken rq s)).shows hshows
    rw [hbefore, hring] at hseeks
    exact ⟨u, congrArg Host.Outcome.next hu, hanswered, hleft, hline, htold, haside, hkeeps, hseeks,
      fun hmode => hseeks.searches (hkeeps .settings (by decide)) hmode⟩
  | backfeed remaining valid =>
    obtain ⟨u, hu, hanswered, hleft, hline, htold, haside, hkeeps, hsame⟩ :=
      continue_request rfl hpaused hempty htakes (by simp)
    have hshows : Shows (continueFrom (.backfeed remaining valid) (taken rq s)) u :=
      .of_keeps (hsame.weaken (by decide))
    have hset : u.settings = s.settings := hkeeps .settings (by decide)
    refine ⟨u, congrArg Host.Outcome.next hu, hanswered, hleft, hline, htold, haside, hkeeps, ?_⟩
    cases valid with
    | false =>
      rw [continueFrom_backfeed_lost] at hshows
      have hseeks := (enterSeek_seeks (unparked (taken rq s))).shows hshows
      rw [unparked_feed, hbefore, unparked_ring, hring] at hseeks
      exact ⟨by simp, fun _ => hseeks, fun _ => ⟨by rw [hshows.feed, enterSeek_parked]; rfl, hseeks.searches hset⟩⟩
    | true =>
      refine ⟨fun _ hparked => ?_, fun hno => ?_, by simp⟩
      · rw [continueFrom_backfeed (by rw [hbefore]; omega)] at hshows
        rw [← hbefore]
        exact callStep_enters hshows
      · have hparked : s.feed.parked = 0 := hno.resolve_left (by simp)
        rw [continueFrom_backfeed_done (by rw [hbefore, hparked])] at hshows
        have hseeks := (enterSeek_seeks (taken rq s)).shows hshows
        rw [hbefore, hring] at hseeks
        exact hseeks
  | trail remaining valid =>
    obtain ⟨u, hu, hanswered, hleft, hline, htold, haside, hkeeps, hsame⟩ :=
      continue_request rfl hpaused hempty htakes (by simp)
    have hshows : Shows (continueFrom (.trail remaining valid) (taken rq s)) u :=
      .of_keeps (hsame.weaken (by decide))
    have hdecided := continueFrom_decided (.trail remaining valid) (taken rq s)
    have hno : s.feed.hold = true ∨ s.composer.queue = [] → u.feed.hold = true ∨ u.composer.queue = [] := by
      rw [hshows.feed, hshows.composer, hdecided.hold, hdecided.queue, hbefore, hqueue]
      exact id
    have htells : Tells u := .of_not_paused hleft
    refine ⟨u, congrArg Host.Outcome.next hu, hanswered, hleft, hline, htold, haside, hkeeps, ?_⟩
    cases valid with
    | false =>
      have hstarts := enterIdle_startsOrIdles (s := unparked (taken rq s)) hshows htells
      rw [unparked_feed, hbefore, unparked_ring, hring] at hstarts
      refine ⟨by simp, fun _ => hstarts, fun _ => ?_, fun _ hheld => idle_of_startsOrIdles hstarts (hno hheld)⟩
      exact hstarts.parked (hshows.conditions.trans (hdecided.conditions.trans (taken_conditions rq s)) ▸
        cause?_of_empty hempty)
    | true =>
      refine ⟨fun _ hleft => ?_, fun hdone => ?_, by simp, fun hdone hheld => ?_⟩
      · rw [continueFrom_trail (by omega)] at hshows
        rw [← hbefore]
        exact callStep_enters hshows
      · obtain rfl : remaining = 0 := hdone.resolve_left (by simp)
        have hstarts := enterIdle_startsOrIdles (s := taken rq s) hshows htells
        rw [hbefore, hring] at hstarts
        exact hstarts
      · obtain rfl : remaining = 0 := hdone.resolve_left (by simp)
        exact idle_of_startsOrIdles (enterIdle_startsOrIdles (s := taken rq s) hshows htells) (hno hheld)
  | none =>
    obtain ⟨u, hu, hanswered, hleft, hline, htold, haside, hkeeps, hsame⟩ :=
      continue_request rfl hpaused hempty htakes (by simp)
    have hshows : Shows (enterIdle (taken rq s)) u := .of_keeps (hsame.weaken (by decide))
    have hstarts := enterIdle_startsOrIdles hshows (.of_not_paused hleft)
    rw [hbefore, hring] at hstarts
    refine ⟨u, congrArg Host.Outcome.next hu, hanswered, hleft, hline, htold, haside, hkeeps, hstarts, ?_, ?_⟩
    · rw [hshows.feed, enterIdle_idle_iff, hbefore, hqueue]
    · exact hstarts.parked (hshows.conditions.trans ((enterIdle_decided _).conditions.trans (taken_conditions rq s)) ▸
        cause?_of_empty hempty)

/-! ### A ring whose buffers are void -/

theorem BandRing.liveOrder_of_void {r : BandRing} (h : ∀ i, (r.stateOf i).live = false) : r.liveOrder = [] := by
  simp [BandRing.liveOrder, h]

theorem BandRing.draining_none_of_void {r : BandRing} (h : ∀ i, (r.stateOf i).live = false) : r.draining? = none := by
  refine List.find?_eq_none.mpr fun i _ hd => ?_
  have hlive := h i
  cases hs : r.stateOf i <;> simp [hs, BufferState.isDraining, BufferState.live] at hd hlive

theorem BandRing.oldestReady_none_of_void {r : BandRing} (h : ∀ i, (r.stateOf i).live = false) (tag : Tag) :
    r.oldestReady? tag = none := by
  simp [BandRing.oldestReady?, BandRing.liveOrder_of_void h]

theorem nextBand?_of_void {s : State} (h : ∀ i, (s.ring.stateOf i).live = false) : s.nextBand? = s.cursorTag? := by
  simp [State.nextBand?, BandRing.liveOrder_of_void h]

/-- PRINTING with every buffer void touches no buffer. -/
theorem printLine_stateOf_of_void {s : State} (h : ∀ i, (s.ring.stateOf i).live = false) (i : Fin 4) :
    (printLine s).ring.stateOf i = s.ring.stateOf i := by
  simp only [printLine, BandRing.draining_none_of_void h]
  split
  · unfold requestBand
    rw [show (s.enter .printing).ring = s.ring from rfl, BandRing.oldestReady_none_of_void h]
    rfl
  · rfl

theorem enterSeek_stateOf_of_void {s : State} (h : ∀ i, (s.ring.stateOf i).live = false) (i : Fin 4) :
    (enterSeek s).ring.stateOf i = s.ring.stateOf i := by
  unfold enterSeek
  split
  · exact printLine_stateOf_of_void h i
  · rw [show (callStep _ _).ring = _ from callStep_keeps _ _ .ring (by decide)]
    rfl

theorem callStep_edge (d) (s : State) : (callStep d s).feed.edge = s.feed.edge := by
  unfold callStep startStep; split <;> rfl

theorem callBurn_edge (s : State) : (callBurn s).feed.edge = s.feed.edge := by
  unfold callBurn startBurn; split <;> rfl

theorem printLine_edge (s : State) : (printLine s).feed.edge = s.feed.edge := by
  unfold printLine
  split
  · exact callBurn_edge _
  · split
    · unfold requestBand; split
      · exact callBurn_edge _
      · rfl
    · rfl

theorem enterSeek_edge (s : State) : (enterSeek s).feed.edge = s.feed.edge := by
  unfold enterSeek; split
  · exact printLine_edge _
  · exact callStep_edge _ _

/-! ### REPRINT -/

/-- The copy is to begin again: every buffer is void, the cursor stands at line 0, and the reprint is counted (R108,
R149). -/
def rewound (page : Nat) (s : State) : State :=
  reportReprint page ((voidAll s).onFeed fun f => { f with line := 0, edge := none })

theorem reprintFrom_eq (page : Nat) (s : State) : reprintFrom page s = assignBand (enterSeek (rewound page s)) := rfl

theorem rewound_feed (page : Nat) (s : State) : (rewound page s).feed = { s.feed with line := 0, edge := none } := rfl

theorem rewound_ring (page : Nat) (s : State) : (rewound page s).ring = s.ring.void fun _ => true := rfl

theorem rewound_keeps (page : Nat) (s : State) : Keeps [.composer, .ring, .feed] s (rewound page s) := by
  intro p hp; cases p <;> first | rfl | simp at hp

theorem rewound_void (page : Nat) (s : State) (i : Fin 4) : ((rewound page s).ring.stateOf i).live = false := by
  rw [rewound_ring, BandRing.stateOf_void]
  cases s.ring.stateOf i <;> simp [BufferState.void, BufferState.live]

/-- RESUME with REPRINT in a pause without conditions (R145). -/
theorem resumeFeed_reprint {rq : Request} {s : State} {cause : PauseCause} {context : PausedContext}
    (hp : rq.payload = [1]) (hpaused : s.feed.state = .paused cause context) (hempty : s.conditions.isEmpty = true) :
    resumeFeed rq s = ((resumeWithReprint context s).1, (resumeWithReprint context s).2,
      .resume (some 1) (some context.kind) (resumeWithReprint context s).1.feed.state.name) := by
  simp [resumeFeed, hp, hpaused, FeedState.paused?, hempty, resumeReply]

/-- The first assignment after the rewind takes the cursor's band (R100). -/
theorem assignBand_of_void {s : State} (h : ∀ i, (s.ring.stateOf i).live = false) (i : Fin 4)
    (hlive : ((assignBand s).ring.stateOf i).live = true) : ((assignBand s).ring.stateOf i).tag? = s.cursorTag? := by
  obtain hsame | ⟨j, t, -, -, hnext, hassign⟩ := assignBand_cases s
  · rw [hsame, h] at hlive
    cases hlive
  · rw [hassign] at hlive ⊢
    rw [nextBand?_of_void h] at hnext
    rw [hnext]
    simp only [State.withEngine_ring, State.withRing_ring, BandRing.stateOf_assign] at hlive ⊢
    split
    · rfl
    next hne => rw [if_neg hne, h] at hlive; cases hlive

/-- With every buffer FREE and the engine IDLE the ring begins again in buffer 0 (R70, R100). -/
theorem assignBand_of_free {s : State} (hengine : s.engine = none) (hfree : ∀ i, s.ring.stateOf i = .free) {tag : Tag}
    (htag : s.cursorTag? = some tag) :
    (assignBand s).engine = some { buffer := 0, tag := tag, progress := 0 } ∧
      (assignBand s).ring.stateOf 0 = .filling tag false ∧
      ((assignBand s).ring.buffers.get 0).raster = Raster.white := by
  have hlowest : s.ring.lowestFree? = some 0 := by simp [BandRing.lowestFree?, hfree]
  have hassigned := assignBand_assigned s
  rw [Assigned, hengine, hlowest, nextBand?_of_void (fun i => by rw [hfree i]; rfl), htag] at hassigned
  obtain ⟨hassign, -, -, hwhite, hstates, -⟩ := hassigned
  exact ⟨hassign, (hstates 0).trans (if_pos rfl), hwhite⟩

/-- A reprint is counted for the ACTIVE page it names (R12, R149). -/
theorem reprintFrom_page {page : Nat} {s : State} {p : Page} (h : s.page? page = some p) (hactive : p.state = .active) :
    ∃ p', (reprintFrom page s).page? page = some p' ∧ p'.reprints = min 65535 (p.reprints + 1) ∧
      p'.copiesDone = p.copiesDone ∧ p'.state = .active := by
  have hrewound : (rewound page s).page? page =
      some { p with reprints := saturate p.reprints 1 } := by
    unfold rewound reportReprint onActive
    rw [State.page?_changePage _ _ _ _ (fun p => by split <;> rfl), if_pos rfl]
    show (s.page? page).map _ = _
    simp [h, hactive]
  obtain ⟨g, hg, hpage⟩ := (enterSeek_decided (rewound page s)).page?
  refine ⟨g { p with reprints := saturate p.reprints 1 }, ?_, ?_, ?_, ?_⟩
  · rw [reprintFrom_eq, (assignBand_shows _).page?, hpage, hrewound]
    rfl
  · rw [(hg _).record]
    rfl
  · rw [(hg _).record]
  · exact ((hg _).state (by simp [hactive])).trans hactive

theorem rewound_cursor? (page : Nat) (s : State) :
    (rewound page s).cursor? = s.cursor?.map fun c => { c with line := 0 } := by
  have hpage (id : Nat) : ((rewound page s).page? id).map (fun p => (p.id, p.copiesDone)) =
      (s.page? id).map fun p => (p.id, p.copiesDone) := by
    unfold rewound reportReprint onActive
    rw [State.page?_changePage _ _ _ _ (fun p => by split <;> rfl)]
    show (if id = page then (s.page? id).map _ else s.page? id).map _ = _
    split
    · rw [Option.map_map]
      congr 1
      funext p
      simp only [Function.comp]
      split <;> rfl
    · rfl
  have hhead : ((rewound page s).headPage?).map (fun p => (p.id, p.copiesDone)) =
      s.headPage?.map fun p => (p.id, p.copiesDone) := by
    unfold State.headPage?
    show ((s.composer.queue.head?.bind (rewound page s).page?).map _) = _
    cases s.composer.queue.head? with
    | none => rfl
    | some id => exact hpage id
  rw [State.cursor?, State.cursor?, Option.map_map]
  exact (Option.map_map (fun x : Nat × Nat => ({ page := x.1, copy := x.2, line := 0 } : Cursor)) _ _).symm.trans
    ((congrArg _ hhead).trans (Option.map_map ..))

theorem BufferState.void_all_of_not_filling {b : BufferState} (h : b.isFilling = false) :
    b.void (fun _ => true) = .free := by
  cases b <;> simp_all [BufferState.isFilling, BufferState.void]

theorem assignBand_of_busy {s : State} (h : s.engine.isSome = true) : assignBand s = s := by
  obtain hsame | ⟨-, -, hidle, -⟩ := assignBand_cases s
  · exact hsame
  · simp [hidle] at h

/-- Settles O47: the ring and the cursor are rewound, and the feed seeks. -/
theorem resumeReprintBeginsAgain : Obligations.ResumeReprintBeginsAgain := by
  unfold Obligations.ResumeReprintBeginsAgain
  intro seq cause context s rq hpaused hempty htakes
  have hbefore : (taken rq s).feed = s.feed := taken_feed rq s
  have howner := resumeFeed_reprint (rq := rq) (s := taken rq s) rfl (hbefore ▸ hpaused)
    (by rw [taken_conditions]; exact (conditions_isEmpty_iff _).mpr hempty)
  cases context with
  | seek | backfeed | trail | none =>
    obtain ⟨u, hu, hanswered, hkeeps⟩ := refused_request resumeFeed htakes howner
    rw [show (resumeWithReprint _ (taken rq s)).1 = taken rq s from rfl, hbefore, hpaused] at hanswered
    exact ⟨u, congrArg Host.Outcome.next hu, hanswered, hkeeps⟩
  | print page copy line valid =>
    generalize hx : taken rq s = x at *
    have hring : x.ring = s.ring := hx ▸ taken_ring rq s
    have hengine : x.engine = s.engine := hx ▸ taken_engine rq s
    have hseek := enterSeek_decided (rewound page x)
    have hkept : Keeps [.composer, .ring, .engine, .feed] x (reprintFrom page x) :=
      (((rewound_keeps page x).weaken (by decide)).trans (hseek.keeps.weaken (by decide))).trans
        ((assignBand_keeps _).weaken (by decide))
    obtain ⟨u, hu, hanswered, hsame, hnotices, haside, hkeeps⟩ := reporting_request (status := .ok)
      (results := .resume (some 1) (some .print) (reportFeed x (reprintFrom page x)).feed.state.name)
      (t := reprintFrom page x) (changed := [.composer, .ring, .engine, .feed]) resumeFeed htakes
      (by rw [hx]; exact howner) (hx ▸ hkept) (by decide) (by decide)
    have hassign := assignBand_shows (enterSeek (rewound page x))
    have hshows : Shows (enterSeek (rewound page x)) u := hassign.trans (.of_keeps (hsame.weaken (by decide)))
    have huring : u.ring = (reprintFrom page x).ring := hsame .ring (by decide)
    have huengine : u.engine = (reprintFrom page x).engine := hsame .engine (by decide)
    have hset : u.settings = s.settings := hkeeps .settings (by decide)
    have hseekEngine : (enterSeek (rewound page x)).engine = s.engine :=
      (enterSeek_keeps (rewound page x) .engine (by decide)).trans hengine
    have hvoid : ∀ i, ((enterSeek (rewound page x)).ring.stateOf i).live = false := fun i => by
      rw [enterSeek_stateOf_of_void (rewound_void page x)]
      exact rewound_void page x i
    have hcursor : u.cursorTag? = (enterSeek (rewound page x)).cursorTag? := hshows.cursorTag?
    have hline : u.feed.line = 0 := by
      rw [hshows.feed, hseek.line]
      rfl
    have hseeks := (enterSeek_seeks (rewound page x)).shows hshows
    refine ⟨u, congrArg Host.Outcome.next hu, ?_, hline, ?_, ?_, hseeks.searches hset, ?_, ?_, ?_, ?_, ?_, ?_, haside,
      hkeeps⟩
    · rwa [(reportFeed_shows _ _).feed, ← (hsame .feed (by decide) : u.feed = _)] at hanswered
    · rw [hshows.feed, enterSeek_edge]
      rfl
    · rw [hshows.feed, enterSeek_parked, rewound_feed, hbefore]
    · intro hmode hsome
      rw [Seeks, hset, if_pos hmode] at hseeks
      obtain ⟨cursor, hat⟩ := Option.isSome_iff_exists.mp hsome
      have htag : u.cursorTag? = some { page := cursor.page, copy := cursor.copy, band := 0 } := by
        rw [hcursor, hseek.cursorTag?, State.cursorTag?, rewound_cursor?, ← hx, taken_cursor?, hat]
        simp
      have hnone := hseeks.2 (BandRing.draining_none_of_void (rewound_void page x)) _ htag
      rw [BandRing.oldestReady_none_of_void (rewound_void page x)] at hnone
      exact ⟨hnone.1, hnone.2.2.1.trans htag.symm⟩
    · intro i hlive
      rw [huring] at hlive ⊢
      rw [hcursor]
      exact assignBand_of_void hvoid i hlive
    · intro hidle hfilling tag htag
      have hfree : ∀ i, (enterSeek (rewound page x)).ring.stateOf i = .free := fun i => by
        rw [enterSeek_stateOf_of_void (rewound_void page x), rewound_ring, BandRing.stateOf_void, hring]
        exact BufferState.void_all_of_not_filling (hfilling i)
      have hband : tag.band = 0 := by
        obtain ⟨cursor, hat, rfl⟩ := Option.map_eq_some_iff.mp htag
        obtain ⟨p, -, rfl⟩ := Option.map_eq_some_iff.mp hat
        simp [hline]
      rw [huengine, huring]
      exact ⟨hband, assignBand_of_free (hseekEngine.trans hidle) hfree (hcursor ▸ htag)⟩
    · intro hbusy
      rw [huengine, reprintFrom_eq, assignBand_of_busy (hseekEngine ▸ hbusy), hseekEngine]
    · intro p hp hactive
      have hpage : u.page? page = (reprintFrom page x).page? page := (Shows.of_keeps (hsame.weaken (by decide))).page? page
      rw [hpage]
      exact reprintFrom_page (by rw [← hx, taken_page?, hp]) hactive
    · refine told_of_reporting hsame hnotices (triggered_of_paused ?_)
      rw [hx, hbefore, hpaused, reprintFrom_eq, hassign.feed, enterSeek_not_paused]
      simp [FeedState.paused?]

end Sys2Proof.Machine
end

section
/-! PROOF. The line period (R112), the boundaries of the raster engine (R71, R72, R100 to R102), and the filtered
inputs (R135 to R137). -/

namespace Sys2Proof.Machine

/-! ### LINE_PERIOD_ELAPSED -/

theorem exec_linePeriodElapsed {s : State} (h : s.power = .running) (which : PeriodOf) :
    exec (.linePeriodElapsed which) s = .next (periodElapsed which s) :=
  congrArg Host.Outcome.next (if_pos ((running_iff s).mpr h))

/-- The moment at which a line period that began at `t0` has elapsed, the next of its kind free to start. -/
def periodOver (which : PeriodOf) (t0 : Nat) (s : State) : State :=
  (s.advanceTo (t0 + linePeriod s.settings)).onFeed fun f =>
    match which with
    | .step => { f with stepStarted := none }
    | .burn => { f with burnStarted := none }

theorem periodElapsed_step_starts {s : State} {t0 : Nat} {dir : Direction} (h : s.feed.stepStarted = some t0)
    (hcalled : s.feed.called = some (.step dir)) :
    periodElapsed .step s = startStep dir (periodOver .step t0 s) := by
  simp only [periodElapsed, h, hcalled]
  rfl

theorem periodElapsed_step_waits {s : State} {t0 : Nat} (h : s.feed.stepStarted = some t0)
    (hcalled : ∀ dir, s.feed.called ≠ some (.step dir)) : periodElapsed .step s = periodOver .step t0 s := by
  simp only [periodElapsed, h]
  split
  · exact absurd ‹_› (hcalled _)
  · rfl
  · rfl

theorem periodElapsed_burn_starts {s : State} {t0 : Nat} (h : s.feed.burnStarted = some t0)
    (hcalled : s.feed.called = some .burn) : periodElapsed .burn s = startBurn (periodOver .burn t0 s) := by
  simp only [periodElapsed, h, hcalled]
  rfl

theorem periodElapsed_burn_waits {s : State} {t0 : Nat} (h : s.feed.burnStarted = some t0)
    (hcalled : s.feed.called ≠ some .burn) : periodElapsed .burn s = periodOver .burn t0 s := by
  simp only [periodElapsed, h]
  split
  · exact absurd ‹_› hcalled
  · rfl
  · rfl

theorem periodOver_keeps (which) (t0 : Nat) (s : State) : Keeps [.clock, .feed] s (periodOver which t0 s) := by
  intro p hp; cases p <;> first | rfl | simp at hp

/-- Settles O49: the period's own cases, and what was called for. -/
theorem linePeriodStartsWhatWaits : Obligations.LinePeriodStartsWhatWaits := by
  unfold Obligations.LinePeriodStartsWhatWaits
  intro t0 s hrun now
  refine ⟨fun hnone => ?_, fun hsome => ⟨_, exec_linePeriodElapsed hrun .step, ?_⟩, fun hnone => ?_,
    fun hsome => ⟨_, exec_linePeriodElapsed hrun .burn, ?_⟩⟩
  · rw [exec_linePeriodElapsed hrun, periodElapsed, hnone]
  · by_cases hcalled : ∃ dir, s.feed.called = some (.step dir)
    · obtain ⟨dir, hdir⟩ := hcalled
      rw [periodElapsed_step_starts hsome hdir]
      refine ⟨rfl, (periodOver_keeps .step t0 s).trans ((State.onFeed_keeps _ _).weaken (by decide)),
        fun dir' hdir' => ?_, fun hno => absurd hdir (hno dir)⟩
      obtain rfl : dir = dir' := by simpa [hdir] using hdir'
      rfl
    · have hwaits := not_exists.mp hcalled
      rw [periodElapsed_step_waits hsome hwaits]
      exact ⟨rfl, periodOver_keeps .step t0 s, fun dir hdir => absurd hdir (hwaits dir), fun _ => rfl⟩
  · rw [exec_linePeriodElapsed hrun, periodElapsed, hnone]
  · by_cases hcalled : s.feed.called = some .burn
    · rw [periodElapsed_burn_starts hsome hcalled]
      exact ⟨rfl, (periodOver_keeps .burn t0 s).trans ((State.onFeed_keeps _ _).weaken (by decide)), fun _ => rfl,
        fun hno => absurd hcalled hno⟩
    · rw [periodElapsed_burn_waits hsome hcalled]
      exact ⟨rfl, periodOver_keeps .burn t0 s, fun hyes => absurd hyes hcalled, fun _ => rfl⟩

end Sys2Proof.Machine
end

section
/-! PROOF. The boundaries of the raster engine (R71, R72, R100 to R102): a void render, an object drawn, and a
render completed. -/

namespace Sys2Proof.Machine

/-! ### The next band, by the tags of the non-void buffers -/

/-- The next band is read from the last of the tags of the non-void buffers (R100). -/
theorem State.nextBand?_eq_match (s : State) : s.nextBand? =
    match s.ring.liveTags.getLast? with
    | some t => s.positionAfter? t
    | none => s.cursorTag? := by
  rw [BandRing.liveTags_getLast?]
  unfold State.nextBand?
  cases hlast : s.ring.liveOrder.getLast? with
  | none => rfl
  | some i =>
    obtain ⟨t, ht⟩ := Option.isSome_iff_exists.mp
      (BufferState.tag?_isSome_of_live (List.mem_filter.mp (List.mem_of_getLast? hlast)).2)
    simp [ht]

theorem nextBand?_congr {s t : State} (hcomposer : t.composer = s.composer) (hline : t.feed.line = s.feed.line)
    (htags : t.ring.liveTags = s.ring.liveTags) : t.nextBand? = s.nextBand? := by
  have hpage : t.page? = s.page? := funext fun id => by rw [State.page?, State.page?, hcomposer]
  have hafter (tag : Tag) : t.positionAfter? tag = s.positionAfter? tag := by
    have hfirst : t.firstPosition? = s.firstPosition? := funext fun id => by
      rw [State.firstPosition?, State.firstPosition?, hpage]
    simp only [State.positionAfter?, hfirst, hpage, hcomposer]
  have hcursor : t.cursorTag? = s.cursorTag? := by
    rw [State.cursorTag?, State.cursorTag?, State.cursor?, State.cursor?, State.headPage?, State.headPage?, hpage,
      hcomposer, hline]
  rw [State.nextBand?_eq_match, State.nextBand?_eq_match, htags]
  split
  · exact hafter _
  · exact hcursor

theorem BandRing.liveOrder_freeBuffer (r : BandRing) (i : Fin 4) :
    (r.freeBuffer i).liveOrder = r.liveOrder.filter fun j => j ≠ i := by
  unfold BandRing.liveOrder
  rw [show (r.freeBuffer i).order = r.order.filter fun j => j ≠ i from rfl, List.filter_filter, List.filter_filter]
  refine List.filter_congr fun j _ => ?_
  rw [BandRing.stateOf_freeBuffer]
  by_cases h : i = j
  · simp [h, BufferState.live]
  · simp [h, Ne.symm h]

/-- A void buffer that becomes FREE held no position. -/
theorem BandRing.liveTags_freeBuffer_of_void {r : BandRing} {i : Fin 4} (h : (r.stateOf i).live = false) :
    (r.freeBuffer i).liveTags = r.liveTags := by
  have hne {j : Fin 4} (hj : j ∈ r.liveOrder) : j ≠ i := by
    rintro rfl
    simp [BandRing.liveOrder, h] at hj
  have hsame : (r.freeBuffer i).liveOrder = r.liveOrder := by
    rw [BandRing.liveOrder_freeBuffer]
    exact List.filter_eq_self.mpr fun j hj => by simpa using hne hj
  unfold BandRing.liveTags
  rw [hsame]
  refine List.filterMap_congr fun j hj => ?_
  rw [BandRing.stateOf_freeBuffer, if_neg (Ne.symm (hne hj))]

/-- A buffer that stays non-void and keeps its tag leaves the tags of the ring. -/
theorem BandRing.liveTags_setState {r : BandRing} {i : Fin 4} {st : BufferState}
    (hlive : st.live = (r.stateOf i).live) (htag : st.tag? = (r.stateOf i).tag?) :
    (r.setState i st).liveTags = r.liveTags := by
  have hsame (j : Fin 4) : ((r.setState i st).stateOf j).live = (r.stateOf j).live ∧
      ((r.setState i st).stateOf j).tag? = (r.stateOf j).tag? := by
    rw [BandRing.stateOf_setState]
    split
    next h => exact h ▸ ⟨hlive, htag⟩
    · exact ⟨rfl, rfl⟩
  simp only [BandRing.liveTags, BandRing.liveOrder, BandRing.setState_order, (hsame _).1, (hsame _).2]

/-! ### What a boundary does -/

theorem exec_objectBoundary {s : State} (h : s.power = .running) :
    exec .objectBoundary s = .next (objectBoundary s) :=
  congrArg Host.Outcome.next (if_pos ((running_iff s).mpr h))

/-- The part with the buffer of a void render FREE and the engine IDLE (R72). -/
def voidEnded (r : Render) (s : State) : State := (s.withRing (s.ring.freeBuffer r.buffer)).withEngine none

/-- The part with the buffer of a full render READY, or DRAINING for the request that waits for it (R101, R102). -/
def fullEnded (r : Render) (s : State) : State :=
  grantWaiting r.buffer r.tag ((s.withRing (s.ring.setState r.buffer (.ready r.tag))).withEngine none)

theorem boundaryOf_void {r : Render} {s : State} (h : (s.ring.stateOf r.buffer).isVoid = true) :
    boundaryOf r s = assignBand (voidEnded r s) := if_pos h

theorem boundaryOf_draws {r : Render} {s : State} {p : Page} {o : StoredObject}
    (h : (s.ring.stateOf r.buffer).isVoid = false) (hp : s.page? r.tag.page = some p)
    (ho : (p.bandObjects r.tag.band)[r.progress]? = some o) : boundaryOf r s = drawNext r p o s := by
  have hlist : (s.renderList r)[r.progress]? = some o := by simp only [State.renderList, hp, ho]
  simp only [boundaryOf, h, hp, hlist]
  rfl

theorem boundaryOf_full {r : Render} {s : State} {p : Page} (h : (s.ring.stateOf r.buffer).isVoid = false)
    (hp : s.page? r.tag.page = some p) (hdone : (p.bandObjects r.tag.band).length ≤ r.progress) :
    boundaryOf r s = assignBand (fullEnded r s) := by
  have hlist : (s.renderList r)[r.progress]? = none := by
    simp only [State.renderList, hp]
    exact List.getElem?_eq_none hdone
  simp only [boundaryOf, h, hp, hlist]
  rfl

/-- The ring and the feed of the part once a full render has ended. -/
theorem fullEnded_granted {r : Render} {s : State} (h : s.ring.waiting = some r.tag) :
    (fullEnded r s).ring = { s.ring.setState r.buffer (.draining r.tag) with waiting := none } ∧
      (s.feed.state = .stalled → (fullEnded r s).feed.state = .printing) ∧
      (fullEnded r s).feed.line = s.feed.line := by
  have hset : ((s.ring.setState r.buffer (.ready r.tag)).setState r.buffer (.draining r.tag)) =
      s.ring.setState r.buffer (.draining r.tag) := by
    simp [BandRing.setState, Vector.get_eq_getElem]
  unfold fullEnded grantWaiting
  rw [if_pos (by exact h)]
  dsimp only
  split
  next hstalled =>
    refine ⟨?_, fun _ => by rw [callBurn_state]; rfl, (callBurn_decided _).line⟩
    rw [(callBurn_keeps _) .ring (by decide)]
    exact congrArg (fun x : BandRing => { x with waiting := none }) hset
  next hno => exact ⟨congrArg (fun x : BandRing => { x with waiting := none }) hset, fun hst => absurd hst hno, rfl⟩

theorem fullEnded_ungranted {r : Render} {s : State} (h : s.ring.waiting ≠ some r.tag) :
    fullEnded r s = (s.withRing (s.ring.setState r.buffer (.ready r.tag))).withEngine none := if_neg h

theorem fullEnded_keeps (r : Render) (s : State) : Keeps [.engine, .ring, .feed] s (fullEnded r s) := by
  refine Keeps.trans ?_ ((grantWaiting_keeps _ _ _).weaken (by decide))
  intro p hp; cases p <;> first | rfl | simp at hp

theorem fullEnded_engine (r : Render) (s : State) : (fullEnded r s).engine = none :=
  grantWaiting_keeps _ _ _ .engine (by decide)

/-- What the end of a full render makes of its buffer: READY, or DRAINING for the request that waits for it. -/
def Render.endState (r : Render) (s : State) : BufferState :=
  if s.ring.waiting = some r.tag then .draining r.tag else .ready r.tag

/-- The buffers and their order once a full render has ended. -/
theorem fullEnded_ring (r : Render) (s : State) :
    (fullEnded r s).ring.buffers = (s.ring.setState r.buffer (r.endState s)).buffers ∧
      (fullEnded r s).ring.order = s.ring.order := by
  unfold Render.endState
  by_cases hwaits : s.ring.waiting = some r.tag
  · obtain ⟨hring, -, -⟩ := fullEnded_granted hwaits
    rw [hring, if_pos hwaits]
    exact ⟨rfl, rfl⟩
  · rw [fullEnded_ungranted hwaits, if_neg hwaits]
    exact ⟨rfl, rfl⟩

theorem fullEnded_line (r : Render) (s : State) : (fullEnded r s).feed.line = s.feed.line := by
  by_cases hwaits : s.ring.waiting = some r.tag
  · exact (fullEnded_granted hwaits).2.2
  · rw [fullEnded_ungranted hwaits]
    rfl

theorem fullEnded_stateOf (r : Render) (s : State) (j : Fin 4) :
    (fullEnded r s).ring.stateOf j = if r.buffer = j then r.endState s else s.ring.stateOf j := by
  rw [BandRing.stateOf, (fullEnded_ring r s).1]
  exact BandRing.stateOf_setState ..

theorem BandRing.setState_raster (r : BandRing) (i j : Fin 4) (st : BufferState) :
    ((r.setState i st).buffers.get j).raster = (r.buffers.get j).raster := by
  simp only [BandRing.setState, Vector.get_eq_getElem, Vector.getElem_set]
  split
  next h => simp [h]
  · rfl

theorem Render.endState_live (r : Render) (s : State) :
    (r.endState s).live = true ∧ (r.endState s).tag? = some r.tag := by
  unfold Render.endState
  split <;> exact ⟨rfl, rfl⟩

/-- The next band and the FREE buffers are those before the end of the render (R100). -/
theorem fullEnded_next {r : Render} {s : State} (h : s.ring.stateOf r.buffer = .filling r.tag false) :
    (fullEnded r s).nextBand? = s.nextBand? ∧ (fullEnded r s).ring.lowestFree? = s.ring.lowestFree? := by
  obtain ⟨hlive, htag⟩ := r.endState_live s
  constructor
  · refine nextBand?_congr (fullEnded_keeps r s .composer (by decide)) (fullEnded_line r s) ?_
    calc (fullEnded r s).ring.liveTags = (s.ring.setState r.buffer (r.endState s)).liveTags := by
          obtain ⟨hbuffers, horder⟩ := fullEnded_ring r s
          have hstate (j : Fin 4) : (fullEnded r s).ring.stateOf j =
              (s.ring.setState r.buffer (r.endState s)).stateOf j := by
            rw [BandRing.stateOf, hbuffers]
            rfl
          simp only [BandRing.liveTags, BandRing.liveOrder, hstate, horder, BandRing.setState_order]
      _ = s.ring.liveTags := BandRing.liveTags_setState (by rw [hlive, h]; rfl) (by rw [htag, h]; rfl)
  · unfold BandRing.lowestFree?
    congr 1
    funext j
    rw [fullEnded_stateOf]
    split
    next hj =>
      have hno : r.endState s ≠ .free := by
        intro hfree
        simp [hfree, BufferState.live] at hlive
      rw [← hj, h]
      simp [hno]
    · rfl

theorem drawNext_keeps (r : Render) (p : Page) (o : StoredObject) (s : State) :
    Keeps [.engine, .ring] s (drawNext r p o s) := by
  intro q hq; cases q <;> first | rfl | simp at hq

theorem drawNext_stateOf (r : Render) (p : Page) (o : StoredObject) (s : State) (i : Fin 4) :
    (drawNext r p o s).ring.stateOf i = s.ring.stateOf i := by
  simp only [drawNext, State.withEngine_ring, State.withRing_ring, BandRing.stateOf, Vector.get_eq_getElem,
    Vector.getElem_set]
  split
  next h => simp [h]
  · rfl

theorem drawNext_raster (r : Render) (p : Page) (o : StoredObject) (s : State) :
    ((drawNext r p o s).ring.buffers.get r.buffer).raster =
      drawObject o (s.objectAsset? o) p r.tag (s.ring.buffers.get r.buffer).raster := by
  simp [drawNext, Vector.get_eq_getElem]

theorem drawNext_raster_ne (r : Render) (p : Page) (o : StoredObject) (s : State) {i : Fin 4} (h : i ≠ r.buffer) :
    ((drawNext r p o s).ring.buffers.get i).raster = (s.ring.buffers.get i).raster := by
  simp [drawNext, Vector.get_eq_getElem, (Fin.val_ne_of_ne h).symm]

/-- What an assignment does where it finds the engine IDLE, a FREE buffer and a next band (R100). -/
theorem Assigned.taken {s t : State} (h : Assigned s t) (hidle : s.engine = none) {i : Fin 4} {next : Tag}
    (hfree : s.ring.lowestFree? = some i) (hnext : s.nextBand? = some next) :
    t.engine = some { buffer := i, tag := next, progress := 0 } ∧ t.ring.order = s.ring.order ++ [i] ∧
      (t.ring.buffers.get i).raster = Raster.white ∧
      (∀ j, t.ring.stateOf j = if j = i then .filling next false else s.ring.stateOf j) ∧
      ∀ j, j ≠ i → (t.ring.buffers.get j).raster = (s.ring.buffers.get j).raster := by
  rw [Assigned, hidle, hfree, hnext] at h
  obtain ⟨hengine, horder, -, hwhite, hstates, hrasters⟩ := h
  exact ⟨hengine, horder, hwhite, hstates, hrasters⟩

/-- Without a FREE buffer or a next band nothing is assigned (R100). -/
theorem Assigned.stays {s t : State} (h : Assigned s t) (hno : s.ring.lowestFree? = none ∨ s.nextBand? = none) :
    t.engine = s.engine ∧ t.ring = s.ring := by
  unfold Assigned at h
  split at h
  next hfree hnext => simp [hfree, hnext] at hno
  · exact h

theorem Assigned.waiting {s t : State} (h : Assigned s t) : t.ring.waiting = s.ring.waiting := by
  unfold Assigned at h
  split at h
  · exact h.2.2.1
  · rw [h.2]

/-- An assignment leaves a buffer that is not FREE. -/
theorem Assigned.of_not_free {s t : State} (h : Assigned s t) {j : Fin 4} (hj : s.ring.stateOf j ≠ .free) :
    t.ring.stateOf j = s.ring.stateOf j ∧ (t.ring.buffers.get j).raster = (s.ring.buffers.get j).raster := by
  unfold Assigned at h
  split at h
  next i next hidle hfree hnext =>
    obtain ⟨-, -, -, -, hstates, hrasters⟩ := h
    have hne : j ≠ i := by
      rintro rfl
      exact hj (BandRing.lowestFree_free hfree)
    exact ⟨(hstates j).trans (if_neg hne), hrasters j hne⟩
  · rw [h.2]
    exact ⟨rfl, rfl⟩

/-- A buffer after an assignment is as it was, or the engine's. -/
theorem Assigned.same_or_rendered {s t : State} (h : Assigned s t) (j : Fin 4) :
    t.ring.stateOf j = s.ring.stateOf j ∨ t.engine.map Render.buffer = some j := by
  unfold Assigned at h
  split at h
  next i next hidle hfree hnext =>
    obtain ⟨hengine, -, -, -, hstates, -⟩ := h
    by_cases hj : j = i
    · exact .inr (by rw [hengine, hj]; rfl)
    · exact .inl ((hstates j).trans (if_neg hj))
  · exact .inl (by rw [h.2])

/-- Settles O53: the void render, the object that remains, and the end of the list. -/
theorem objectBoundaryDrawsOrCompletes : Obligations.ObjectBoundaryDrawsOrCompletes := by
  unfold Obligations.ObjectBoundaryDrawsOrCompletes
  intro s hrun
  refine ⟨fun hidle => by rw [exec_objectBoundary hrun, objectBoundary, hidle], fun r hr =>
    ⟨boundaryOf r s, by rw [exec_objectBoundary hrun, objectBoundary, hr], fun tag hvoid => ?_,
      fun p o hvoid hp ho => ?_, fun p hvoid hp hdone => ?_⟩⟩
  · have hdead : (s.ring.stateOf r.buffer).live = false := by rw [hvoid]; rfl
    have hstate (j : Fin 4) : (voidEnded r s).ring.stateOf j =
        if r.buffer = j then .free else s.ring.stateOf j := BandRing.stateOf_freeBuffer ..
    have hnext : (voidEnded r s).nextBand? = s.nextBand? :=
      nextBand?_congr rfl rfl (BandRing.liveTags_freeBuffer_of_void hdead)
    rw [boundaryOf_void (by rw [hvoid]; rfl)]
    have hkeeps : Keeps [.engine, .ring] s (assignBand (voidEnded r s)) := by
      refine Keeps.trans (t := voidEnded r s) ?_ ((assignBand_keeps _).weaken (by decide))
      intro q hq; cases q <;> first | rfl | simp at hq
    have hassigned := assignBand_assigned (voidEnded r s)
    have hlowest : (voidEnded r s).ring.lowestFree? =
        [0, 1, 2, 3].find? fun j => decide (j = r.buffer ∨ s.ring.stateOf j = .free) := by
      unfold BandRing.lowestFree?
      congr 1
      funext j
      rw [hstate]
      by_cases hj : r.buffer = j
      · simp [hj]
      · simp [hj, Ne.symm hj]
    refine ⟨fun i hlive => ?_, ?_, fun i hi => ⟨fun next hband => ?_, fun hband => ?_⟩, hassigned.waiting, hkeeps⟩
    · refine (hassigned.same_or_rendered i).imp_left fun hsame => ?_
      rw [hsame, hstate] at hlive ⊢
      split
      next hi => rw [if_pos hi] at hlive; cases hlive
      · rfl
    · exact (hassigned.same_or_rendered r.buffer).imp_left fun hsame => by rw [hsame, hstate, if_pos rfl]
    · obtain ⟨hengine, horder, hwhite, hstates, -⟩ :=
        hassigned.taken rfl (hlowest.trans hi) (hnext.trans hband)
      exact ⟨hengine, horder, hwhite, fun j => by rw [hstates, hstate]; simp only [eq_comm]⟩
    · obtain ⟨hengine, hring⟩ := hassigned.stays (.inr (hnext.trans hband))
      exact ⟨hengine, by rw [hring]; rfl, fun j => by rw [hring, hstate]; simp only [eq_comm]⟩
  · rw [boundaryOf_draws hvoid hp ho]
    exact ⟨rfl, rfl, rfl, drawNext_stateOf r p o s, drawNext_raster r p o s,
      fun i hi => drawNext_raster_ne r p o s hi, drawNext_keeps r p o s⟩
  · rw [boundaryOf_full hvoid hp hdone]
    have hassigned := assignBand_assigned (fullEnded r s)
    have hkept := assignBand_keeps (fullEnded r s)
    have hfeed : (assignBand (fullEnded r s)).feed = (fullEnded r s).feed := hkept .feed (by decide)
    have hended : (fullEnded r s).ring.stateOf r.buffer = r.endState s := by rw [fullEnded_stateOf, if_pos rfl]
    have hbusy : (fullEnded r s).ring.stateOf r.buffer ≠ .free := by
      intro hfree
      have hlive := (r.endState_live s).1
      simp [← hended, hfree, BufferState.live] at hlive
    have hstays := hassigned.of_not_free hbusy
    refine ⟨hstays.1.trans hended, hstays.2.trans ?_, fun hwaits hstalled => ?_, fun hno => ?_, fun hfilling => ?_,
      (fullEnded_keeps r s).trans (hkept.weaken (by decide))⟩
    · rw [(fullEnded_ring r s).1]
      exact BandRing.setState_raster ..
    · obtain ⟨hring, hprints, -⟩ := fullEnded_granted hwaits
      exact ⟨by rw [hfeed, hprints hstalled], hassigned.waiting.trans (by rw [hring])⟩
    · exact ⟨by rw [hfeed, fullEnded_ungranted hno]; rfl,
        hassigned.waiting.trans (by rw [fullEnded_ungranted hno]; rfl)⟩
    · obtain ⟨hnext, hlowest⟩ := fullEnded_next hfilling
      refine ⟨fun i next hi hband => ?_, fun hno => ?_⟩
      · obtain ⟨hengine, horder, hwhite, hstates, -⟩ :=
          hassigned.taken (fullEnded_engine r s) (hlowest.trans hi) (hnext.trans hband)
        refine ⟨hengine, (hstates i).trans (if_pos rfl), hwhite, by rw [horder, (fullEnded_ring r s).2],
          fun j hj hjr => ?_⟩
        rw [hstates, if_neg hj, fullEnded_stateOf, if_neg (Ne.symm hjr)]
      · obtain ⟨hengine, hring⟩ := hassigned.stays (hno.imp hlowest.trans hnext.trans)
        refine ⟨hengine.trans (fullEnded_engine r s), by rw [hring, (fullEnded_ring r s).2], fun j hj => ?_⟩
        rw [hring, fullEnded_stateOf, if_neg (Ne.symm hj)]

end Sys2Proof.Machine
end

section
/-! PROOF. What the feed does at a line boundary (R112), case by case, and the filtered inputs and the condition
set (R135 to R137, R143). -/

namespace Sys2Proof.Machine

/-! ### What a boundary leaves alone -/

/-- What an act at a boundary leaves alone: of the feed its line, its hold flag and what is pending, of the
composer all but what it reports of the pages it works on, and of the link all but slots, replies and cache. -/
structure Acted (s t : State) : Prop where
  keeps : Keeps (.link :: feedParts) s t
  aside : LinkAside s t
  line : t.feed.line = s.feed.line
  hold : t.feed.hold = s.feed.hold
  pending : t.feed.pending = s.feed.pending
  composer : t.composer = { s.composer with pages := t.composer.pages }
  pages : ∃ g : Page → Page, (∀ p : Page, p.Worked (g p)) ∧ t.composer.pages = s.composer.pages.map g

theorem LinkAside.of_link {s t : State} (h : t.link = s.link) : LinkAside s t := by
  rw [LinkAside, h]
  exact ⟨rfl, rfl, rfl, rfl, rfl⟩

theorem Decided.acted {s t : State} (h : Decided s t) : Acted s t :=
  ⟨h.keeps.weaken (by decide), .of_link (h.keeps .link (by decide)), h.line, h.hold, h.pending, h.composer, h.pages⟩

namespace Acted

theorem trans {s t u : State} (h : Acted s t) (h' : Acted t u) : Acted s u := by
  obtain ⟨g, hg, hpages⟩ := h.pages
  obtain ⟨g', hg', hpages'⟩ := h'.pages
  refine ⟨h.keeps.trans h'.keeps, h.aside.trans h'.aside, h'.line.trans h.line, h'.hold.trans h.hold,
    h'.pending.trans h.pending, ?_, g' ∘ g, fun p => (hg p).trans (hg' (g p)), ?_⟩
  · rw [h'.composer, h.composer]
  · rw [hpages', hpages, List.map_map]

theorem of_feed {s : State} {f : Feed → Feed} (hline : (f s.feed).line = s.feed.line)
    (hhold : (f s.feed).hold = s.feed.hold) (hpending : (f s.feed).pending = s.feed.pending) :
    Acted s (s.onFeed f) :=
  ⟨(State.onFeed_keeps s f).weaken (by decide), .of_link rfl, hline, hhold, hpending, rfl, id, Page.Worked.refl,
    (List.map_id _).symm⟩

/-- A page looked up after a boundary. -/
theorem page? {s t : State} (h : Acted s t) :
    ∃ g : Page → Page, (∀ p : Page, p.Worked (g p)) ∧ ∀ id, t.page? id = (s.page? id).map g := by
  obtain ⟨g, hg, hpages⟩ := h.pages
  have hid (p : Page) : (g p).id = p.id := by rw [(hg p).record]
  refine ⟨g, hg, fun id => ?_⟩
  rw [State.page?, hpages, List.find?_map]
  simp only [Function.comp_def, hid]
  rfl

end Acted

theorem completeReply_acted (key kind status results) (s : State) :
    Acted s (completeReply key kind status results s) :=
  ⟨(completeReply_keeps key kind status results s).weaken (by decide), ⟨rfl, rfl, rfl, rfl, rfl⟩, rfl, rfl, rfl, rfl, id,
    Page.Worked.refl, (List.map_id _).symm⟩

theorem endFeed_acted (key status moved) (s : State) : Acted s (endFeed key status moved s) :=
  (completeReply_acted _ _ _ _ s).trans (enterIdle_decided _).acted

theorem endCalibrate_acted (key status moved) (s : State) : Acted s (endCalibrate key status moved s) :=
  (completeReply_acted _ _ _ _ s).trans (enterIdle_decided _).acted

/-- A reset at a boundary, whatever the state: the reply of a host motion, nothing parked for scope ALL, and the
start decision. -/
theorem stopForReset_acted (scope) (s : State) : Acted s (stopForReset scope s) := by
  have hcleared : Acted s (if scope = .all then s.onFeed fun f => { f with parked := 0 } else s) := by
    split
    · exact .of_feed rfl rfl rfl
    · exact (Decided.refl s).acted
  unfold stopForReset
  dsimp only
  generalize (if scope = .all then s.onFeed fun f => { f with parked := 0 } else s) = cleared at hcleared ⊢
  refine hcleared.trans ?_
  split
  · exact endFeed_acted _ _ _ _
  · exact endCalibrate_acted _ _ _ _
  all_goals exact (enterIdle_decided _).acted

theorem boundaryBackfeed_decided (p) (s : State) : Decided s (boundaryBackfeed p s) := by
  unfold boundaryBackfeed
  split
  · exact startOrIdle_decided s
  · split
    · exact pauseBackfeed_decided _ _ _
    · split
      · exact enterSeek_decided _
      · exact callStep_decided _ _

theorem boundarySearch_decided (p e c l) (s : State) : Decided s (boundarySearch p e c l s) := by
  unfold boundarySearch
  split
  · exact startOrIdle_decided s
  · split
    · exact pauseSeek_decided _ _
    · split
      · exact enterOffset_decided _
      · split
        · exact pauseSeek_decided _ _
        · exact callStep_decided _ _

theorem boundaryOffset_decided (p r) (s : State) : Decided s (boundaryOffset p r s) := by
  unfold boundaryOffset
  split
  · exact startOrIdle_decided s
  · split
    · exact pauseSeek_decided _ _
    · split
      · exact printLine_decided _
      · exact callStep_decided _ _

theorem boundaryPrinting_decided (p e d) (s : State) : Decided s (boundaryPrinting p e d s) := by
  unfold boundaryPrinting
  split
  · split
    · exact pauseTrail_decided _ _ _ _
    · exact enterTrailing_decided s
  · split
    · exact endOfCopyDecision_decided _ _ _
    · split
      · exact pausePrint_decided _ _ _
      · exact printLine_decided _

theorem boundaryTrailing_decided (p r) (s : State) : Decided s (boundaryTrailing p r s) := by
  unfold boundaryTrailing
  split
  · exact pauseTrail_decided _ _ _ _
  · split
    · exact enterIdle_decided s
    · exact callStep_decided _ _

theorem boundaryMoving_acted (p key n done) (s : State) : Acted s (boundaryMoving p key n done s) := by
  unfold boundaryMoving
  split
  · exact endFeed_acted _ _ _ _
  · split
    · exact endFeed_acted _ _ _ _
    · exact (callStep_decided _ _).acted

theorem boundaryCalibrating_acted (p e key l c m found) (s : State) :
    Acted s (boundaryCalibrating p e key l c m found s) := by
  unfold boundaryCalibrating
  split
  · exact endCalibrate_acted _ _ _ _
  · split
    · exact (Acted.of_feed rfl rfl rfl).trans (endCalibrate_acted _ _ _ _)
    · split
      · exact ((State.enter_decided s _).trans (callStep_decided _ _)).acted
      · split
        · exact endCalibrate_acted _ _ _ _
        · exact (callStep_decided _ _).acted

/-- Every boundary, with the pending stops spent. -/
theorem atBoundary_acted (e d) (s : State) : Acted (spent s) (atBoundary e d s) := by
  unfold atBoundary
  dsimp only
  split
  · exact stopForReset_acted _ _
  · split
    · exact (Decided.refl _).acted
    · exact (boundaryBackfeed_decided _ _).acted
    · exact (boundarySearch_decided _ _ _ _ _).acted
    · exact (boundaryOffset_decided _ _ _).acted
    · exact (boundaryPrinting_decided _ _ _ _).acted
    · exact (Decided.refl _).acted
    · exact (boundaryTrailing_decided _ _ _).acted
    · exact boundaryMoving_acted _ _ _ _ _
    · exact boundaryCalibrating_acted _ _ _ _ _ _ _ _
    · exact (Decided.refl _).acted

theorem spent_feed (s : State) :
    (spent s).feed = { s.feed with pending := PendingStops.none, called := none } := rfl

theorem spent_ring (s : State) : (spent s).ring = s.ring := rfl

theorem spent_keeps (s : State) : Keeps [.feed] s (spent s) := State.onFeed_keeps s _

theorem atBoundary_keeps (e d) (s : State) : Keeps (.link :: feedParts) s (atBoundary e d s) :=
  ((spent_keeps s).weaken (by decide)).trans (atBoundary_acted e d s).keeps

theorem atBoundary_pending (e d) (s : State) : (atBoundary e d s).feed.pending = PendingStops.none :=
  (atBoundary_acted e d s).pending

/-! ### The boundary of each feed state -/

section boundaries

variable {s : State} (e d : Bool)

theorem atBoundary_reset {scope : ResetScope} (h : s.feed.pending.reset = some scope) :
    atBoundary e d s = stopForReset scope (spent s) := by
  simp only [atBoundary, h]
  rfl

theorem atBoundary_backfeed (hreset : s.feed.pending.reset = none) (h : s.feed.state = .backfeed) :
    atBoundary e d s = boundaryBackfeed s.feed.pending (spent s) := by
  simp only [atBoundary, hreset, h]
  rfl

theorem atBoundary_search (hreset : s.feed.pending.reset = none) {count limit : Nat}
    (h : s.feed.state = .seekSearch count limit) :
    atBoundary e d s = boundarySearch s.feed.pending e count limit (spent s) := by
  simp only [atBoundary, hreset, h]
  rfl

theorem atBoundary_offset (hreset : s.feed.pending.reset = none) {remaining : Nat}
    (h : s.feed.state = .seekOffset remaining) :
    atBoundary e d s = boundaryOffset s.feed.pending remaining (spent s) := by
  simp only [atBoundary, hreset, h]
  rfl

theorem atBoundary_printing (hreset : s.feed.pending.reset = none) (h : s.feed.state = .printing) :
    atBoundary e d s = boundaryPrinting s.feed.pending e d (spent s) := by
  simp only [atBoundary, hreset, h]
  rfl

theorem atBoundary_trailing (hreset : s.feed.pending.reset = none) {remaining : Nat}
    (h : s.feed.state = .trailing remaining) :
    atBoundary e d s = boundaryTrailing s.feed.pending remaining (spent s) := by
  simp only [atBoundary, hreset, h]
  rfl

theorem atBoundary_moving (hreset : s.feed.pending.reset = none) {key : RequestKey} {n done : Nat}
    (h : s.feed.state = .moving key n done) :
    atBoundary e d s = boundaryMoving s.feed.pending key n done (spent s) := by
  simp only [atBoundary, hreset, h]
  rfl

theorem atBoundary_calibrating (hreset : s.feed.pending.reset = none) {key : RequestKey} {limit count moved : Nat}
    {found : Bool} (h : s.feed.state = .calibrating key limit count moved found) :
    atBoundary e d s = boundaryCalibrating s.feed.pending e key limit count moved found (spent s) := by
  simp only [atBoundary, hreset, h]
  rfl

end boundaries

theorem PendingStops.of_not_any {p : PendingStops} (h : p.any = false) :
    p = .none := by
  simp only [PendingStops.any, Bool.or_eq_false_iff, Option.isSome_eq_false_iff, Option.isNone_iff_eq_none] at h
  obtain ⟨⟨⟨hreset, hcancel⟩, hstop⟩, hcondition⟩ := h
  obtain ⟨reset, cancel, stop, condition⟩ := p
  simp_all [PendingStops.none]

end Sys2Proof.Machine
end

section
/-! PROOF. The filtered inputs and the condition set (R135 to R137, R143). -/

namespace Sys2Proof.Machine

/-! ### A pause changes the feed alone -/

theorem pause_keeps_feed (c x) (s : State) : Keeps [.feed] s (pause c x s) := State.onFeed_keeps s _

theorem keepParked_keeps_feed (valid) (s : State) : Keeps [.feed] s (keepParked valid s) := by
  unfold keepParked
  split
  · exact Keeps.refl _ _
  · exact State.onFeed_keeps s _

theorem pauseSeek_keeps_feed (c) (s : State) : Keeps [.feed] s (pauseSeek c s) := by
  unfold pauseSeek
  split <;> exact pause_keeps_feed _ _ s

theorem pausePrint_keeps_feed (j c) (s : State) : Keeps [.feed] s (pausePrint j c s) := by
  unfold pausePrint
  split <;> exact pause_keeps_feed _ _ s

theorem pauseBackfeed_keeps_feed (j c) (s : State) : Keeps [.feed] s (pauseBackfeed j c s) := by
  unfold pauseBackfeed
  split
  · exact pauseSeek_keeps_feed _ s
  · exact (pause_keeps_feed _ _ s).trans (keepParked_keeps_feed _ _)

theorem pauseTrail_keeps_feed (j c r) (s : State) : Keeps [.feed] s (pauseTrail j c r s) :=
  (pause_keeps_feed _ _ s).trans (keepParked_keeps_feed _ _)

/-- With a condition in the set a start asks the ring for nothing (R115). -/
theorem start_ring_of_cause {s : State} {cause : PauseCause} (h : s.conditions.cause? = some cause) :
    (start s).ring = s.ring := by
  simp only [start, (beginHead_decided s).conditions, h]
  exact (pauseBackfeed_keeps_feed _ _ _ .ring (by decide)).trans (beginHead_ring s)

theorem enterIdle_ring_of_cause {s : State} {cause : PauseCause} (h : s.conditions.cause? = some cause) :
    (enterIdle s).ring = s.ring := by
  rw [enterIdle_eq]
  split
  · exact start_ring_of_cause h
  · rfl

/-! ### The inputs -/

theorem exec_sensorInputChange {s : State} (h : s.power = .running) (input good) :
    exec (.sensorInputChange input good) s = .next (inputChange input good s) :=
  congrArg Host.Outcome.next (if_pos ((running_iff s).mpr h))

theorem exec_conditionJoins {s : State} (h : s.power = .running) (c) :
    exec (.conditionJoins c) s = .next (conditionJoins c s) :=
  congrArg Host.Outcome.next (if_pos ((running_iff s).mpr h))

theorem exec_conditionLeaves {s : State} (h : s.power = .running) (c) :
    exec (.conditionLeaves c) s = .next (conditionLeaves c s) :=
  congrArg Host.Outcome.next (if_pos ((running_iff s).mpr h))

theorem Sensors.filter_setFilter (x : Sensors) (input other : SensorInput) (f : InputFilter) :
    (x.setFilter input f).filter other = if other = input then f else x.filter other := by
  cases input <;> cases other <;> rfl

/-- The part at the moment the filter of a condition's input has run out (R135). -/
def settled (c : Condition) (good : Bool) (since : Nat) (s : State) : State :=
  settle (inputOf c) good (since + Config.filterMicros) s

theorem settled_keeps (c good since) (s : State) : Keeps [.clock, .sensors] s (settled c good since s) := by
  intro p hp; cases p <;> first | rfl | simp at hp

theorem settled_clock (c good since) (s : State) : (settled c good since s).clock = max s.clock (since + 10000) := rfl

theorem settled_filter (c good since) (s : State) : (settled c good since s).sensors.filter (inputOf c) =
    { raw := good, filtered := good, since := none } :=
  (Sensors.filter_setFilter ..).trans (if_pos rfl)

theorem settled_conditions (c good since) (s : State) : (settled c good since s).conditions =
    (match c with
    | .coverOpen => { s.conditions with coverOpen := !good }
    | .mediaOut => { s.conditions with mediaOut := !good }) := by
  cases c <;> rfl

/-- The set changes when the filtered level of an input does. -/
theorem settled_changes {c : Condition} {good : Bool} {since : Nat} {s : State}
    (h : (s.sensors.filter (inputOf c)).filtered = !good) : s.conditions ≠ (settled c good since s).conditions := by
  rw [settled_conditions]
  cases c <;> cases good <;> intro heq <;> simp_all [State.conditions, inputOf, Sensors.filter]

theorem conditionJoins_eq {c : Condition} {since : Nat} {s : State}
    (h : s.sensors.filter (inputOf c) = { raw := false, filtered := true, since := some since }) :
    conditionJoins c s = finish s (conditionActs c (settled c false since s)) := by
  simp only [conditionJoins, InputFilter.expiry?, h]
  rfl

theorem conditionLeaves_eq {c : Condition} {since : Nat} {s : State}
    (h : s.sensors.filter (inputOf c) = { raw := true, filtered := false, since := some since }) :
    conditionLeaves c s = finish s (settled c true since s) := by
  simp only [conditionLeaves, InputFilter.expiry?, h]
  rfl

/-! ### What a condition does -/

theorem actIfStanding_keeps (s : State) : Keeps (.link :: feedParts) s (actIfStanding s) := by
  unfold actIfStanding
  split
  · exact atBoundary_keeps _ _ s
  · exact Keeps.refl _ _

theorem recordCondition_keeps (motion c) (s : State) : Keeps (.link :: feedParts) s (recordCondition motion c s) :=
  ((State.onFeed_keeps s _).weaken (by decide)).trans (actIfStanding_keeps _)

theorem conditionActs_keeps (c) (s : State) : Keeps (.link :: feedParts) s (conditionActs c s) := by
  unfold conditionActs
  split
  case _ => exact Keeps.refl _ _
  case _ => exact recordCondition_keeps _ _ s
  case _ => exact recordCondition_keeps _ _ s
  case _ => exact recordCondition_keeps _ _ s
  case _ => exact recordCondition_keeps _ _ s
  case _ => exact recordCondition_keeps _ _ s
  case _ => exact ((State.withRing_keeps s _).weaken (by decide)).trans ((pausePrint_keeps_feed _ _ _).weaken (by decide))
  case _ => exact recordCondition_keeps _ _ s
  case _ => exact recordCondition_keeps _ _ s
  case _ =>
    split
    · exact (State.onFeed_keeps s _).weaken (by decide)
    · exact Keeps.refl _ _

/-- The part with a condition pending (R137, R128). -/
def conditionPending (c : Condition) (s : State) : State :=
  s.onFeed fun f => { f with pending := f.pending.addCondition f.state.motionKey?.isSome c }

/-- In motion a condition is pending, and a feed that stands acts on it at once (R112, R136). -/
theorem conditionActs_moving {s : State} (h : s.feed.state.moves = true) (c) :
    conditionActs c s = actIfStanding (conditionPending c s) := by
  cases hstate : s.feed.state <;> simp [hstate, FeedState.moves] at h <;>
    simp only [conditionActs, conditionPending, recordCondition, hstate] <;>
    simp only [State.onFeed, hstate, FeedState.motionKey?, Option.isSome_some, Option.isSome_none]

theorem conditionPending_standing (c) (s : State) : (conditionPending c s).feed.standing = s.feed.standing := rfl

theorem actIfStanding_of_not_standing {s : State} (h : s.feed.standing = false) : actIfStanding s = s := by
  simp [actIfStanding, h]

theorem actIfStanding_of_standing {s : State} (h : s.feed.standing = true) (hpending : s.feed.pending.any = true) :
    actIfStanding s = atBoundary false false s := by
  simp [actIfStanding, h, hpending]

theorem PendingStops.addCondition_first {p : PendingStops} {first : PendingCondition} (h : p.condition = some first)
    (motion : Bool) (c : Condition) : p.addCondition motion c =
      { p with condition := some { first with mediaOutJoined := first.mediaOutJoined || decide (c = .mediaOut) } } := by
  simp [PendingStops.addCondition, h]

theorem PendingStops.addCondition_none (motion : Bool) (c : Condition) :
    PendingStops.none.addCondition motion c =
      { PendingStops.none with condition := some { cause := c, mediaOutJoined := false } } := by
  simp [PendingStops.addCondition, PendingStops.none]

/-- A position read with the condition in the set (R143). -/
theorem positionValid_of_joined {s : State} {c : Condition} (h : c = .mediaOut → s.conditions.mediaOut = true) :
    positionValid false (causeOf c) s = !s.conditions.mediaOut := by
  cases c
  · simp [positionValid, causeOf]
  · simp [positionValid, h rfl]

/-- A host motion that pending stops end at a boundary, in the state after the event (R127, R129); `b` is the state
before the event. -/
theorem motionEnded_of_boundary {b s u : State} {key : RequestKey} {status : Status}
    (hreset : s.feed.pending.reset = none) (hend : s.feed.pending.motionEnd? = some status)
    (hmotion : s.feed.state.motionKey? = some key) (e d : Bool) (hring : s.ring = b.ring)
    (hlink : s.link.cache = b.link.cache) (h : Shows (atBoundary e d s) u)
    (hcache : u.link.cache = (atBoundary e d s).link.cache) (htold : Tells u) :
    MotionEnded status s.feed.state s.feed b u ∧ u.feed.pitch = s.feed.pitch ∧
      ∃ results, MotionAnswered key status results b u := by
  obtain ⟨kind, hboundary⟩ := atBoundary_of_motionEnd hreset hend hmotion e d
  rw [hboundary] at h hcache
  obtain ⟨hrests, hstarts, hanswered⟩ := motion_ends h hcache htold
  have hstarts : StartsOrIdles s.feed b.ring u := by
    rw [← hring]
    exact hstarts
  have hpitch : u.feed.pitch = s.feed.pitch := by
    rw [h.feed, enterIdle_pitch]
    rfl
  have hanswered : MotionAnswered key status (s.feed.state.motionResults u.feed.pitch) b u := by
    unfold MotionAnswered
    rw [← hlink, hpitch]
    exact hanswered
  refine ⟨⟨hrests, hstarts, ?_⟩, hpitch, _, hanswered⟩
  cases hstate : s.feed.state with
  | moving key' n done =>
    obtain rfl : key' = key := by simpa [hstate, FeedState.motionKey?] using hmotion
    rw [hstate] at hanswered
    exact hanswered
  | calibrating key' limit count moved found =>
    obtain rfl : key' = key := by simpa [hstate, FeedState.motionKey?] using hmotion
    rw [hstate] at hanswered
    exact hanswered
  | idle | backfeed | seekSearch | seekOffset | printing | stalled | trailing | paused => trivial

/-- A condition that joins in motion while the feed stands and nothing else is pending: the boundary that follows
(R112, R136). -/
theorem boundary_of_condition {c : Condition} {s : State} (hpending : s.feed.pending = .none)
    (hmoves : s.feed.state.moves = true) (hstanding : s.feed.standing = true) :
    conditionActs c s = atBoundary false false (conditionPending c s) ∧
      (conditionPending c s).feed.pending =
        { PendingStops.none with condition := some { cause := c, mediaOutJoined := false } } := by
  have hrecorded : (conditionPending c s).feed.pending =
      { PendingStops.none with condition := some { cause := c, mediaOutJoined := false } } := by
    rw [← PendingStops.addCondition_none s.feed.state.motionKey?.isSome, ← hpending]
    rfl
  refine ⟨?_, hrecorded⟩
  rw [conditionActs_moving hmoves, actIfStanding_of_standing (s := conditionPending c s) hstanding (by rw [hrecorded]; rfl)]

theorem ring_of_condition_boundary {c : Condition} {s : State} {p : PendingStops} {cause : PauseCause}
    (hp : s.feed.pending = p)
    (hpending : p = { PendingStops.none with condition := some { cause := c, mediaOutJoined := false } })
    (hcause : s.conditions.cause? = some cause) : (atBoundary false false s).ring = s.ring := by
  have hreset : s.feed.pending.reset = none := by rw [hp, hpending]; rfl
  cases hstate : s.feed.state with
  | idle | stalled | paused => simp only [atBoundary, hreset, hstate]; rfl
  | backfeed =>
    rw [atBoundary_backfeed _ _ hreset hstate, hp, hpending]
    exact pauseBackfeed_keeps_feed _ _ _ .ring (by decide)
  | seekSearch =>
    rw [atBoundary_search _ _ hreset hstate, hp, hpending]
    exact pauseSeek_keeps_feed _ _ .ring (by decide)
  | seekOffset =>
    rw [atBoundary_offset _ _ hreset hstate, hp, hpending]
    exact pauseSeek_keeps_feed _ _ .ring (by decide)
  | printing =>
    rw [atBoundary_printing _ _ hreset hstate, hp, hpending]
    exact pausePrint_keeps_feed _ _ _ .ring (by decide)
  | trailing =>
    rw [atBoundary_trailing _ _ hreset hstate, hp, hpending]
    exact pauseTrail_keeps_feed _ _ _ _ .ring (by decide)
  | moving | calibrating =>
    obtain ⟨kind, hboundary⟩ := atBoundary_of_motionEnd (status := faultedWith c) hreset (by rw [hp, hpending]; rfl)
      (by rw [hstate]; rfl) false false
    rw [hboundary]
    exact enterIdle_ring_of_cause (s := completeReply _ _ _ _ _) hcause

/-- What a feed that stands does with a condition that joins in motion, by its state (R127, R129, R136, R140 to
R142): `j` is the part in whose set the condition is, `b` the part before the event. -/
theorem condition_acts {c : Condition} {b j u : State} (hpending : j.feed.pending = .none)
    (hmoves : j.feed.state.moves = true) (hstanding : j.feed.standing = true)
    (hout : c = .mediaOut → j.conditions.mediaOut = true) (hring : j.ring = b.ring) (hlink : j.link.cache = b.link.cache)
    (h : Shows (conditionActs c j) u) (hcache : u.link.cache = (conditionActs c j).link.cache) (htold : Tells u) :
    match (generalizing := false) j.feed.state with
    | .moving key _ _ | .calibrating key _ _ _ _ =>
      u.feed.state.motionKey? = none ∧ MotionEnded (faultedWith c) j.feed.state j.feed b u ∧
        ∃ results, MotionAnswered key (faultedWith c) results b u
    | .trailing remaining =>
      u.feed.state = .paused (causeOf c) (.trail remaining (!j.conditions.mediaOut)) ∧
        u.feed.parked = if j.conditions.mediaOut then 0 else j.feed.parked
    | .backfeed =>
      0 < j.feed.parked →
        u.feed.state = .paused (causeOf c) (.backfeed j.feed.parked (!j.conditions.mediaOut)) ∧
          u.feed.parked = if j.conditions.mediaOut then 0 else j.feed.parked
    | .printing => ∀ cursor ∈ j.cursor?,
      u.feed.state = .paused (causeOf c) (.print cursor.page cursor.copy cursor.line (!j.conditions.mediaOut))
    | _ => ∀ cursor ∈ j.cursor?, u.feed.state = .paused (causeOf c) (.seek cursor.page cursor.copy) := by
  obtain ⟨hacts, hcondition⟩ := boundary_of_condition hpending hmoves hstanding
  have hreset : (conditionPending c j).feed.pending.reset = none := by rw [hcondition]; rfl
  have hvalid (t : State) (ht : t.conditions = j.conditions) :
      positionValid false (causeOf c) t = !j.conditions.mediaOut := by
    rw [← ht]
    exact positionValid_of_joined fun hc => by rw [ht]; exact hout hc
  have hmotion (key : RequestKey) (hkey : j.feed.state.motionKey? = some key) :
      u.feed.state.motionKey? = none ∧ MotionEnded (faultedWith c) j.feed.state j.feed b u ∧
        ∃ results, MotionAnswered key (faultedWith c) results b u := by
    rw [hacts] at h hcache
    obtain ⟨hended, -, hanswered⟩ := motionEnded_of_boundary (b := b) (status := faultedWith c) hreset
      (by rw [hcondition]; rfl) hkey false false hring hlink h hcache htold
    exact ⟨hended.1, hended, hanswered⟩
  rw [hacts] at h
  cases hstate : j.feed.state with
  | idle | stalled | paused => simp [hstate, FeedState.moves] at hmoves
  | moving key n done =>
    rw [hstate] at hmotion
    exact hmotion key rfl
  | calibrating key limit count moved found =>
    rw [hstate] at hmotion
    exact hmotion key rfl
  | trailing remaining =>
    rw [atBoundary_trailing _ _ hreset hstate, hcondition] at h
    obtain ⟨⟨hpaused, -, -⟩, hparked⟩ := pauseTrail_pausedParked false (causeOf c) remaining (spent (conditionPending c j))
    rw [hvalid (spent (conditionPending c j)) rfl] at hpaused hparked
    rw [h.feed]
    exact ⟨hpaused, hparked.trans (by cases j.conditions.mediaOut <;> rfl)⟩
  | backfeed =>
    rw [atBoundary_backfeed _ _ hreset hstate, hcondition] at h
    intro hsome
    obtain ⟨⟨hpaused, -, -⟩, hparked⟩ := pauseBackfeed_pausedParked (s := spent (conditionPending c j))
      (Nat.pos_iff_ne_zero.mp hsome) false (causeOf c)
    rw [hvalid (spent (conditionPending c j)) rfl] at hpaused hparked
    rw [h.feed]
    exact ⟨hpaused, hparked.trans (by cases j.conditions.mediaOut <;> rfl)⟩
  | printing =>
    rw [atBoundary_printing _ _ hreset hstate, hcondition] at h
    intro cursor hcursor
    obtain ⟨hpaused, -, -⟩ := pausePrint_pausedAs (s := spent (conditionPending c j)) hcursor false (causeOf c)
    rw [hvalid (spent (conditionPending c j)) rfl] at hpaused
    rw [h.feed]
    exact hpaused
  | seekSearch =>
    rw [atBoundary_search _ _ hreset hstate, hcondition] at h
    intro cursor hcursor
    rw [h.feed]
    exact (pauseSeek_pausedAs (s := spent (conditionPending c j)) hcursor (causeOf c)).1
  | seekOffset =>
    rw [atBoundary_offset _ _ hreset hstate, hcondition] at h
    intro cursor hcursor
    rw [h.feed]
    exact (pauseSeek_pausedAs (s := spent (conditionPending c j)) hcursor (causeOf c)).1

theorem inputChange_same {input : SensorInput} {good : Bool} {s : State} (h : (s.sensors.filter input).raw = good) :
    inputChange input good s = s := if_pos h

theorem inputChange_changed {input : SensorInput} {good : Bool} {s : State} (h : (s.sensors.filter input).raw ≠ good) :
    inputChange input good s =
      s.withSensors (s.sensors.setFilter input ((s.sensors.filter input).change good s.clock)) := if_neg h

theorem finish_told {before after : State} (h : feedStateTriggered before after = true) :
    ∃ n ∈ (finish before after).notices.entries, n.content = .feedState (finish before after).feedReport :=
  told_of_keeps ((choose_keeps _).1.weaken (by decide)) (choose_keeps _).2.2.1 (reportFeed_told h)

/-- Settles O48: the inputs, the condition that joins by the feed state, and the one that leaves. -/
theorem sensorsAndConditions : Obligations.SensorsAndConditions := by
  unfold Obligations.SensorsAndConditions
  refine ⟨fun input good s hrun => ⟨fun hsame => ?_, fun hchanged => ⟨_, exec_sensorInputChange hrun input good, ?_⟩⟩,
    fun c since s hrun hfilter => ⟨_, exec_conditionJoins hrun c, ?_⟩,
    fun c since s hrun hfilter => ⟨_, exec_conditionLeaves hrun c, ?_⟩⟩
  · rw [exec_sensorInputChange hrun, inputChange_same hsame]
  · rw [inputChange_changed hchanged]
    refine ⟨by intro p hp; cases p <;> first | rfl | simp at hp, ?_, fun other hother => ?_⟩
    · exact (Sensors.filter_setFilter ..).trans (if_pos rfl)
    · exact (Sensors.filter_setFilter ..).trans (if_neg hother)
  · rw [conditionJoins_eq hfilter]
    have hsettled := settled_keeps c false since s
    have hconditions := settled_conditions c false since s
    have hchanged := settled_changes (c := c) (good := false) (since := since) (s := s) (by rw [hfilter]; rfl)
    have hcause : ∃ cause, (settled c false since s).conditions.cause? = some cause := by
      rw [hconditions]
      cases c
      · cases hout : s.conditions.mediaOut <;> simp [ConditionSet.cause?, hout]
      · exact ⟨.mediaOut, if_pos rfl⟩
    have hout : c = .mediaOut → (settled c false since s).conditions.mediaOut = true := by
      rintro rfl
      rw [hconditions]
      rfl
    have hclock := settled_clock c false since s
    have hsensors := settled_filter c false since s
    obtain ⟨cause, hcause⟩ := hcause
    have hfeed : (settled c false since s).feed = s.feed := hsettled .feed (by decide)
    have hring : (settled c false since s).ring = s.ring := hsettled .ring (by decide)
    have hlink : (settled c false since s).link = s.link := hsettled .link (by decide)
    have hcursor : (settled c false since s).cursor? = s.cursor? := rfl
    generalize settled c false since s = j at *
    have hacts := conditionActs_keeps c j
    have hactsConditions : (conditionActs c j).conditions = j.conditions := by
      rw [State.conditions, State.conditions, show (conditionActs c j).sensors = j.sensors from hacts .sensors (by decide)]
    have hfinish := finish_keeps s (conditionActs c j)
    have hshows := finish_shows s (conditionActs c j)
    have hcache := finish_cache s (conditionActs c j)
    have htold := finish_told (before := s) (triggered_of_conditions (by rw [hactsConditions]; exact hchanged))
    have hfinishFeed : (finish s (conditionActs c j)).feed = (conditionActs c j).feed := hshows.feed
    have hfinishRing : (finish s (conditionActs c j)).ring = (conditionActs c j).ring := hfinish .ring (by decide)
    have hfinishConditions := hshows.conditions.trans hactsConditions
    refine ⟨?_, ?_, hfinishConditions.trans hconditions, htold, fun hidle => ?_, fun hmoves hstanding hnone => ?_,
      fun first hmoves hstanding hfirst => ?_, fun hmoves hstanding hnone => ?_, fun cause context hpaused => ?_,
      fun hstalled cursor hc => ?_, ?_⟩
    · rw [hfinish .clock (by decide), hacts .clock (by decide)]
      exact hclock
    · rw [hfinish .sensors (by decide), hacts .sensors (by decide)]
      exact hsensors
    · have hstays : conditionActs c j = j := by simp only [conditionActs, hfeed, hidle]
      rw [hfinishFeed, hfinishRing, hstays]
      exact ⟨hfeed, hring⟩
    · have hpending := PendingStops.of_not_any hnone
      rw [hfinishFeed, hfinishRing, conditionActs_moving (by rwa [hfeed]),
        actIfStanding_of_not_standing (by rw [conditionPending_standing, hfeed, hstanding])]
      refine ⟨hring, ?_⟩
      rw [hpending]
      simp only [conditionPending, State.onFeed_feed, hfeed, hpending, PendingStops.addCondition_none]
    · rw [hfinishFeed, hfinishRing, conditionActs_moving (by rwa [hfeed]),
        actIfStanding_of_not_standing (by rw [conditionPending_standing, hfeed, hstanding])]
      refine ⟨hring, ?_⟩
      simp only [conditionPending, State.onFeed_feed, hfeed, PendingStops.addCondition_first hfirst]
    · have hnotPaused : s.feed.state.paused? = none := by
        cases hstate : s.feed.state <;> simp_all [FeedState.moves, FeedState.paused?]
      have hpending := PendingStops.of_not_any hnone
      have hcases := condition_acts (b := s) (by rw [hfeed]; exact hpending) (by rwa [hfeed]) (by rwa [hfeed]) hout hring
        (by rw [hlink]) hshows hcache (fun _ => htold)
      obtain ⟨hboundary, hrecorded⟩ := boundary_of_condition (c := c) (s := j) (by rw [hfeed]; exact hpending)
        (by rwa [hfeed]) (by rwa [hfeed])
      refine ⟨?_, ?_, ?_⟩
      · rw [hfinishFeed, hboundary, atBoundary_pending]
        rfl
      · rw [hfinishRing, hboundary]
        exact (ring_of_condition_boundary hrecorded rfl (cause := cause) hcause).trans hring
      · rw [hfeed, hcursor] at hcases
        rw [hfinishConditions]
        generalize finish s (conditionActs c j) = u at *
        cases hstate : s.feed.state with
        | idle | stalled | paused => simp [hstate, FeedState.moves] at hmoves
        | backfeed | seekSearch | seekOffset | printing | trailing =>
          rw [hstate] at hcases
          exact hcases
        | moving key | calibrating key =>
          rw [hstate] at hcases
          obtain ⟨hkey, hended, results, entry, hlast, hentry, hstatus, -⟩ := hcases
          cases c <;> exact ⟨hkey, hended, entry, hlast, hentry, hstatus⟩
    · have hpaused' : j.feed.state = .paused cause context := by rw [hfeed, hpaused]
      rw [hfinishFeed, hfinishRing]
      simp only [conditionActs, hpaused']
      cases c with
      | coverOpen =>
        exact ⟨hring, hfeed⟩
      | mediaOut =>
        rw [if_pos rfl]
        refine ⟨hring, ?_⟩
        cases context <;> simp only [invalidatePosition, State.onFeed_feed, hfeed] <;>
          first | rfl | (simp only [PausedContext.invalidated, ← hpaused]; rfl)
    · have hstalled' : j.feed.state = .stalled := by rw [hfeed, hstalled]
      have hwithdrawn : (withdrawRequest j).cursor? = some cursor := (congrArg id hcursor).trans hc
      have hpaused := (pausePrint_pausedAs hwithdrawn false (causeOf c)).1
      rw [positionValid_of_joined (s := withdrawRequest j) hout] at hpaused
      rw [hfinishFeed, hfinishRing, hfinishConditions]
      simp only [conditionActs, hstalled']
      refine ⟨hpaused, ?_⟩
      rw [pausePrint_keeps_feed _ _ _ .ring (by decide)]
      exact congrArg (fun r : BandRing => { r with waiting := none }) hring
    · exact (hsettled.weaken (by decide)).trans ((hacts.weaken (by decide)).trans (hfinish.weaken (by decide)))
  · rw [conditionLeaves_eq hfilter]
    have hfinish := finish_keeps s (settled c true since s)
    have hshows := finish_shows s (settled c true since s)
    refine ⟨?_, ?_, ?_, ?_, ?_⟩
    · rw [hfinish .clock (by decide)]
      exact settled_clock ..
    · rw [hfinish .sensors (by decide)]
      exact settled_filter ..
    · rw [hshows.conditions]
      exact settled_conditions ..
    · exact finish_told (triggered_of_conditions (settled_changes (by rw [hfilter]; rfl)))
    · exact ((settled_keeps c true since s).weaken (by decide)).trans (hfinish.weaken (by decide))

end Sys2Proof.Machine
end

section
/-! PROOF. STEP_COMPLETION (R112): the state that the feed decides from, and the steps of host motions, of
trailing and of a backfeed. -/

namespace Sys2Proof.Machine

/-! ### The state at the boundary that a step reaches -/

/-- The step detects a top edge (R113). -/
def edgeMet (sedge : EdgeLevel) (s : State) : Bool := samplesEdge s && topEdge s.feed.edge sedge

/-- The line that the step goes over. -/
def State.lineStepped (s : State) : Option OpenLine := if s.feed.state = .printing then s.feed.openLine else none

/-- The state at the boundary that a step reaches, before the feed decides. -/
def landed (dir : Direction) (sedge : EdgeLevel) (s : State) : State :=
  reportCrossing (edgeMet sedge s) s.lineStepped (countStep dir sedge s)

theorem exec_stepCompletion {s : State} (h : s.power = .running) {dir : Direction} (hstep : s.feed.inFlight = .step dir)
    (sedge : EdgeLevel) : exec (.stepCompletion sedge) s = .next (finish s
      (atBoundary (edgeMet sedge s) (s.lineStepped.any OpenLine.copyEnded) (landed dir sedge s))) := by
  refine (congrArg Host.Outcome.next (if_pos ((running_iff s).mpr h))).trans ?_
  simp only [completeStep, hstep]
  rfl

theorem reportCrossing_keeps (edge line) (s : State) : Keeps [.composer] s (reportCrossing edge line s) := by
  unfold reportCrossing
  split
  · split
    · exact State.changePage_keeps _ _ _
    · exact Keeps.refl _ _
  · exact Keeps.refl _ _

theorem landed_keeps (dir sedge) (s : State) : Keeps [.composer, .feed] s (landed dir sedge s) :=
  ((State.onFeed_keeps s _).weaken (by decide)).trans ((reportCrossing_keeps _ _ _).weaken (by decide))

/-- The feed at the boundary: the step is counted. -/
theorem landed_feed (dir sedge) (s : State) : (landed dir sedge s).feed = { s.feed with
    state := s.feed.state.stepped, inFlight := .none, openLine := none,
    parked := parkedAfter s.feed.state s.feed.parked,
    edge := historyAfter dir (samplesEdge s) sedge s.feed.edge } :=
  reportCrossing_keeps _ _ _ .feed (by decide)

/-- Without a line stepped over no page is touched. -/
theorem landed_of_no_crossing {dir : Direction} {sedge : EdgeLevel} {s : State}
    (h : ∀ l ∈ s.lineStepped, (edgeMet sedge s && !l.copyEnded) = false) :
    landed dir sedge s = countStep dir sedge s := by
  unfold landed reportCrossing
  split
  next l hl => rw [if_neg (by simpa using h l hl)]
  · rfl

theorem lineStepped_of_not_printing {s : State} (h : s.feed.state ≠ .printing) : s.lineStepped = none := if_neg h

theorem landed_keeps_feed {dir : Direction} {sedge : EdgeLevel} {s : State} (h : s.feed.state ≠ .printing) :
    Keeps [.feed] s (landed dir sedge s) := by
  rw [landed_of_no_crossing (by simp [lineStepped_of_not_printing h])]
  exact State.onFeed_keeps s _

theorem landed_conditions (dir sedge) (s : State) : (landed dir sedge s).conditions = s.conditions := by
  rw [State.conditions, State.conditions,
    show (landed dir sedge s).sensors = s.sensors from landed_keeps dir sedge s .sensors (by decide)]

theorem landed_queue (dir sedge) (s : State) : (landed dir sedge s).composer.queue = s.composer.queue := by
  unfold landed reportCrossing
  split
  · split <;> rfl
  · rfl

/-- The cursor reads of a page its id and its copies done. -/
theorem cursor?_of_pages {s t : State} (hqueue : t.composer.queue = s.composer.queue) (hline : t.feed.line = s.feed.line)
    (hpages : ∀ id, (t.page? id).map (fun p => (p.id, p.copiesDone)) = (s.page? id).map fun p => (p.id, p.copiesDone)) :
    t.cursor? = s.cursor? := by
  have hhead : t.headPage?.map (fun p => (p.id, p.copiesDone)) = s.headPage?.map fun p => (p.id, p.copiesDone) := by
    unfold State.headPage?
    rw [hqueue]
    cases s.composer.queue.head? with
    | none => rfl
    | some id => exact hpages id
  have hform (x : State) : x.cursor? = (x.headPage?.map fun p => (p.id, p.copiesDone)).map
      fun q => { page := q.1, copy := q.2, line := x.feed.line } := by
    rw [State.cursor?, Option.map_map]
    rfl
  rw [hform, hform, hhead, hline]

/-- A page at the boundary: the edge met inside its copy is counted (R121). -/
theorem landed_page? (dir sedge) (s : State) (id : Nat) : (landed dir sedge s).page? id =
    (s.page? id).map fun p => if p.state = .active ∧ ∃ l ∈ s.lineStepped, l.page = id ∧
      (edgeMet sedge s && !l.copyEnded) = true then { p with edges := saturate p.edges 1 } else p := by
  unfold landed reportCrossing
  cases hline : s.lineStepped with
  | none => simp [countStep]; rfl
  | some l =>
    dsimp only
    split
    next hcross =>
      unfold reportEdge onActive
      rw [State.page?_changePage _ _ _ _ (fun p => by split <;> rfl)]
      show (if id = l.page then (s.page? id).map _ else s.page? id) = _
      split
      next hid =>
        congr 1
        funext p
        simp only [Option.mem_def, Option.some.injEq, exists_eq_left', hid, hcross, and_self, and_true]
      next hid => simp [Ne.symm hid]
    next hcross =>
      rw [Bool.not_eq_true] at hcross
      simp only [Option.mem_def, Option.some.injEq, exists_eq_left', hcross, Bool.false_eq_true, and_false, if_false]
      exact (Option.map_id' ..).symm

theorem landed_cursor? (dir sedge) (s : State) : (landed dir sedge s).cursor? = s.cursor? := by
  refine cursor?_of_pages (landed_queue dir sedge s) (by rw [landed_feed]) fun id => ?_
  rw [landed_page?, Option.map_map]
  congr 1
  funext p
  simp only [Function.comp]
  split <;> rfl

theorem landed_cursorTag? (dir sedge) (s : State) : (landed dir sedge s).cursorTag? = s.cursorTag? := by
  rw [State.cursorTag?, State.cursorTag?, landed_cursor?]

/-! ### The end of the event -/

theorem finish_of_landed (dir sedge e d) (s : State) :
    Keeps [.link, .notices, .composer, .ring, .feed] s (finish s (atBoundary e d (landed dir sedge s))) ∧
      LinkAside s (finish s (atBoundary e d (landed dir sedge s))) ∧
      (finish s (atBoundary e d (landed dir sedge s))).feed.pending = PendingStops.none := by
  have hlanded := landed_keeps dir sedge s
  refine ⟨(hlanded.weaken (by decide)).trans (((atBoundary_keeps e d _).weaken (by decide)).trans
    ((finish_keeps s _).weaken (by decide))), ?_, ?_⟩
  · exact ((LinkAside.of_link (hlanded .link (by decide))).trans (atBoundary_acted e d _).aside).trans
      (finish_linkAside s _)
  · rw [(finish_shows s _).feed, atBoundary_pending]

/-- A state that stays out of PAUSED tells nothing, and RequestKeeps says what it leaves alone. -/
theorem finish_quiet {before after : State} {changed : List Part} (h : Keeps changed before after)
    (hchanged : .link ∉ changed ∧ .notices ∉ changed ∧ .sensors ∉ changed)
    (hbefore : before.feed.state.paused? = none) (hafter : after.feed.state.paused? = none) :
    RequestKeeps changed before (finish before after) :=
  finish_requestKeeps h hchanged (by rw [hbefore, hafter])

/-- The next step of a motion that goes on: the feed alone changes (R112). -/
theorem callStep_goesOn {d : Direction} {s c : State} (hkeeps : Keeps [.feed] s c)
    (hbefore : s.feed.state.paused? = none) (hafter : c.feed.state.paused? = none) :
    (finish s (callStep d c)).feed.state = c.feed.state ∧ Steps d c.feed (finish s (callStep d c)) ∧
      (finish s (callStep d c)).feed.parked = c.feed.parked ∧ (finish s (callStep d c)).feed.edge = c.feed.edge ∧
      (finish s (callStep d c)).feed.pitch = c.feed.pitch ∧ RequestKeeps [.feed] s (finish s (callStep d c)) := by
  have hshows := finish_shows s (callStep d c)
  rw [hshows.feed, callStep_state, callStep_parked, callStep_edge, callStep_pitch]
  exact ⟨rfl, (callStep_steps d rfl rfl).shows hshows, rfl, rfl, rfl,
    finish_quiet (hkeeps.trans (callStep_keeps d c)) (by decide) hbefore (by rwa [callStep_state])⟩

/-! ### The boundary without a stop pending -/

/-- What the feed decides at the boundary that a step reaches. -/
def stepDecided (dir : Direction) (sedge : EdgeLevel) (s : State) : State :=
  atBoundary (edgeMet sedge s) (s.lineStepped.any OpenLine.copyEnded) (landed dir sedge s)

section

variable {dir : Direction} {sedge : EdgeLevel} {s : State}

theorem landed_state : (landed dir sedge s).feed.state = s.feed.state.stepped := by rw [landed_feed]

theorem landed_pending : (landed dir sedge s).feed.pending = s.feed.pending := by rw [landed_feed]

theorem landed_ring : (landed dir sedge s).ring = s.ring := landed_keeps dir sedge s .ring (by decide)

theorem landed_settings : (landed dir sedge s).settings = s.settings := landed_keeps dir sedge s .settings (by decide)

/-- The feed as it decides at the boundary that a step reaches. -/
theorem boundary_feed : (spent (landed dir sedge s)).feed = { s.feed with
    state := s.feed.state.stepped, inFlight := .none, called := none, openLine := none, pending := .none,
    parked := parkedAfter s.feed.state s.feed.parked,
    edge := historyAfter dir (samplesEdge s) sedge s.feed.edge } := by
  rw [spent_feed, landed_feed]

theorem spent_landed_keeps (h : s.feed.state ≠ .printing) : Keeps [.feed] s (spent (landed dir sedge s)) :=
  (landed_keeps_feed h).trans (spent_keeps _)

theorem stepDecided_moving (hpending : s.feed.pending = .none) {key : RequestKey} {n done : Nat}
    (h : s.feed.state = .moving key n done) : stepDecided dir sedge s =
      if done + 1 = n then endFeed key .ok (done + 1) (spent (landed dir sedge s))
      else callStep .forward (spent (landed dir sedge s)) := by
  have hpending' : (landed dir sedge s).feed.pending = .none := landed_pending.trans hpending
  rw [stepDecided, atBoundary_moving _ _ (by rw [hpending']; rfl) (landed_state.trans (by rw [h]; rfl)), hpending']
  rfl

theorem stepDecided_calibrating (hpending : s.feed.pending = .none) {key : RequestKey} {limit count moved : Nat}
    {found : Bool} (h : s.feed.state = .calibrating key limit count moved found) : stepDecided dir sedge s =
      if (edgeMet sedge s && found) = true then
        endCalibrate key .ok (moved + 1) ((spent (landed dir sedge s)).onFeed fun f => { f with pitch := count + 1 })
      else if edgeMet sedge s = true then
        callStep .forward ((spent (landed dir sedge s)).enter (.calibrating key limit 0 (moved + 1) true))
      else if limit ≤ count + 1 then endCalibrate key .faultedMediaLost (moved + 1) (spent (landed dir sedge s))
      else callStep .forward (spent (landed dir sedge s)) := by
  have hpending' : (landed dir sedge s).feed.pending = .none := landed_pending.trans hpending
  rw [stepDecided, atBoundary_calibrating _ _ (by rw [hpending']; rfl) (landed_state.trans (by rw [h]; rfl)), hpending']
  rfl

theorem stepDecided_trailing (hreset : s.feed.pending.reset = none) {remaining : Nat}
    (h : s.feed.state = .trailing remaining) : stepDecided dir sedge s =
      boundaryTrailing s.feed.pending (remaining - 1) (spent (landed dir sedge s)) := by
  rw [stepDecided, atBoundary_trailing _ _ (by rw [landed_pending, hreset]) (landed_state.trans (by rw [h]; rfl)),
    landed_pending]

theorem stepDecided_backfeed (hreset : s.feed.pending.reset = none) (h : s.feed.state = .backfeed) :
    stepDecided dir sedge s = boundaryBackfeed s.feed.pending (spent (landed dir sedge s)) := by
  rw [stepDecided, atBoundary_backfeed _ _ (by rw [landed_pending, hreset]) (landed_state.trans (by rw [h]; rfl)),
    landed_pending]

end

/-! ### A reset at the boundary (R134) -/

/-- The feed that a reset finds: with scope ALL nothing is parked (R134). -/
def unparkedFor (scope : ResetScope) (s : State) : State := if scope = .all then unparked s else s

theorem unparkedFor_feed (scope) (s : State) :
    (unparkedFor scope s).feed = { s.feed with parked := if scope = .all then 0 else s.feed.parked } := by
  unfold unparkedFor
  cases scope <;> rfl

theorem unparkedFor_keeps (scope) (s : State) : Keeps [.feed] s (unparkedFor scope s) := by
  unfold unparkedFor
  split
  · exact State.onFeed_keeps s _
  · exact Keeps.refl _ _

theorem unparkedFor_pitch (scope) (s : State) : (unparkedFor scope s).feed.pitch = s.feed.pitch := by
  rw [unparkedFor_feed]

/-- A reset enters IDLE, once a running host motion is answered STOPPED (R134). -/
theorem stopForReset_of_still {scope : ResetScope} {s : State} (h : s.feed.state.motionKey? = none) :
    stopForReset scope s = enterIdle (unparkedFor scope s) := by
  cases hstate : s.feed.state <;> simp only [hstate, FeedState.motionKey?, reduceCtorEq] at h <;>
    simp only [stopForReset, hstate] <;> rfl

theorem stopForReset_of_motion {scope : ResetScope} {s : State} {key : RequestKey}
    (h : s.feed.state.motionKey? = some key) : ∃ kind, stopForReset scope s = enterIdle
      (completeReply key kind .stopped (s.feed.state.motionResults s.feed.pitch) (unparkedFor scope s)) := by
  cases hstate : s.feed.state with
  | moving key' n done =>
    obtain rfl : key' = key := by simpa [hstate, FeedState.motionKey?] using h
    exact ⟨0x30, by simp only [stopForReset, hstate]; rfl⟩
  | calibrating key' limit count moved found =>
    obtain rfl : key' = key := by simpa [hstate, FeedState.motionKey?] using h
    refine ⟨0x31, ?_⟩
    simp only [stopForReset, hstate, endCalibrate]
    rw [FeedState.motionResults, ← unparkedFor_pitch scope s]
    rfl
  | idle | backfeed | seekSearch | seekOffset | printing | stalled | trailing | paused =>
    simp [hstate, FeedState.motionKey?] at h

/-- What a reset decides at a boundary, in the state after the event (R134). -/
theorem stopForReset_starts {scope : ResetScope} {s u : State} (h : Shows (stopForReset scope s) u) (htold : Tells u) :
    StartsOrIdles { s.feed with parked := if scope = .all then 0 else s.feed.parked } s.ring u := by
  have hring : (unparkedFor scope s).ring = s.ring := unparkedFor_keeps scope s .ring (by decide)
  rw [← unparkedFor_feed, ← hring]
  cases hkey : s.feed.state.motionKey? with
  | none =>
    rw [stopForReset_of_still hkey] at h
    exact enterIdle_startsOrIdles h htold
  | some key =>
    obtain ⟨kind, hform⟩ := stopForReset_of_motion (scope := scope) hkey
    rw [hform] at h
    exact enterIdle_startsOrIdles (s := completeReply key kind _ _ _) h htold

theorem stopForReset_answers {scope : ResetScope} {s u : State} {key : RequestKey}
    (h : s.feed.state.motionKey? = some key) (hcache : u.link.cache = (stopForReset scope s).link.cache) :
    MotionAnswered key .stopped (s.feed.state.motionResults s.feed.pitch) s u := by
  obtain ⟨kind, hform⟩ := stopForReset_of_motion (scope := scope) h
  have hlink : (unparkedFor scope s).link = s.link := unparkedFor_keeps scope s .link (by decide)
  refine ⟨{ key := key,
            frame := { seq := key.seq, kind := kind, status := .stopped,
                       results := s.feed.state.motionResults s.feed.pitch, serial := s.link.serial } }, ?_, rfl, rfl, rfl⟩
  rw [hcache, hform, (enterIdle_rests _).link, ← hlink]
  rfl

/-- The start decision reads of the feed its park, its line and what is in flight. -/
theorem StartsOrIdles.congr {f f' : Feed} {r : BandRing} {t : State} (h : StartsOrIdles f r t)
    (hparked : f'.parked = f.parked) (hline : f'.line = f.line) (hflight : f'.inFlight = f.inFlight)
    (hstep : f'.stepStarted = f.stepStarted) (hburn : f'.burnStarted = f.burnStarted) : StartsOrIdles f' r t := by
  unfold StartsOrIdles Started Seeks Prints Burns Steps at *
  rw [hparked, hline, hflight, hstep, hburn]
  exact h

theorem Steps.congr {d : Direction} {f f' : Feed} {t : State} (h : Steps d f t) (hflight : f'.inFlight = f.inFlight)
    (hstep : f'.stepStarted = f.stepStarted) : Steps d f' t := by
  unfold Steps at *
  rw [hflight, hstep]
  exact h

/-! ### The steps, by the feed state -/

section

variable {dir : Direction} {sedge : EdgeLevel} {s : State}

/-- A step after which the feed calls for the next one, entering `st` first. -/
theorem step_goesOn {d : Direction} {st : FeedState} (hnot : s.feed.state ≠ .printing)
    (hpaused : s.feed.state.paused? = none) (hst : st.paused? = none)
    (h : stepDecided dir sedge s = callStep d ((spent (landed dir sedge s)).enter st)) {t : State}
    (ht : t = finish s (stepDecided dir sedge s)) :
    t.feed.state = st ∧ Steps d { s.feed with inFlight := .none } t ∧
      t.feed.parked = parkedAfter s.feed.state s.feed.parked ∧
      t.feed.edge = historyAfter dir (samplesEdge s) sedge s.feed.edge ∧ t.feed.pitch = s.feed.pitch ∧
      RequestKeeps [.feed] s t := by
  obtain ⟨hstate, hsteps, hparked, hedge, hpitch, hkeeps⟩ := callStep_goesOn (d := d) (s := s)
    (c := (spent (landed dir sedge s)).enter st)
    ((spent_landed_keeps hnot).trans (State.onFeed_keeps _ _)) hpaused hst
  rw [← h, ← ht] at hstate hsteps hparked hedge hpitch hkeeps
  have hfeed : ((spent (landed dir sedge s)).enter st).feed = { (spent (landed dir sedge s)).feed with state := st } := rfl
  rw [hfeed, boundary_feed] at hparked hedge hpitch hsteps
  exact ⟨hstate, hsteps.congr rfl rfl, hparked, hedge, hpitch, hkeeps⟩

/-- The state that the boundary is reached in is entered already. -/
theorem enter_stepped {st : FeedState} (h : s.feed.state.stepped = st) :
    (spent (landed dir sedge s)).enter st = spent (landed dir sedge s) := by
  have hstate : (spent (landed dir sedge s)).feed.state = st := by rw [boundary_feed, h]
  generalize spent (landed dir sedge s) = c at *
  subst hstate
  rfl

/-- A step after which the start decision is taken, once a running host motion is answered. -/
theorem step_startsOrIdles {c t : State} (h : Shows (enterIdle c) t) (htold : Tells t) (hring : c.ring = s.ring)
    (hparked : c.feed.parked = parkedAfter s.feed.state s.feed.parked) (hline : c.feed.line = s.feed.line)
    (hflight : c.feed.inFlight = .none) (hstep : c.feed.stepStarted = s.feed.stepStarted)
    (hburn : c.feed.burnStarted = s.feed.burnStarted) :
    StartsOrIdles { s.feed with inFlight := .none, parked := parkedAfter s.feed.state s.feed.parked } s.ring t := by
  rw [← hring]
  exact (enterIdle_startsOrIdles h htold).congr hparked.symm hline.symm hflight.symm hstep.symm hburn.symm

end

end Sys2Proof.Machine
end

section
/-! PROOF. STEP_COMPLETION of a host motion, of trailing and of a backfeed (R116, R124, R127, R129). -/

namespace Sys2Proof.Machine

section

variable {dir : Direction} {sedge : EdgeLevel} {s t : State}

/-- A step that ends a host motion: it is answered, and the start decision is taken (R127, R129). -/
theorem step_endsMotion {key : RequestKey} {kind : Byte} {status : Status} {results : Results} {c : State} {p : Nat}
    (hnot : s.feed.state.paused? = none) (hkeeps : Keeps [.feed] (spent (landed dir sedge s)) c)
    (hfeed : c.feed = { (spent (landed dir sedge s)).feed with pitch := p })
    (h : stepDecided dir sedge s = enterIdle (completeReply key kind status results c))
    (ht : t = finish s (stepDecided dir sedge s)) :
    t.feed.state.motionKey? = none ∧ t.feed.pitch = p ∧
      StartsOrIdles { s.feed with inFlight := .none, parked := parkedAfter s.feed.state s.feed.parked } s.ring t ∧
      MotionAnswered key status results s t := by
  have hshows : Shows (stepDecided dir sedge s) t := ht ▸ finish_shows s _
  have hcache : t.link.cache = (stepDecided dir sedge s).link.cache := ht ▸ finish_cache s _
  have htold : Tells t := ht ▸ finish_tells hnot
  rw [h] at hshows hcache
  obtain ⟨hrests, hstarts, hanswered⟩ := motion_ends hshows hcache htold
  have hring : c.ring = s.ring := (hkeeps .ring (by decide)).trans landed_ring
  have hlink : c.link = s.link := (hkeeps .link (by decide)).trans (landed_keeps dir sedge s .link (by decide))
  rw [boundary_feed] at hfeed
  refine ⟨hrests, ?_, ?_, ?_⟩
  · rw [hshows.feed, enterIdle_pitch]
    show c.feed.pitch = p
    rw [hfeed]
  · rw [← hring]
    exact hstarts.congr (by rw [hfeed]) (by rw [hfeed]) (by rw [hfeed]) (by rw [hfeed]) (by rw [hfeed])
  · unfold MotionAnswered
    rw [← hlink]
    exact hanswered

theorem boundary_feed_pitch : (spent (landed dir sedge s)).feed =
    { (spent (landed dir sedge s)).feed with pitch := s.feed.pitch } := by
  rw [boundary_feed]

/-- The step of a FEED (R127). -/
theorem step_of_moving {key : RequestKey} {n done : Nat} (hpending : s.feed.pending = .none)
    (hstate : s.feed.state = .moving key n done) (ht : t = finish s (stepDecided dir sedge s)) :
    (done + 1 ≠ n → t.feed.state = .moving key n (done + 1) ∧ Steps .forward { s.feed with inFlight := .none } t ∧
      t.feed.parked = s.feed.parked ∧ RequestKeeps [.feed] s t) ∧
    (done + 1 = n → t.feed.state.motionKey? = none ∧
      StartsOrIdles { s.feed with inFlight := .none, parked := s.feed.parked } s.ring t ∧
      MotionAnswered key .ok (.feed n) s t) := by
  have hdecided := stepDecided_moving (dir := dir) (sedge := sedge) hpending hstate
  have hnot : s.feed.state.paused? = none := by rw [hstate]; rfl
  refine ⟨fun hne => ?_, fun hlast => ?_⟩
  · rw [if_neg hne, ← enter_stepped (st := .moving key n (done + 1)) (by rw [hstate]; rfl)] at hdecided
    obtain ⟨hmoving, hsteps, hparked, -, -, hkeeps⟩ := step_goesOn (by rw [hstate]; simp) hnot rfl hdecided ht
    exact ⟨hmoving, hsteps, hparked.trans (by rw [hstate]; rfl), hkeeps⟩
  · rw [if_pos hlast] at hdecided
    obtain ⟨hrests, -, hstarts, hanswered⟩ := step_endsMotion hnot (Keeps.refl _ _) boundary_feed_pitch hdecided ht
    rw [hstate] at hstarts
    exact ⟨hrests, hstarts, hlast ▸ hanswered⟩

theorem edgeMet_calibrating {key : RequestKey} {limit count moved : Nat} {found : Bool}
    (hstate : s.feed.state = .calibrating key limit count moved found) (hmode : s.settings.mediaMode ≠ .continuous) :
    samplesEdge s = true ∧
      (edgeMet sedge s = true ↔ s.feed.edge = some .gapOrMark ∧ sedge = .labelOrNoMark) := by
  have hsamples : samplesEdge s = true := by simp [samplesEdge, hstate, hmode]
  exact ⟨hsamples, by simp [edgeMet, hsamples, topEdge]⟩

/-- The step of a CALIBRATE (R129). -/
theorem step_of_calibrating {key : RequestKey} {limit count moved : Nat} {found : Bool}
    (hpending : s.feed.pending = .none) (hstate : s.feed.state = .calibrating key limit count moved found)
    (hdir : dir = .forward) (hmode : s.settings.mediaMode ≠ .continuous)
    (ht : t = finish s (stepDecided dir sedge s)) :
    let edge := s.feed.edge = some .gapOrMark ∧ sedge = .labelOrNoMark
    let searches (count' : Nat) (found' : Bool) : Prop :=
      t.feed.state = .calibrating key limit count' (moved + 1) found' ∧
      Steps .forward { s.feed with inFlight := .none } t ∧
      t.feed.edge = some sedge ∧ t.feed.pitch = s.feed.pitch ∧ RequestKeeps [.feed] s t
    let ends (status : Status) (pitch : Nat) : Prop :=
      t.feed.state.motionKey? = none ∧ t.feed.pitch = pitch ∧
      StartsOrIdles { s.feed with inFlight := .none, parked := s.feed.parked } s.ring t ∧
      MotionAnswered key status (.calibrate pitch (some (moved + 1))) s t
    (edge → found = false → searches 0 true) ∧ (edge → found = true → ends .ok (count + 1)) ∧
      (¬edge → count + 1 < limit → searches (count + 1) found) ∧
      (¬edge → limit ≤ count + 1 → ends .faultedMediaLost s.feed.pitch) := by
  intro edge searches ends
  have hdecided := stepDecided_calibrating (dir := dir) (sedge := sedge) hpending hstate
  obtain ⟨hsamples, hedge⟩ := edgeMet_calibrating (sedge := sedge) hstate hmode
  have hnot : s.feed.state.paused? = none := by rw [hstate]; rfl
  have hhistory : historyAfter dir (samplesEdge s) sedge s.feed.edge = some sedge := by
    rw [hdir, hsamples]
    rfl
  have hsearches {count' : Nat} {found' : Bool} (h : stepDecided dir sedge s = callStep .forward
      ((spent (landed dir sedge s)).enter (.calibrating key limit count' (moved + 1) found'))) :
      searches count' found' := by
    obtain ⟨hon, hsteps, -, hafter, hpitch, hkeeps⟩ := step_goesOn (by rw [hstate]; simp) hnot rfl h ht
    exact ⟨hon, hsteps, hafter.trans hhistory, hpitch, hkeeps⟩
  have hends {status : Status} {pitch : Nat} {c : State} (hkeeps : Keeps [.feed] (spent (landed dir sedge s)) c)
      (hfeed : c.feed = { (spent (landed dir sedge s)).feed with pitch := pitch })
      (h : stepDecided dir sedge s = endCalibrate key status (moved + 1) c) : ends status pitch := by
    have hpitch : c.feed.pitch = pitch := by rw [hfeed]
    obtain ⟨hrests, hafter, hstarts, hanswered⟩ := step_endsMotion hnot hkeeps hfeed (h.trans rfl) ht
    rw [hstate] at hstarts
    rw [hpitch] at hanswered
    exact ⟨hrests, hafter, hstarts, hanswered⟩
  refine ⟨fun hmet hfound => ?_, fun hmet hfound => ?_, fun hno hlimit => ?_, fun hno hlimit => ?_⟩
  · have hmet := hedge.mpr hmet
    rw [if_neg (by simp [hfound]), if_pos hmet] at hdecided
    exact hsearches hdecided
  · have hmet := hedge.mpr hmet
    rw [if_pos (by simp [hfound, hmet])] at hdecided
    exact hends (State.onFeed_keeps _ _) rfl hdecided
  · have hno : edgeMet sedge s = false := Bool.eq_false_iff.mpr fun h => hno (hedge.mp h)
    rw [if_neg (by simp [hno]), if_neg (by simp [hno]), if_neg (by omega),
      ← enter_stepped (st := .calibrating key limit (count + 1) (moved + 1) found) (by rw [hstate]; rfl)] at hdecided
    exact hsearches hdecided
  · have hno : edgeMet sedge s = false := Bool.eq_false_iff.mpr fun h => hno (hedge.mp h)
    rw [if_neg (by simp [hno]), if_neg (by simp [hno]), if_pos hlimit] at hdecided
    exact hends (Keeps.refl _ _) boundary_feed_pitch hdecided

/-- The step of TRAILING (R124). -/
theorem step_of_trailing {remaining : Nat} (hpending : s.feed.pending = .none)
    (hstate : s.feed.state = .trailing remaining) (ht : t = finish s (stepDecided dir sedge s)) :
    (1 < remaining → t.feed.state = .trailing (remaining - 1) ∧ Steps .forward { s.feed with inFlight := .none } t ∧
      t.feed.parked = s.feed.parked + 1 ∧ RequestKeeps [.feed] s t) ∧
    (remaining = 1 →
      StartsOrIdles { s.feed with inFlight := .none, parked := s.feed.parked + 1 } s.ring t ∧
      (s.feed.hold = true ∨ s.composer.queue = [] →
        t.feed.state = .idle ∧ t.feed.parked = s.feed.parked + 1 ∧ t.feed.edge = none ∧ RequestKeeps [.feed] s t)) := by
  have hdecided := stepDecided_trailing (dir := dir) (sedge := sedge) (by rw [hpending]; rfl) hstate
  rw [hpending, show boundaryTrailing .none (remaining - 1) (spent (landed dir sedge s)) =
    if remaining - 1 = 0 then enterIdle (spent (landed dir sedge s))
    else callStep .forward (spent (landed dir sedge s)) from rfl] at hdecided
  have hnot : s.feed.state.paused? = none := by rw [hstate]; rfl
  have hnotPrinting : s.feed.state ≠ .printing := by rw [hstate]; simp
  have hparked : parkedAfter s.feed.state s.feed.parked = s.feed.parked + 1 := by rw [hstate]; rfl
  refine ⟨fun hmore => ?_, fun hlast => ?_⟩
  · rw [if_neg (by omega), ← enter_stepped (st := .trailing (remaining - 1)) (by rw [hstate]; rfl)] at hdecided
    obtain ⟨hon, hsteps, hafter, -, -, hkeeps⟩ := step_goesOn hnotPrinting hnot rfl hdecided ht
    exact ⟨hon, hsteps, hafter.trans hparked, hkeeps⟩
  · rw [if_pos (by omega)] at hdecided
    have hshows : Shows (enterIdle (spent (landed dir sedge s))) t := by
      rw [ht, ← hdecided]
      exact finish_shows s _
    have hstarts := step_startsOrIdles hshows (ht ▸ finish_tells hnot) landed_ring (by rw [boundary_feed])
      (by rw [boundary_feed]) (by rw [boundary_feed]) (by rw [boundary_feed]) (by rw [boundary_feed])
    rw [hparked] at hstarts
    refine ⟨hstarts, fun hno => ?_⟩
    have hidle : enterIdle (spent (landed dir sedge s)) = goIdle (spent (landed dir sedge s)) := by
      have hkept := spent_landed_keeps (dir := dir) (sedge := sedge) hnotPrinting
      rw [enterIdle_eq, if_neg]
      rw [mayStart_iff, not_not, hkept .composer (by decide), boundary_feed]
      exact hno
    rw [hidle] at hdecided hshows
    refine ⟨by rw [hshows.feed]; rfl, ?_, by rw [hshows.feed]; rfl, ?_⟩
    · rw [hshows.feed, ← hparked]
      show (spent (landed dir sedge s)).feed.parked = _
      rw [boundary_feed]
    · rw [ht, hdecided]
      exact finish_quiet ((spent_landed_keeps hnotPrinting).trans (State.onFeed_keeps _ _)) (by decide) hnot rfl

/-- The step of BACKFEED (R116). -/
theorem step_of_backfeed (hpending : s.feed.pending = .none) (hstate : s.feed.state = .backfeed)
    (hdir : dir = .reverse) (ht : t = finish s (stepDecided dir sedge s)) :
    (1 < s.feed.parked → t.feed.state = .backfeed ∧ Steps .reverse { s.feed with inFlight := .none } t ∧
      t.feed.parked = s.feed.parked - 1 ∧ t.feed.edge = none ∧ RequestKeeps [.feed] s t) ∧
    (s.feed.parked = 1 →
      Seeks { s.feed with inFlight := .none, parked := s.feed.parked - 1 } s.ring t ∧ t.feed.parked = 0 ∧
      (s.settings.mediaMode ≠ .continuous →
        t.feed.state = .seekSearch 0 s.settings.searchLimit ∧ Steps .forward { s.feed with inFlight := .none } t ∧
        t.feed.parked = 0 ∧ RequestKeeps [.feed] s t)) := by
  have hparkedAfter : (spent (landed dir sedge s)).feed.parked = s.feed.parked - 1 := by
    rw [boundary_feed, hstate]
    rfl
  have hdecided := stepDecided_backfeed (dir := dir) (sedge := sedge) (by rw [hpending]; rfl) hstate
  rw [hpending, show boundaryBackfeed .none (spent (landed dir sedge s)) =
    if (spent (landed dir sedge s)).feed.parked = 0 then enterSeek (spent (landed dir sedge s))
    else callStep .reverse (spent (landed dir sedge s)) from rfl, hparkedAfter] at hdecided
  have hnot : s.feed.state.paused? = none := by rw [hstate]; rfl
  have hnotPrinting : s.feed.state ≠ .printing := by rw [hstate]; simp
  refine ⟨fun hmore => ?_, fun hlast => ?_⟩
  · rw [if_neg (by omega), ← enter_stepped (st := .backfeed) (by rw [hstate]; rfl)] at hdecided
    obtain ⟨hon, hsteps, hafter, hedge, -, hkeeps⟩ := step_goesOn hnotPrinting hnot rfl hdecided ht
    exact ⟨hon, hsteps, hafter.trans (by rw [hstate]; rfl), hedge.trans (by rw [hdir]; rfl), hkeeps⟩
  · rw [if_pos (by omega)] at hdecided
    have hshows : Shows (enterSeek (spent (landed dir sedge s))) t := by
      rw [ht, ← hdecided]
      exact finish_shows s _
    have hzero : t.feed.parked = 0 := by
      rw [hshows.feed, enterSeek_parked, hparkedAfter, hlast]
    refine ⟨?_, hzero, fun hmode => ?_⟩
    · have hseeks := (enterSeek_seeks (spent (landed dir sedge s))).shows hshows
      rw [boundary_feed, spent_ring, landed_ring] at hseeks
      exact hseeks
    · rw [enterSeek, if_neg (by rw [spent_landed_keeps hnotPrinting .settings (by decide)]; exact hmode)] at hdecided
      obtain ⟨hon, hsteps, -, -, -, hkeeps⟩ := step_goesOn hnotPrinting hnot rfl hdecided ht
      rw [spent_landed_keeps hnotPrinting .settings (by decide)] at hon
      exact ⟨hon, hsteps, hzero, hkeeps⟩

/-! ### With a stop pending -/

theorem tells_of_step (hnot : s.feed.state.paused? = none) (ht : t = finish s (stepDecided dir sedge s)) : Tells t :=
  ht ▸ finish_tells hnot

theorem paused?_of_moves {st : FeedState} (h : st.moves = true) : st.paused? = none := by
  cases st <;> simp_all [FeedState.moves, FeedState.paused?]

theorem landed_link : (landed dir sedge s).link = s.link := landed_keeps dir sedge s .link (by decide)

theorem motionKey_stepped (st : FeedState) : st.stepped.motionKey? = st.motionKey? := by cases st <;> rfl

/-- A step with a reset pending (R134). -/
theorem step_of_reset {scope : ResetScope} (hreset : s.feed.pending.reset = some scope)
    (hmoves : s.feed.state.moves = true) (ht : t = finish s (stepDecided dir sedge s)) :
    StartsOrIdles { s.feed with
        inFlight := .none,
        parked := if scope = .all then 0 else parkedAfter s.feed.state s.feed.parked } s.ring t ∧
      t.feed.pitch = s.feed.pitch ∧
      ∀ key, s.feed.state.motionKey? = some key →
        MotionAnswered key .stopped (s.feed.state.stepped.motionResults s.feed.pitch) s t := by
  have hnot := paused?_of_moves hmoves
  have hdecided : stepDecided dir sedge s = stopForReset scope (spent (landed dir sedge s)) :=
    atBoundary_reset _ _ (by rw [landed_pending, hreset])
  have hshows : Shows (stopForReset scope (spent (landed dir sedge s))) t := by
    rw [ht, ← hdecided]
    exact finish_shows s _
  have hcache : t.link.cache = (stopForReset scope (spent (landed dir sedge s))).link.cache := by
    rw [ht, ← hdecided]
    exact finish_cache s _
  have hring : (spent (landed dir sedge s)).ring = s.ring := landed_ring
  have hlink : (spent (landed dir sedge s)).link = s.link := landed_link
  have hstarts := stopForReset_starts hshows (tells_of_step hnot ht)
  rw [boundary_feed, hring] at hstarts
  refine ⟨hstarts.congr rfl rfl rfl rfl rfl, ?_, fun key hkey => ?_⟩
  · rw [hshows.feed, stopForReset_pitch, boundary_feed]
  · have hanswers := stopForReset_answers (key := key) (by rw [boundary_feed, motionKey_stepped, hkey]) hcache
    rw [boundary_feed] at hanswers
    unfold MotionAnswered at hanswers ⊢
    rwa [hlink] at hanswers

/-- A step with a stop or a condition pending for a host motion (R127, R128, R129). -/
theorem step_of_motionEnd {key : RequestKey} {status : Status} (hreset : s.feed.pending.reset = none)
    (hend : s.feed.pending.motionEnd? = some status) (hmotion : s.feed.state.motionKey? = some key)
    (ht : t = finish s (stepDecided dir sedge s)) :
    MotionEnded status s.feed.state.stepped { s.feed with inFlight := .none, parked := s.feed.parked } s t ∧
      t.feed.pitch = s.feed.pitch := by
  have hnot := paused?_of_motionKey hmotion
  have hparked : parkedAfter s.feed.state s.feed.parked = s.feed.parked := by
    cases hstate : s.feed.state <;> simp_all [FeedState.motionKey?, parkedAfter]
  obtain ⟨⟨hkey, hstarts, hresults⟩, hpitch, -⟩ := motionEnded_of_boundary (b := s) (u := t) (key := key) (status := status)
    (s := landed dir sedge s) (by rw [landed_pending, hreset]) (by rw [landed_pending, hend])
    (by rw [landed_state, motionKey_stepped, hmotion]) (edgeMet sedge s) (s.lineStepped.any OpenLine.copyEnded)
    landed_ring (by rw [landed_link]) (ht ▸ finish_shows s _) (ht ▸ finish_cache s _) (tells_of_step hnot ht)
  rw [landed_state] at hresults
  rw [landed_feed, hparked] at hstarts
  rw [landed_feed] at hpitch
  exact ⟨⟨hkey, hstarts.congr rfl rfl rfl rfl rfl, hresults⟩, hpitch⟩

/-- The position that a pending condition leaves (R137, R143). -/
theorem positionValid_of_pending {first : PendingCondition} {c : State} (h : c.conditions = s.conditions) :
    positionValid first.mediaOutJoined first.pauseCause c =
      (!first.mediaOutJoined && decide (first.cause ≠ .mediaOut) && !s.conditions.mediaOut) := by
  rw [positionValid, h]
  congr 2
  cases hcause : first.cause <;> simp [PendingCondition.pauseCause, hcause, causeOf]

theorem spent_landed_conditions : (spent (landed dir sedge s)).conditions = s.conditions := landed_conditions dir sedge s

/-- A condition pending in TRAILING (R142). -/
theorem step_of_trailing_pauses {remaining : Nat} {first : PendingCondition} (hreset : s.feed.pending.reset = none)
    (hstate : s.feed.state = .trailing remaining) (hfirst : s.feed.pending.condition = some first)
    (ht : t = finish s (stepDecided dir sedge s)) :
    let valid := !first.mediaOutJoined && decide (first.cause ≠ .mediaOut) && !s.conditions.mediaOut
    PausesParked (causeOf first.cause) (.trail (remaining - 1) valid) valid (s.feed.parked + 1) t ∧ t.ring = s.ring ∧
      t.composer = s.composer := by
  have hdecided := stepDecided_trailing (dir := dir) (sedge := sedge) hreset hstate
  simp only [boundaryTrailing, hfirst] at hdecided
  have hnot : s.feed.state.paused? = none := by rw [hstate]; rfl
  have hkept := (spent_landed_keeps (dir := dir) (sedge := sedge) (by rw [hstate]; simp)).trans
    (pauseTrail_keeps_feed first.mediaOutJoined first.pauseCause (remaining - 1) _)
  have hparked := pauseTrail_pausedParked first.mediaOutJoined first.pauseCause (remaining - 1)
    (spent (landed dir sedge s))
  rw [positionValid_of_pending spent_landed_conditions, boundary_feed] at hparked
  have hfinish := finish_keeps s (stepDecided dir sedge s)
  have hshows := finish_shows s (stepDecided dir sedge s)
  rw [← ht, hdecided] at hfinish hshows
  refine ⟨?_, (hfinish .ring (by decide)).trans (hkept .ring (by decide)),
    (hfinish .composer (by decide)).trans (hkept .composer (by decide))⟩
  have hpauses := hparked.pauses hshows (tells_of_step hnot ht)
  simp only [hstate, parkedAfter] at hpauses
  exact hpauses

/-- A cancel or a condition pending in BACKFEED (R131, R141). -/
theorem step_of_backfeed_stops (hreset : s.feed.pending.reset = none) (hstate : s.feed.state = .backfeed)
    (ht : t = finish s (stepDecided dir sedge s)) :
    (s.feed.pending.cancel = true →
      StartsOrIdles { s.feed with inFlight := .none, parked := s.feed.parked - 1 } s.ring t) ∧
    ∀ first, s.feed.pending.cancel = false → s.feed.pending.condition = some first →
      let valid := !first.mediaOutJoined && decide (first.cause ≠ .mediaOut) && !s.conditions.mediaOut
      t.ring = s.ring ∧ t.composer = s.composer ∧
      (1 < s.feed.parked →
        PausesParked (causeOf first.cause) (.backfeed (s.feed.parked - 1) valid) valid (s.feed.parked - 1) t) ∧
      (s.feed.parked ≤ 1 → t.feed.parked = 0 ∧
        ∀ cursor ∈ s.cursor?, Pauses (causeOf first.cause) (.seek cursor.page cursor.copy) t) := by
  have hdecided := stepDecided_backfeed (dir := dir) (sedge := sedge) hreset hstate
  have hnot : s.feed.state.paused? = none := by rw [hstate]; rfl
  have htells := tells_of_step hnot ht
  have hparkedAfter : (spent (landed dir sedge s)).feed.parked = s.feed.parked - 1 := by
    rw [boundary_feed, hstate]
    rfl
  have hfinish := finish_keeps s (stepDecided dir sedge s)
  have hshows := finish_shows s (stepDecided dir sedge s)
  rw [← ht] at hfinish hshows
  refine ⟨fun hcancel => ?_, fun first hcancel hfirst => ?_⟩
  · rw [boundaryBackfeed, if_pos hcancel] at hdecided
    rw [hdecided] at hshows
    have hstarts := startOrIdle_startsOrIdles hshows htells
    rw [boundary_feed, hstate, spent_ring, landed_ring] at hstarts
    exact hstarts.congr rfl rfl rfl rfl rfl
  · simp only [boundaryBackfeed, hcancel, hfirst, Bool.false_eq_true, if_false] at hdecided
    have hkept := (spent_landed_keeps (dir := dir) (sedge := sedge) (by rw [hstate]; simp)).trans
      (pauseBackfeed_keeps_feed first.mediaOutJoined first.pauseCause _)
    rw [← hdecided] at hkept
    refine ⟨(hfinish .ring (by decide)).trans (hkept .ring (by decide)),
      (hfinish .composer (by decide)).trans (hkept .composer (by decide)), fun hmore => ?_, fun hdone => ?_⟩
    · rw [hdecided] at hshows
      have hpauses := (pauseBackfeed_pausedParked (by rw [hparkedAfter]; omega) _ _).pauses hshows htells
      rw [positionValid_of_pending spent_landed_conditions, hparkedAfter] at hpauses
      exact hpauses
    · rw [pauseBackfeed_of_unparked (by rw [hparkedAfter]; omega)] at hdecided
      rw [hdecided] at hshows
      refine ⟨by rw [hshows.feed, pauseSeek_parked, hparkedAfter]; omega, fun cursor hcursor => ?_⟩
      exact (pauseSeek_pausedAs (s := spent (landed dir sedge s)) ((landed_cursor? dir sedge s).trans hcursor) _).pauses
        hshows htells

end

theorem PendingStops.motionEnd?_of_stop {p : PendingStops} (h : p.stop = true) : p.motionEnd? = some .stopped := by
  simp [PendingStops.motionEnd?, h]

theorem PendingStops.motionEnd?_of_condition {p : PendingStops} {first : PendingCondition} (hreset : p.reset = Option.none)
    (hstop : p.stop = false) (h : p.condition = some first) : p.motionEnd? = some (faultedWith first.cause) := by
  simp [PendingStops.motionEnd?, hreset, hstop, h]

/-- Settles O50: the steps by the feed state, without a stop, with a reset, and with the other stops. -/
theorem stepOfMotionAndPark : Obligations.StepOfMotionAndPark := by
  unfold Obligations.StepOfMotionAndPark
  intro dir sedge s hrun hstep stepped valid
  have hexec : exec (.stepCompletion sedge) s = .next (finish s (stepDecided dir sedge s)) :=
    exec_stepCompletion hrun hstep sedge
  obtain ⟨hkeeps, haside, hspent⟩ := finish_of_landed dir sedge (edgeMet sedge s)
    (s.lineStepped.any OpenLine.copyEnded) s
  obtain ⟨t, ht⟩ : ∃ t, t = finish s (stepDecided dir sedge s) := ⟨_, rfl⟩
  refine ⟨t, hexec.trans (by rw [ht]), by rw [ht]; exact congrArg PendingStops.any hspent, ht ▸ hkeeps, ht ▸ haside,
    fun hnone => ?_, fun scope hreset hmoves => ?_, fun hreset => ?_⟩
  · have hpending := PendingStops.of_not_any hnone
    refine ⟨fun key n done hstate => ?_, fun key limit count moved found hstate hdir hmode => ?_,
      fun remaining hstate hdir => ?_, fun hstate hdir => ?_⟩
    · obtain ⟨hon, hends⟩ := step_of_moving hpending hstate ht
      refine ⟨fun hne => ?_, fun hlast => ?_⟩
      · obtain ⟨hmoving, hsteps, hrest⟩ := hon hne
        exact ⟨hmoving, hsteps.congr rfl rfl, hrest⟩
      · obtain ⟨hrests, hstarts, hanswered⟩ := hends hlast
        exact ⟨hrests, hstarts.congr (by simp only [stepped, hstate]) rfl rfl rfl rfl, hanswered⟩
    · obtain ⟨hfirst, hsecond, hgoes, hlimit⟩ := step_of_calibrating hpending hstate hdir hmode ht
      refine ⟨hfirst, fun hmet hfound => ?_, hgoes, fun hno hcount => ?_⟩
      · obtain ⟨hrests, hpitch, hstarts, hanswered⟩ := hsecond hmet hfound
        exact ⟨hrests, hpitch, hstarts.congr (by simp only [stepped, hstate]) rfl rfl rfl rfl, hanswered⟩
      · obtain ⟨hrests, hpitch, hstarts, hanswered⟩ := hlimit hno hcount
        exact ⟨hrests, hpitch, hstarts.congr (by simp only [stepped, hstate]) rfl rfl rfl rfl, hanswered⟩
    · obtain ⟨hon, hends⟩ := step_of_trailing hpending hstate ht
      refine ⟨fun hmore => ?_, fun hlast => ?_, fun hlast hno => (hends hlast).2 hno⟩
      · obtain ⟨htrails, hsteps, hrest⟩ := hon hmore
        exact ⟨htrails, hsteps.congr rfl rfl, hrest⟩
      · exact (hends hlast).1.congr (by simp only [stepped, hstate]) rfl rfl rfl rfl
    · obtain ⟨hon, hends⟩ := step_of_backfeed hpending hstate hdir ht
      refine ⟨fun hmore => ?_, fun hlast => ?_, fun hlast hmode => ?_⟩
      · obtain ⟨hback, hsteps, hrest⟩ := hon hmore
        exact ⟨hback, hsteps.congr rfl rfl, hrest⟩
      · obtain ⟨hseeks, hzero, -⟩ := hends hlast
        exact ⟨hseeks, hzero⟩
      · obtain ⟨hseek, hsteps, hrest⟩ := (hends hlast).2.2 hmode
        exact ⟨hseek, hsteps.congr rfl rfl, hrest⟩
  · obtain ⟨hstarts, hpitch, hanswers⟩ := step_of_reset hreset hmoves ht
    refine ⟨hstarts.congr ?_ rfl rfl rfl rfl, hpitch, fun key n done hstate => ?_,
      fun key limit count moved found hstate => ?_⟩
    · show (if scope = .all then 0 else stepped.parked) = if scope = .all then 0 else _
      congr 1
      simp only [stepped, parkedAfter]
      cases s.feed.state <;> rfl
    · have hanswer := hanswers key (by rw [hstate]; rfl)
      rwa [hstate] at hanswer
    · have hanswer := hanswers key (by rw [hstate]; rfl)
      rwa [hstate] at hanswer
  · refine ⟨fun motion hmotion => ?_, fun remaining first hstate hfirst => ?_, fun hstate => ?_⟩
    · obtain ⟨key, hkey, hends⟩ : ∃ key, s.feed.state.motionKey? = some key ∧
          ∀ status, MotionEnded status s.feed.state.stepped
            { s.feed with inFlight := .none, parked := s.feed.parked } s t → MotionEnded status motion stepped s t := by
        cases hstate : s.feed.state <;> simp only [hstate, reduceCtorEq, Option.some.injEq] at hmotion
        · subst hmotion
          refine ⟨_, rfl, fun status ⟨hrests, hstarts, hanswered⟩ => ?_⟩
          exact ⟨hrests, hstarts.congr (by simp only [stepped, hstate]) rfl rfl rfl rfl, hanswered⟩
        · subst hmotion
          refine ⟨_, rfl, fun status ⟨hrests, hstarts, hanswered⟩ => ?_⟩
          exact ⟨hrests, hstarts.congr (by simp only [stepped, hstate]) rfl rfl rfl rfl, hanswered⟩
      refine ⟨fun hstop => ?_, fun first hstop hfirst => ?_⟩
      · obtain ⟨hended, hpitch⟩ := step_of_motionEnd hreset (PendingStops.motionEnd?_of_stop hstop) hkey ht
        exact ⟨hends _ hended, hpitch⟩
      · obtain ⟨hended, hpitch⟩ :=
          step_of_motionEnd hreset (PendingStops.motionEnd?_of_condition hreset hstop hfirst) hkey ht
        refine ⟨?_, hpitch⟩
        cases hcause : first.cause <;> exact hends _ (hcause ▸ hended)
    · exact step_of_trailing_pauses hreset hstate hfirst ht
    · obtain ⟨hcancels, hpauses⟩ := step_of_backfeed_stops hreset hstate ht
      exact ⟨fun hcancel => (hcancels hcancel).congr (by simp only [stepped, hstate]) rfl rfl rfl rfl,
        fun first hcancel hfirst => hpauses first hcancel hfirst⟩

end Sys2Proof.Machine
end

section
/-! PROOF. STEP_COMPLETION in SEEK and in PRINTING (R113, R117 to R121, R123). -/

namespace Sys2Proof.Machine

/-! ### PRINTING at a boundary, as the state after the event shows it -/

/-- The line is burned from the buffer held, or from the one that the request is granted; else the feed stalls and
counts it, on a page that the boundary found as `crossed` says (R102, R119, R120). -/
def PrintsLine (crossed : Page → Page) (f : Feed) (s t : State) : Prop :=
  Prints f s.ring t ∧
  (s.ring.draining?.isSome = true → t.ring = s.ring) ∧
  (s.ring.draining? = none → ∀ tag ∈ s.cursorTag?,
    (∀ i, s.ring.oldestReady? tag = some i → t.ring = s.ring.setState i (.draining tag)) ∧
    (s.ring.oldestReady? tag = none →
      t.ring = { s.ring with waiting := some tag } ∧
      ∀ p, s.page? tag.page = some p → p.state = .active →
        t.page? tag.page = some { crossed p with stalls := min 65535 (p.stalls + 1) }))

theorem printLine_requests {c : State} {tag : Tag} (hnone : c.ring.draining? = none) (htag : c.cursorTag? = some tag) :
    printLine c = requestBand tag (c.enter .printing) := by
  simp only [printLine, hnone, htag]

theorem requestBand_granted {c : State} {tag : Tag} {i : Fin 4} (h : c.ring.oldestReady? tag = some i) :
    requestBand tag c = callBurn ((c.withRing (c.ring.setState i (.draining tag))).enter .printing) := by
  simp only [requestBand, h]

theorem requestBand_stalls {c : State} {tag : Tag} (h : c.ring.oldestReady? tag = none) :
    requestBand tag c = reportStall tag.page ((c.withRing { c.ring with waiting := some tag }).enter .stalled) := by
  simp only [requestBand, h]

theorem printLine_keeps_of_draining {c : State} (h : c.ring.draining?.isSome = true) : Keeps [.feed] c (printLine c) := by
  obtain ⟨i, hi⟩ := Option.isSome_iff_exists.mp h
  simp only [printLine, hi]
  exact (State.onFeed_keeps c _).trans (callBurn_keeps _)

/-- A stall is counted for the ACTIVE page (R12, R120). -/
theorem reportStall_page? {s : State} {id : Nat} {p : Page} (h : s.page? id = some p) (hactive : p.state = .active) :
    (reportStall id s).page? id = some { p with stalls := saturate p.stalls 1 } := by
  unfold reportStall onActive
  rw [State.page?_changePage _ _ _ _ (fun p => by split <;> rfl), if_pos rfl, h]
  simp [hactive]

theorem printsLine_of_shows {crossed : Page → Page} {s c t : State} (h : Shows (printLine c) t)
    (hring : t.ring = (printLine c).ring) (hc : c.ring = s.ring) (htag : c.cursorTag? = s.cursorTag?)
    (hcrossed : ∀ id p, s.page? id = some p → p.state = .active →
      ∃ q, c.page? id = some q ∧ q.state = .active ∧ q = crossed p ∧ q.stalls = p.stalls)
    (hflight : c.feed.inFlight = .none) (hburn : c.feed.burnStarted = s.feed.burnStarted) :
    PrintsLine crossed { s.feed with inFlight := .none } s t := by
  refine ⟨?_, fun hsome => ?_, fun hnone tag hcursor => ⟨fun i hi => ?_, fun hno => ?_⟩⟩
  · have hprints := (printLine_prints c).shows h
    unfold Prints Burns at hprints ⊢
    rw [hflight, hburn, hc] at hprints
    exact hprints
  · rw [hring, printLine_ring_of_draining (by rwa [hc]), hc]
  · rw [hring, printLine_requests (by rwa [hc]) (htag.trans hcursor),
      requestBand_granted (c := c.enter .printing) (by exact hc ▸ hi), (callBurn_keeps _) .ring (by decide)]
    exact congrArg (fun r : BandRing => r.setState i (.draining tag)) hc
  · have hform := (printLine_requests (c := c) (by rwa [hc]) (htag.trans hcursor)).trans
      (requestBand_stalls (c := c.enter .printing) (by exact hc ▸ hno))
    rw [hring, h.page?, hform]
    refine ⟨congrArg (fun r : BandRing => { r with waiting := some tag }) hc, fun p hp hactive => ?_⟩
    obtain ⟨q, hq, hactive', rfl, hstalls⟩ := hcrossed _ p hp hactive
    rw [reportStall_page? (by exact hq) hactive', hstalls]
    rfl

/-! ### What the step samples -/

/-- The top edge of a step (R113). -/
def EdgeMet (sedge : EdgeLevel) (s : State) : Prop :=
  s.settings.mediaMode ≠ .continuous ∧ s.feed.edge = some .gapOrMark ∧ sedge = .labelOrNoMark

/-- The edge history after a step in SEEK's search or in PRINTING (R113). -/
def sampledEdge (sedge : EdgeLevel) (s : State) : Option EdgeLevel :=
  if s.settings.mediaMode = .continuous then s.feed.edge else some sedge

section

variable {sedge : EdgeLevel} {s t : State}

/-- The feed samples in the search of SEEK and in PRINTING. -/
def FeedState.samples : FeedState → Bool
  | .seekSearch _ _ => true
  | .printing => true
  | .idle | .backfeed | .seekOffset _ | .stalled | .trailing _ | .moving _ _ _ | .calibrating _ _ _ _ _
  | .paused _ _ => false

theorem edgeMet_iff (h : s.feed.state.samples = true) : edgeMet sedge s = true ↔ EdgeMet sedge s := by
  unfold edgeMet EdgeMet samplesEdge topEdge
  cases hstate : s.feed.state <;> simp [hstate, FeedState.samples] at h ⊢

theorem historyAfter_sampled (h : s.feed.state.samples = true) :
    historyAfter .forward (samplesEdge s) sedge s.feed.edge = sampledEdge sedge s := by
  unfold historyAfter samplesEdge sampledEdge
  cases hstate : s.feed.state <;> simp [hstate, FeedState.samples] at h ⊢

/-- The page that the boundary finds: a top edge inside its copy is counted (R12, R121). -/
def crossedPage (sedge : EdgeLevel) (s : State) (p : Page) : Page :=
  if s.feed.state = .printing ∧ s.feed.openLine.any (fun l => l.page = p.id && !l.copyEnded) = true ∧
      (s.settings.mediaMode ≠ .continuous ∧ s.feed.edge = some .gapOrMark ∧ sedge = .labelOrNoMark) then
    { p with edges := min 65535 (p.edges + 1) }
  else p

theorem crossedPage_state (p : Page) : (crossedPage sedge s p).state = p.state ∧
    (crossedPage sedge s p).stalls = p.stalls := by
  unfold crossedPage
  split <;> exact ⟨rfl, rfl⟩

theorem landed_crossed {dir : Direction} {id : Nat} {p : Page} (hp : s.page? id = some p) (hactive : p.state = .active) :
    (landed dir sedge s).page? id = some (crossedPage sedge s p) := by
  rw [landed_page?, hp, Option.map_some]
  congr 1
  have hid := State.page?_id hp
  unfold crossedPage State.lineStepped
  refine if_congr ?_ rfl rfl
  by_cases hprinting : s.feed.state = .printing
  · have hedge := edgeMet_iff (sedge := sedge) (s := s) (by rw [hprinting]; rfl)
    rw [← EdgeMet, ← hedge]
    cases hline : s.feed.openLine with
    | none => simp [hprinting]
    | some l => simp [hprinting, hactive, hid, and_assoc, and_comm, and_left_comm]
  · simp [hprinting]

/-! ### The boundary by the feed state -/

theorem stepDecided_search (hreset : s.feed.pending.reset = none) {count limit : Nat}
    (h : s.feed.state = .seekSearch count limit) : stepDecided .forward sedge s =
      boundarySearch s.feed.pending (edgeMet sedge s) (count + 1) limit (spent (landed .forward sedge s)) := by
  rw [stepDecided, atBoundary_search _ _ (by rw [landed_pending, hreset]) (landed_state.trans (by rw [h]; rfl)),
    landed_pending]

theorem stepDecided_offset (hreset : s.feed.pending.reset = none) {remaining : Nat}
    (h : s.feed.state = .seekOffset remaining) : stepDecided .forward sedge s =
      boundaryOffset s.feed.pending (remaining - 1) (spent (landed .forward sedge s)) := by
  rw [stepDecided, atBoundary_offset _ _ (by rw [landed_pending, hreset]) (landed_state.trans (by rw [h]; rfl)),
    landed_pending]

theorem stepDecided_printing (hreset : s.feed.pending.reset = none) (h : s.feed.state = .printing) :
    stepDecided .forward sedge s = boundaryPrinting s.feed.pending (edgeMet sedge s)
      (s.feed.openLine.any OpenLine.copyEnded) (spent (landed .forward sedge s)) := by
  rw [stepDecided, atBoundary_printing _ _ (by rw [landed_pending, hreset]) (landed_state.trans (by rw [h]; rfl)),
    landed_pending, State.lineStepped, if_pos h]

theorem spent_landed_cursorTag? : (spent (landed .forward sedge s)).cursorTag? = s.cursorTag? := landed_cursorTag? ..

theorem spent_landed_cursor? : (spent (landed .forward sedge s)).cursor? = s.cursor? := landed_cursor? ..

theorem spent_landed_settings : (spent (landed .forward sedge s)).settings = s.settings := landed_settings

theorem spent_landed_ring : (spent (landed .forward sedge s)).ring = s.ring := landed_ring

theorem spent_landed_keeps_all : Keeps [.composer, .feed] s (spent (landed .forward sedge s)) :=
  (landed_keeps _ _ s).trans ((spent_keeps _).weaken (by decide))

/-- A page that is begun already is not touched by the start of the head. -/
theorem beginHead_page?_of_active {c : State} {id : Nat} {q : Page} (h : c.page? id = some q) (hactive : q.state = .active) :
    (beginHead c).page? id = some q := by
  unfold beginHead
  split
  · rw [State.page?_changePage _ _ _ _ (fun p => by split <;> rfl)]
    split
    · rw [h]
      simp [hactive]
    · exact h
  · exact h

/-- A step after which the feed prints from the state `c` at the boundary. -/
theorem step_prints {c : State} (hnot : s.feed.state.paused? = none) (h : stepDecided .forward sedge s = printLine c)
    (ht : t = finish s (stepDecided .forward sedge s)) (hkeeps : Keeps [.composer, .feed] s c)
    (hfeed : c.feed = (spent (landed .forward sedge s)).feed) (htag : c.cursorTag? = s.cursorTag?)
    (hpages : ∀ id q, (spent (landed .forward sedge s)).page? id = some q → q.state = .active → c.page? id = some q) :
    PrintsLine (crossedPage sedge s) { s.feed with inFlight := .none } s t ∧
      t.feed.edge = historyAfter .forward (samplesEdge s) sedge s.feed.edge ∧ t.feed.line = s.feed.line ∧
      RequestKeeps [.composer, .ring, .feed] s t := by
  have hshows := finish_shows s (stepDecided .forward sedge s)
  have hring := finish_keeps s (stepDecided .forward sedge s) .ring (by decide)
  have hquiet := finish_quiet ((hkeeps.weaken (by decide)).trans ((printLine_keeps c).weaken (by decide)))
    (changed := [.composer, .ring, .feed]) (by decide) hnot (printLine_not_paused c)
  rw [← ht, h] at hshows hring
  rw [← h, ← ht] at hquiet
  refine ⟨printsLine_of_shows hshows hring (hkeeps .ring (by decide)) htag (fun id p hp hactive => ?_)
    (by rw [hfeed, boundary_feed]) (by rw [hfeed, boundary_feed]), ?_, ?_, hquiet⟩
  · obtain ⟨hstate, hstalls⟩ := crossedPage_state (sedge := sedge) (s := s) p
    exact ⟨_, hpages id _ (landed_crossed hp hactive) (hstate.trans hactive), hstate.trans hactive, rfl, hstalls⟩
  · rw [hshows.feed, printLine_edge, hfeed, boundary_feed]
  · rw [hshows.feed, (printLine_decided c).line, hfeed, boundary_feed]

/-! ### SEEK -/

theorem step_of_offset {remaining : Nat} (hpending : s.feed.pending = .none)
    (hstate : s.feed.state = .seekOffset remaining) (ht : t = finish s (stepDecided .forward sedge s)) :
    t.feed.edge = s.feed.edge ∧
    (1 < remaining → t.feed.state = .seekOffset (remaining - 1) ∧ Steps .forward { s.feed with inFlight := .none } t ∧
      RequestKeeps [.feed] s t) ∧
    (remaining ≤ 1 → PrintsLine (crossedPage sedge s) { s.feed with inFlight := .none } s t ∧
      RequestKeeps [.composer, .ring, .feed] s t) := by
  have hdecided := stepDecided_offset (sedge := sedge) (by rw [hpending]; rfl) hstate
  rw [hpending, show boundaryOffset .none (remaining - 1) (spent (landed .forward sedge s)) =
    if remaining - 1 = 0 then printLine (spent (landed .forward sedge s))
    else callStep .forward (spent (landed .forward sedge s)) from rfl] at hdecided
  have hnot : s.feed.state.paused? = none := by rw [hstate]; rfl
  have hhistory : historyAfter .forward (samplesEdge s) sedge s.feed.edge = s.feed.edge := by
    simp [historyAfter, samplesEdge, hstate]
  by_cases hmore : 1 < remaining
  · rw [if_neg (by omega), ← enter_stepped (st := .seekOffset (remaining - 1)) (by rw [hstate]; rfl)] at hdecided
    obtain ⟨hon, hsteps, -, hedge, -, hkeeps⟩ := step_goesOn (by rw [hstate]; simp) hnot rfl hdecided ht
    exact ⟨hedge.trans hhistory, fun _ => ⟨hon, hsteps, hkeeps⟩, fun hless => by omega⟩
  · rw [if_pos (by omega)] at hdecided
    obtain ⟨hprints, hedge, -, hkeeps⟩ := step_prints hnot hdecided ht spent_landed_keeps_all rfl spent_landed_cursorTag?
      fun id q hq _ => hq
    exact ⟨hedge.trans hhistory, fun h => absurd h hmore, fun _ => ⟨hprints, hkeeps⟩⟩

theorem step_of_search {count limit : Nat} (hpending : s.feed.pending = .none)
    (hstate : s.feed.state = .seekSearch count limit) (ht : t = finish s (stepDecided .forward sedge s)) :
    (EdgeMet sedge s → s.settings.topOffset = 0 →
      PrintsLine (crossedPage sedge s) { s.feed with inFlight := .none } s t) ∧
    (EdgeMet sedge s → 0 < s.settings.topOffset →
      t.feed.state = .seekOffset s.settings.topOffset ∧ Steps .forward { s.feed with inFlight := .none } t ∧
      t.feed.edge = some sedge ∧ RequestKeeps [.feed] s t) ∧
    (¬EdgeMet sedge s → count + 1 < limit →
      t.feed.state = .seekSearch (count + 1) limit ∧ Steps .forward { s.feed with inFlight := .none } t ∧
      t.feed.edge = sampledEdge sedge s ∧ RequestKeeps [.feed] s t) ∧
    (¬EdgeMet sedge s → limit ≤ count + 1 → ∀ cursor ∈ s.cursor?,
      Pauses .mediaLost (.seek cursor.page cursor.copy) t ∧ Keeps [.link, .notices, .feed] s t) := by
  have hdecided := stepDecided_search (sedge := sedge) (by rw [hpending]; rfl) hstate
  rw [hpending, show boundarySearch .none (edgeMet sedge s) (count + 1) limit (spent (landed .forward sedge s)) =
    if edgeMet sedge s = true then enterOffset (spent (landed .forward sedge s))
    else if limit ≤ count + 1 then pauseSeek .mediaLost (spent (landed .forward sedge s))
    else callStep .forward (spent (landed .forward sedge s)) from rfl, enterOffset, spent_landed_settings] at hdecided
  have hnot : s.feed.state.paused? = none := by rw [hstate]; rfl
  have hnotPrinting : s.feed.state ≠ .printing := by rw [hstate]; simp
  have hsamples : s.feed.state.samples = true := by rw [hstate]; rfl
  have hmet := edgeMet_iff (sedge := sedge) hsamples
  have hhistory := historyAfter_sampled (sedge := sedge) hsamples
  refine ⟨fun hedge hzero => ?_, fun hedge hsome => ?_, fun hno hless => ?_, fun hno hlimit cursor hcursor => ?_⟩
  · rw [if_pos (hmet.mpr hedge), if_pos hzero] at hdecided
    exact (step_prints hnot hdecided ht spent_landed_keeps_all rfl spent_landed_cursorTag? fun id q hq _ => hq).1
  · rw [if_pos (hmet.mpr hedge), if_neg (by omega)] at hdecided
    obtain ⟨hon, hsteps, -, hafter, -, hkeeps⟩ := step_goesOn hnotPrinting hnot rfl hdecided ht
    exact ⟨hon, hsteps, hafter.trans (hhistory.trans (if_neg hedge.1)), hkeeps⟩
  · rw [if_neg (fun h => hno (hmet.mp h)), if_neg (by omega),
      ← enter_stepped (st := .seekSearch (count + 1) limit) (by rw [hstate]; rfl)] at hdecided
    obtain ⟨hon, hsteps, -, hafter, -, hkeeps⟩ := step_goesOn hnotPrinting hnot rfl hdecided ht
    exact ⟨hon, hsteps, hafter.trans hhistory, hkeeps⟩
  · rw [if_neg (fun h => hno (hmet.mp h)), if_pos hlimit] at hdecided
    have hshows := finish_shows s (stepDecided .forward sedge s)
    have hkept := ((spent_landed_keeps (dir := .forward) (sedge := sedge) hnotPrinting).trans
      (pauseSeek_keeps_feed .mediaLost _)).weaken (d := [.link, .notices, .feed]) (by decide)
    have hfinish := (finish_keeps s (stepDecided .forward sedge s)).weaken (d := [.link, .notices, .feed]) (by decide)
    rw [← ht, hdecided] at hshows hfinish
    exact ⟨(pauseSeek_pausedAs (spent_landed_cursor?.trans hcursor) _).pauses hshows (tells_of_step hnot ht),
      hkept.trans hfinish⟩

/-! ### PRINTING inside a copy -/

theorem step_of_line {line : OpenLine} (hpending : s.feed.pending = .none) (hstate : s.feed.state = .printing)
    (hline : s.feed.openLine = some line) (hended : line.copyEnded = false)
    (ht : t = finish s (stepDecided .forward sedge s)) :
    PrintsLine (crossedPage sedge s) { s.feed with inFlight := .none } s t ∧ t.feed.edge = sampledEdge sedge s ∧
      t.feed.line = s.feed.line ∧ RequestKeeps [.composer, .ring, .feed] s t ∧
      (s.ring.draining?.isSome = true →
        (¬EdgeMet sedge s → t.composer = s.composer) ∧
        (∀ p, s.page? line.page = some p → p.state = .active →
          t.page? line.page = some (crossedPage sedge s p)) ∧
        RequestKeeps [.composer, .feed] s t) := by
  have hdecided := stepDecided_printing (sedge := sedge) (by rw [hpending]; rfl) hstate
  rw [hpending, hline, show boundaryPrinting .none (edgeMet sedge s) ((some line).any OpenLine.copyEnded)
    (spent (landed .forward sedge s)) = if line.copyEnded = true then
      endOfCopyDecision none (edgeMet sedge s) (spent (landed .forward sedge s))
      else printLine (spent (landed .forward sedge s)) from rfl, if_neg (by simp [hended])] at hdecided
  have hnot : s.feed.state.paused? = none := by rw [hstate]; rfl
  have hsamples : s.feed.state.samples = true := by rw [hstate]; rfl
  obtain ⟨hprints, hedge, hafter, hkeeps⟩ := step_prints hnot hdecided ht spent_landed_keeps_all rfl
    spent_landed_cursorTag? fun id q hq _ => hq
  refine ⟨hprints, hedge.trans (historyAfter_sampled hsamples), hafter, hkeeps, fun hsome => ?_⟩
  have hfeedOnly := printLine_keeps_of_draining (c := spent (landed .forward sedge s)) (by rwa [spent_landed_ring])
  have hfinish := finish_keeps s (stepDecided .forward sedge s)
  rw [← ht, hdecided] at hfinish
  have hcomposer : t.composer = (landed .forward sedge s).composer :=
    (hfinish .composer (by decide)).trans (hfeedOnly .composer (by decide))
  refine ⟨fun hno => ?_, fun p hp hactive => ?_, ?_⟩
  · have hmet : edgeMet sedge s = false := Bool.eq_false_iff.mpr fun h => hno ((edgeMet_iff hsamples).mp h)
    rw [hcomposer, landed_of_no_crossing fun l _ => by simp [hmet]]
    rfl
  · rw [State.page?, hcomposer]
    exact landed_crossed hp hactive
  · rw [ht, hdecided]
    exact finish_quiet (spent_landed_keeps_all.trans (hfeedOnly.weaken (by decide))) (by decide) hnot
      (printLine_not_paused _)

/-! ### After a copy's last line (R123) -/

theorem mayStart_spent_landed :
    mayStart (spent (landed .forward sedge s)) = true ↔ ¬(s.feed.hold = true ∨ s.composer.queue = []) := by
  rw [mayStart_iff, boundary_feed, show (spent (landed .forward sedge s)).composer.queue = s.composer.queue from
    landed_queue .forward sedge s]

theorem endOfCopyDecision_trails {pending : Option PendingCondition} {edge : Bool} {c : State} (h : mayStart c ≠ true) :
    endOfCopyDecision pending edge c =
      match (pending.map PendingCondition.pauseCause).or c.conditions.cause? with
      | some cause => pauseTrail (pending.any PendingCondition.mediaOutJoined) cause c.settings.tearOffset c
      | none => enterTrailing c := if_neg h

theorem endOfCopyDecision_goesOn {pending : Option PendingCondition} {edge : Bool} {c : State} (h : mayStart c = true) :
    endOfCopyDecision pending edge c =
      match (pending.map PendingCondition.pauseCause).or c.conditions.cause? with
      | some cause => pauseSeek cause (beginHead c)
      | none =>
        if (edge && decide (c.settings.mediaMode ≠ .continuous)) = true then enterOffset (beginHead c)
        else enterSeek (beginHead c) := by
  unfold endOfCopyDecision
  rw [if_pos h]
  dsimp only
  rw [(beginHead_decided c).conditions, (beginHead_decided c).settings] <;> rfl

theorem stepDecided_lastLine {line : OpenLine} (hreset : s.feed.pending.reset = none)
    (hcancel : s.feed.pending.cancel = false) (hstate : s.feed.state = .printing)
    (hline : s.feed.openLine = some line) (hended : line.copyEnded = true) : stepDecided .forward sedge s =
      endOfCopyDecision s.feed.pending.condition (edgeMet sedge s) (spent (landed .forward sedge s)) := by
  rw [stepDecided_printing hreset hstate, boundaryPrinting, hline]
  simp [hcancel, hended]

theorem parked_of_printing (hstate : s.feed.state = .printing) :
    (spent (landed .forward sedge s)).feed.parked = s.feed.parked := by
  rw [boundary_feed, hstate]
  rfl

/-- Held, or with nothing queued, the feed trails, or with a condition in the set pauses (R123, R142). -/
theorem step_of_lastLine_trails {line : OpenLine} (hpending : s.feed.pending = .none) (hstate : s.feed.state = .printing)
    (hline : s.feed.openLine = some line) (hended : line.copyEnded = true)
    (hno : s.feed.hold = true ∨ s.composer.queue = []) (ht : t = finish s (stepDecided .forward sedge s)) :
    (s.conditions.cause? = none → Trails { s.feed with inFlight := .none } s.ring t ∧
      (s.settings.tearOffset = 0 → t.feed.state = .idle)) ∧
    (∀ cause, s.conditions.cause? = some cause →
      PausesParked cause (.trail s.settings.tearOffset (!s.conditions.mediaOut)) (!s.conditions.mediaOut)
        s.feed.parked t) := by
  have hmay : ¬mayStart (spent (landed .forward sedge s)) = true := fun h => mayStart_spent_landed.mp h hno
  have hdecided := stepDecided_lastLine (sedge := sedge) (by rw [hpending]; rfl) (by rw [hpending]; rfl) hstate hline hended
  rw [endOfCopyDecision_trails hmay, hpending, spent_landed_conditions, spent_landed_settings] at hdecided
  have hnot : s.feed.state.paused? = none := by rw [hstate]; rfl
  have hshows := finish_shows s (stepDecided .forward sedge s)
  rw [← ht] at hshows
  refine ⟨fun hnone => ?_, fun cause hcause => ?_⟩
  · rw [hnone] at hdecided
    have htrailing : stepDecided .forward sedge s = enterTrailing (spent (landed .forward sedge s)) := hdecided
    rw [htrailing] at hshows
    have htrails := enterTrailing_trails hshows (tells_of_step hnot ht)
    rw [boundary_feed, hstate, spent_landed_ring] at htrails
    refine ⟨htrails, fun htear => ?_⟩
    rw [enterTrailing, spent_landed_settings, if_pos htear, enterIdle_eq, if_neg hmay] at hshows
    rw [hshows.feed]
    rfl
  · rw [hcause] at hdecided
    have hpauses : stepDecided .forward sedge s =
      pauseTrail false cause s.settings.tearOffset (spent (landed .forward sedge s)) := hdecided
    rw [hpauses] at hshows
    have hparked := (pauseTrail_pausedParked false cause s.settings.tearOffset
      (spent (landed .forward sedge s))).pauses hshows (tells_of_step hnot ht)
    rw [positionValid_of_cause (by rw [spent_landed_conditions, hcause]), spent_landed_conditions,
      parked_of_printing hstate] at hparked
    exact hparked

/-- Otherwise it goes on to the head page, or with a condition in the set pauses there (R123, R138). -/
theorem step_of_lastLine_goesOn {line : OpenLine} (hpending : s.feed.pending = .none) (hstate : s.feed.state = .printing)
    (hline : s.feed.openLine = some line) (hended : line.copyEnded = true)
    (hunheld : ¬(s.feed.hold = true ∨ s.composer.queue = [])) (ht : t = finish s (stepDecided .forward sedge s)) :
    (∀ head ∈ t.headPage?, head.state ≠ .queued) ∧
    (s.conditions.cause? = none →
      (EdgeMet sedge s → 0 < s.settings.topOffset →
        t.feed.state = .seekOffset s.settings.topOffset ∧ Steps .forward { s.feed with inFlight := .none } t) ∧
      (EdgeMet sedge s → s.settings.topOffset = 0 →
        PrintsLine (crossedPage sedge s) { s.feed with inFlight := .none } s t) ∧
      (¬EdgeMet sedge s → Seeks { s.feed with inFlight := .none } s.ring t) ∧
      (¬EdgeMet sedge s → s.settings.mediaMode ≠ .continuous →
        t.feed.state = .seekSearch 0 s.settings.searchLimit)) ∧
    (∀ cause, s.conditions.cause? = some cause → ∀ cursor ∈ s.cursor?,
      Pauses cause (.seek cursor.page cursor.copy) t) := by
  have hmay := mayStart_spent_landed (sedge := sedge).mpr hunheld
  have hdecided := stepDecided_lastLine (sedge := sedge) (by rw [hpending]; rfl) (by rw [hpending]; rfl) hstate hline hended
  rw [endOfCopyDecision_goesOn hmay, hpending, spent_landed_conditions, spent_landed_settings] at hdecided
  have hnot : s.feed.state.paused? = none := by rw [hstate]; rfl
  have hshows := finish_shows s (stepDecided .forward sedge s)
  rw [← ht] at hshows
  have hbegun := beginHead_decided (spent (landed .forward sedge s))
  have hbegunFeed : (beginHead (spent (landed .forward sedge s))).feed = (spent (landed .forward sedge s)).feed :=
    beginHead_feed _
  have hbegunRing := (beginHead_ring (spent (landed .forward sedge s))).trans spent_landed_ring
  have hmet := edgeMet_iff (sedge := sedge) (s := s) (by rw [hstate]; rfl)
  have hgoes : (edgeMet sedge s && decide (s.settings.mediaMode ≠ .continuous)) = true ↔ EdgeMet sedge s := by
    rw [Bool.and_eq_true, hmet, decide_eq_true_iff]
    exact ⟨fun h => h.1, fun h => ⟨h, h.1⟩⟩
  refine ⟨?_, fun hnone => ?_, fun cause hcause cursor hcursor => ?_⟩
  · rw [hshows.headPage?, hdecided]
    refine Decided.head_begun (s := spent (landed .forward sedge s)) ?_
    split
    · exact pauseSeek_decided _ _
    · split
      · exact enterOffset_decided _
      · exact enterSeek_decided _
  · rw [hnone] at hdecided
    have hdecided : stepDecided .forward sedge s =
      if (edgeMet sedge s && decide (s.settings.mediaMode ≠ .continuous)) = true then
        enterOffset (beginHead (spent (landed .forward sedge s)))
      else enterSeek (beginHead (spent (landed .forward sedge s))) := hdecided
    rw [enterOffset, hbegun.settings, spent_landed_settings] at hdecided
    refine ⟨fun hedge hsome => ?_, fun hedge hzero => ?_, fun hno => ?_, fun hno hmode => ?_⟩
    · rw [if_pos (hgoes.mpr hedge), if_neg (by omega)] at hdecided
      rw [hdecided] at hshows
      obtain ⟨hon, hsteps, -⟩ := callStep_enters hshows
      rw [hbegunFeed, boundary_feed] at hsteps
      exact ⟨hon, hsteps.congr rfl rfl⟩
    · rw [if_pos (hgoes.mpr hedge), if_pos hzero] at hdecided
      exact (step_prints hnot hdecided ht (spent_landed_keeps_all.trans ((beginHead_keeps _).weaken (by decide)))
        hbegunFeed (hbegun.cursorTag?.trans spent_landed_cursorTag?) fun id q hq hactive =>
          beginHead_page?_of_active hq hactive).1
    · rw [if_neg fun h => hno (hgoes.mp h)] at hdecided
      rw [hdecided] at hshows
      have hseeks := (enterSeek_seeks (beginHead (spent (landed .forward sedge s)))).shows hshows
      rw [hbegunFeed, boundary_feed, hbegunRing] at hseeks
      exact hseeks
    · rw [if_neg (fun h => hno (hgoes.mp h)), enterSeek, hbegun.settings, spent_landed_settings, if_neg hmode] at hdecided
      rw [hdecided] at hshows
      exact (callStep_enters hshows).1
  · rw [hcause] at hdecided
    have hpauses : stepDecided .forward sedge s = pauseSeek cause (beginHead (spent (landed .forward sedge s))) := hdecided
    rw [hpauses] at hshows
    exact (pauseSeek_pausedAs ((hbegun.cursor?.trans spent_landed_cursor?).trans hcursor) _).pauses hshows
      (tells_of_step hnot ht)

/-! ### With a stop pending -/

/-- In SEEK a cancel takes the start decision and a condition pauses (R131, R141), whatever the phase. -/
theorem stepDecided_seek_stops (hreset : s.feed.pending.reset = none) (hname : s.feed.state.name = .seek) :
    (s.feed.pending.cancel = true → stepDecided .forward sedge s = startOrIdle (spent (landed .forward sedge s))) ∧
    ∀ first, s.feed.pending.cancel = false → s.feed.pending.condition = some first →
      stepDecided .forward sedge s = pauseSeek first.pauseCause (spent (landed .forward sedge s)) := by
  cases hstate : s.feed.state <;> simp [hstate, FeedState.name] at hname
  · rw [stepDecided_search hreset hstate, boundarySearch]
    exact ⟨fun h => if_pos h, fun first hcancel hfirst => by simp [hcancel, hfirst]⟩
  · rw [stepDecided_offset hreset hstate, boundaryOffset]
    exact ⟨fun h => if_pos h, fun first hcancel hfirst => by simp [hcancel, hfirst]⟩

theorem step_of_seek_stops (hreset : s.feed.pending.reset = none) (hname : s.feed.state.name = .seek)
    (ht : t = finish s (stepDecided .forward sedge s)) :
    (s.feed.pending.cancel = true → StartsOrIdles { s.feed with inFlight := .none } s.ring t) ∧
    ∀ first, s.feed.pending.cancel = false → s.feed.pending.condition = some first → ∀ cursor ∈ s.cursor?,
      Pauses (causeOf first.cause) (.seek cursor.page cursor.copy) t ∧ t.feed.parked = s.feed.parked ∧
      Keeps [.link, .notices, .feed] s t := by
  have hnot : s.feed.state.paused? = none := by
    cases hstate : s.feed.state <;> simp_all [FeedState.name, FeedState.paused?]
  have hnotPrinting : s.feed.state ≠ .printing := by
    intro hstate
    simp [hstate, FeedState.name] at hname
  have hparked : (spent (landed .forward sedge s)).feed.parked = s.feed.parked := by
    rw [boundary_feed]
    cases hstate : s.feed.state <;> simp_all [FeedState.name, parkedAfter]
  obtain ⟨hcancels, hpauses⟩ := stepDecided_seek_stops (sedge := sedge) hreset hname
  have hshows := finish_shows s (stepDecided .forward sedge s)
  have hfinish := (finish_keeps s (stepDecided .forward sedge s)).weaken (d := [.link, .notices, .feed]) (by decide)
  rw [← ht] at hshows hfinish
  refine ⟨fun hcancel => ?_, fun first hcancel hfirst cursor hcursor => ?_⟩
  · rw [hcancels hcancel] at hshows
    have hstarts := startOrIdle_startsOrIdles hshows (tells_of_step hnot ht)
    rw [spent_landed_ring] at hstarts
    exact hstarts.congr hparked.symm (by rw [boundary_feed]) (by rw [boundary_feed]) (by rw [boundary_feed])
      (by rw [boundary_feed])
  · rw [hpauses first hcancel hfirst] at hshows hfinish
    refine ⟨(pauseSeek_pausedAs (spent_landed_cursor?.trans hcursor) _).pauses hshows (tells_of_step hnot ht),
      by rw [hshows.feed, pauseSeek_parked, hparked], Keeps.trans ?_ hfinish⟩
    exact ((spent_landed_keeps hnotPrinting).trans (pauseSeek_keeps_feed _ _)).weaken (by decide)

/-- PAUSED with context TRAIL for a pending condition (R142). -/
theorem step_pausesTrail {first : PendingCondition} (hstate : s.feed.state = .printing)
    (h : stepDecided .forward sedge s = pauseTrail first.mediaOutJoined first.pauseCause s.settings.tearOffset
      (spent (landed .forward sedge s))) (ht : t = finish s (stepDecided .forward sedge s)) :
    let valid := !first.mediaOutJoined && decide (first.cause ≠ .mediaOut) && !s.conditions.mediaOut
    PausesParked (causeOf first.cause) (.trail s.settings.tearOffset valid) valid s.feed.parked t ∧ t.ring = s.ring := by
  have hshows := finish_shows s (stepDecided .forward sedge s)
  have hring := finish_keeps s (stepDecided .forward sedge s) .ring (by decide)
  rw [← ht, h] at hshows hring
  have hparked := (pauseTrail_pausedParked first.mediaOutJoined first.pauseCause s.settings.tearOffset
    (spent (landed .forward sedge s))).pauses hshows (tells_of_step (by rw [hstate]; rfl) ht)
  rw [positionValid_of_pending spent_landed_conditions, parked_of_printing hstate] at hparked
  exact ⟨hparked, hring.trans ((pauseTrail_keeps_feed _ _ _ _ .ring (by decide)).trans spent_landed_ring)⟩

theorem pausePrint_parked (j c) (s : State) : (pausePrint j c s).feed.parked = s.feed.parked := by
  unfold pausePrint
  split <;> rfl

theorem step_of_printing_stops (hreset : s.feed.pending.reset = none) (hstate : s.feed.state = .printing)
    (ht : t = finish s (stepDecided .forward sedge s)) :
    (s.feed.pending.cancel = true → s.feed.pending.condition = none →
      Trails { s.feed with inFlight := .none } s.ring t) ∧
    ∀ first, s.feed.pending.condition = some first →
      let valid := !first.mediaOutJoined && decide (first.cause ≠ .mediaOut) && !s.conditions.mediaOut
      let trailPause : Prop :=
        PausesParked (causeOf first.cause) (.trail s.settings.tearOffset valid) valid s.feed.parked t ∧ t.ring = s.ring
      (s.feed.pending.cancel = true → trailPause) ∧
      ∀ line, s.feed.pending.cancel = false → s.feed.openLine = some line →
        (line.copyEnded = true → s.feed.hold = true ∨ s.composer.queue = [] → trailPause) ∧
        (line.copyEnded = true → ¬(s.feed.hold = true ∨ s.composer.queue = []) →
          (∀ head ∈ t.headPage?, head.state ≠ .queued) ∧ t.ring = s.ring ∧ t.feed.parked = s.feed.parked ∧
          ∀ cursor ∈ s.cursor?, Pauses (causeOf first.cause) (.seek cursor.page cursor.copy) t) ∧
        (line.copyEnded = false → ∀ cursor ∈ s.cursor?,
          Pauses (causeOf first.cause) (.print cursor.page cursor.copy cursor.line valid) t ∧ t.ring = s.ring ∧
          t.feed.line = s.feed.line ∧ t.feed.parked = s.feed.parked) := by
  have hnot : s.feed.state.paused? = none := by rw [hstate]; rfl
  have hdecided := stepDecided_printing (sedge := sedge) hreset hstate
  have hshows := finish_shows s (stepDecided .forward sedge s)
  have hring := finish_keeps s (stepDecided .forward sedge s) .ring (by decide)
  rw [← ht] at hshows hring
  refine ⟨fun hcancel hnone => ?_, fun first hfirst => ?_⟩
  · simp only [boundaryPrinting, hcancel, hnone, if_true] at hdecided
    rw [hdecided] at hshows
    have htrails := enterTrailing_trails hshows (tells_of_step hnot ht)
    rw [boundary_feed, hstate, spent_landed_ring] at htrails
    exact htrails
  intro valid trailPause
  refine ⟨fun hcancel => ?_, fun line hcancel hline => ⟨fun hended hno => ?_, fun hended hunheld => ?_,
    fun hended cursor hcursor => ?_⟩⟩
  · simp only [boundaryPrinting, hcancel, hfirst, if_true, spent_landed_settings] at hdecided
    exact step_pausesTrail hstate hdecided ht
  · have hmay : ¬mayStart (spent (landed .forward sedge s)) = true := fun h => mayStart_spent_landed.mp h hno
    have hlast := stepDecided_lastLine (sedge := sedge) hreset hcancel hstate hline hended
    rw [endOfCopyDecision_trails hmay, hfirst, spent_landed_settings] at hlast
    exact step_pausesTrail hstate hlast ht
  · have hmay := mayStart_spent_landed (sedge := sedge).mpr hunheld
    have hlast := stepDecided_lastLine (sedge := sedge) hreset hcancel hstate hline hended
    rw [endOfCopyDecision_goesOn hmay, hfirst] at hlast
    have hpauses : stepDecided .forward sedge s =
      pauseSeek first.pauseCause (beginHead (spent (landed .forward sedge s))) := hlast
    have hbegun := beginHead_decided (spent (landed .forward sedge s))
    rw [hpauses] at hshows hring
    refine ⟨?_, ?_, ?_, fun cursor hcursor => ?_⟩
    · rw [hshows.headPage?]
      exact Decided.head_begun (pauseSeek_decided _ _)
    · rw [hring, pauseSeek_keeps_feed _ _ .ring (by decide), beginHead_ring, spent_landed_ring]
    · rw [hshows.feed, pauseSeek_parked, beginHead_feed, parked_of_printing hstate]
    · exact (pauseSeek_pausedAs ((hbegun.cursor?.trans spent_landed_cursor?).trans hcursor) _).pauses hshows
        (tells_of_step hnot ht)
  · simp only [boundaryPrinting, hcancel, hline, hfirst, Option.any_some, hended, Bool.false_eq_true, if_false] at hdecided
    rw [hdecided] at hshows hring
    have hpauses := (pausePrint_pausedAs (spent_landed_cursor?.trans hcursor) first.mediaOutJoined
      first.pauseCause).pauses hshows (tells_of_step hnot ht)
    rw [positionValid_of_pending spent_landed_conditions] at hpauses
    refine ⟨hpauses, ?_, ?_, ?_⟩
    · rw [hring, pausePrint_keeps_feed _ _ _ .ring (by decide), spent_landed_ring]
    · rw [hshows.feed, (pausePrint_decided _ _ _).line, boundary_feed]
    · rw [hshows.feed, pausePrint_parked, parked_of_printing hstate]

/-- A page after the event keeps the edges that the boundary found (R12). -/
theorem step_edges {id : Nat} {p : Page} (hp : s.page? id = some p) (hactive : p.state = .active)
    (ht : t = finish s (stepDecided .forward sedge s)) :
    ∃ p', t.page? id = some p' ∧ p'.edges = (crossedPage sedge s p).edges := by
  obtain ⟨g, hg, hpage⟩ := (atBoundary_acted (edgeMet sedge s) (s.lineStepped.any OpenLine.copyEnded)
    (landed .forward sedge s)).page?
  refine ⟨g (crossedPage sedge s p), ?_, by rw [(hg _).record]⟩
  rw [ht, (finish_shows s (stepDecided .forward sedge s)).page?]
  refine (hpage id).trans ?_
  rw [show (spent (landed .forward sedge s)).page? id = some (crossedPage sedge s p) from landed_crossed hp hactive]
  rfl

end

/-- Settles O51: the pages whose edge is met, the feed states without a stop, and the stops. -/
theorem stepOfSeekAndPrint : Obligations.StepOfSeekAndPrint := by
  unfold Obligations.StepOfSeekAndPrint
  intro sedge s hrun hstep edge sampled stepped unheld inCopy crossed prints valid
  have hexec : exec (.stepCompletion sedge) s = .next (finish s (stepDecided .forward sedge s)) :=
    exec_stepCompletion hrun hstep sedge
  obtain ⟨hkeeps, haside, hspent⟩ := finish_of_landed .forward sedge (edgeMet sedge s)
    (s.lineStepped.any OpenLine.copyEnded) s
  obtain ⟨t, ht⟩ : ∃ t, t = finish s (stepDecided .forward sedge s) := ⟨_, rfl⟩
  have hunheld : unheld ↔ ¬(s.feed.hold = true ∨ s.composer.queue = []) := by
    simp only [unheld, not_or, Bool.not_eq_true, ne_eq]
  have hnone {c : ConditionSet} (h : c = { coverOpen := false, mediaOut := false }) : c.cause? = none :=
    cause?_of_empty h
  refine ⟨t, hexec.trans (by rw [ht]), by rw [ht]; exact congrArg PendingStops.any hspent, ht ▸ hkeeps, ht ▸ haside,
    fun line hline hcopy hedge p hp hactive => ?_, fun hany => ?_, fun hreset => ⟨fun hname => ?_, fun hstate => ?_⟩⟩
  · obtain ⟨p', hp', hedges⟩ := step_edges (sedge := sedge) hp hactive ht
    obtain ⟨hstate, l, hl, hended⟩ := hcopy
    obtain rfl : line = l := by simpa using hline.symm.trans hl
    refine ⟨p', hp', hedges.trans ?_⟩
    have hcrossing : s.feed.openLine.any (fun l => l.page = p.id && !l.copyEnded) = true := by
      rw [hl]
      simp [State.page?_id hp, hended]
    rw [crossedPage, if_pos ⟨hstate, hcrossing, hedge⟩]
  · have hpending := PendingStops.of_not_any hany
    refine ⟨fun remaining hstate => step_of_offset hpending hstate ht, fun line hstate hline hended => ?_,
      fun count limit hstate => step_of_search hpending hstate ht, fun line hstate hline hended =>
        step_of_line hpending hstate hline hended ht⟩
    refine ⟨fun hno => ?_, fun hyes => ?_, ?_⟩
    · obtain ⟨htrails, hpauses⟩ := step_of_lastLine_trails hpending hstate hline hended hno ht
      exact ⟨fun hempty => htrails (hnone hempty), hpauses⟩
    · obtain ⟨hbegun, hgoes, hpauses⟩ := step_of_lastLine_goesOn hpending hstate hline hended (hunheld.mp hyes) ht
      exact ⟨hbegun, fun hempty => hgoes (hnone hempty), hpauses⟩
    · rw [ht, (finish_shows s _).feed]
      exact (atBoundary_acted _ _ _).line.trans (by rw [boundary_feed])
  · exact step_of_seek_stops hreset hname ht
  · obtain ⟨htrails, hpauses⟩ := step_of_printing_stops hreset hstate ht
    refine ⟨htrails, fun first hfirst => ?_⟩
    obtain ⟨hcancels, hlines⟩ := hpauses first hfirst
    refine ⟨hcancels, fun line hcancel hline => ?_⟩
    obtain ⟨hends, hgoes, hinside⟩ := hlines line hcancel hline
    refine ⟨fun hended hno => hends hended ?_, fun hended hyes => hgoes hended (hunheld.mp hyes), hinside⟩
    rw [hunheld, not_not] at hno
    exact hno

end Sys2Proof.Machine
end

section
/-! PROOF. BURN_COMPLETION (R11, R13, R65, R103, R119, R122). -/

namespace Sys2Proof.Machine

/-! ### The end of a burn -/

theorem exec_burnCompletion {s : State} (h : s.power = .running) :
    exec .burnCompletion s = .next (choose (completeBurn s)) :=
  congrArg Host.Outcome.next (if_pos ((running_iff s).mpr h))

/-- The part with the burn landed. -/
def burnLanded (s : State) : State := s.onFeed fun f => { f with inFlight := .none }

theorem completeBurn_none {s : State} (h : s.feed.inFlight ≠ .burn) : completeBurn s = s := by
  unfold completeBurn
  split
  · rfl
  · rfl
  next hburn => exact absurd hburn h

theorem completeBurn_inactive {s : State} {l : OpenLine} (hburn : s.feed.inFlight = .burn) (hline : s.feed.openLine = some l)
    (h : ∀ p, s.page? l.page = some p → p.state ≠ .active) : completeBurn s = callStep .forward (burnLanded s) := by
  cases hp : s.page? l.page with
  | none =>
    simp only [completeBurn, hburn, hline, hp]
    rfl
  | some p =>
    simp only [completeBurn, hburn, hline, hp, if_neg (h p hp)]
    rfl

theorem completeBurn_active {s : State} {l : OpenLine} {p : Page} (hburn : s.feed.inFlight = .burn)
    (hline : s.feed.openLine = some l) (hp : s.page? l.page = some p) (hactive : p.state = .active) :
    completeBurn s = callStep .forward (assignBand (burnActive p l (burnLanded s))) := by
  simp only [completeBurn, hburn, hline, hp, if_pos hactive]
  rfl

theorem callStep_openLine (d) (s : State) : (callStep d s).feed.openLine = s.feed.openLine := by
  unfold callStep startStep
  split <;> rfl

/-- The step that the burn calls for, and the end of the event. -/
theorem burn_ends {s A t : State} {n : Nat} {line : Option OpenLine}
    (hfeed : A.feed = { s.feed with inFlight := .none, line := n, openLine := line })
    (ht : t = choose (callStep .forward A)) :
    Steps .forward { s.feed with inFlight := .none } t ∧ t.feed.state = s.feed.state ∧ t.feed.edge = s.feed.edge ∧
      t.feed.parked = s.feed.parked ∧ t.feed.pending = s.feed.pending ∧ t.feed.hold = s.feed.hold ∧
      t.feed.pitch = s.feed.pitch ∧ t.feed.line = n ∧ t.feed.openLine = line := by
  have hshows := choose_shows (callStep .forward A)
  rw [← ht] at hshows
  have hdecided := callStep_decided .forward A
  refine ⟨((callStep_steps .forward rfl rfl).shows hshows).congr (by rw [hfeed]) (by rw [hfeed]), ?_, ?_, ?_, ?_, ?_, ?_,
    ?_, ?_⟩ <;> rw [hshows.feed]
  · rw [callStep_state, hfeed]
  · rw [callStep_edge, hfeed]
  · rw [callStep_parked, hfeed]
  · rw [hdecided.pending, hfeed]
  · rw [hdecided.hold, hfeed]
  · rw [callStep_pitch, hfeed]
  · rw [hdecided.line, hfeed]
  · rw [callStep_openLine, hfeed]

theorem burn_ends_keeps {A t : State} (ht : t = choose (callStep .forward A)) :
    Keeps [.link, .notices, .feed] A t ∧ LinkAside A t ∧ NoticesAside A t := by
  have hcalled := callStep_keeps .forward A
  obtain ⟨hkeeps, haside, hnotices, -, -⟩ := choose_keeps (callStep .forward A)
  rw [← ht] at hkeeps haside hnotices
  refine ⟨(hcalled.weaken (by decide)).trans (hkeeps.weaken (by decide)), ?_, ?_⟩
  · exact (LinkAside.of_link (hcalled .link (by decide))).trans haside
  · rwa [NoticesAside, show (callStep .forward A).notices = A.notices from hcalled .notices (by decide)] at hnotices

/-- The ring's test reads the engine, the ring, the composer and the cursor's line (R100). -/
theorem Assigned.congr {x y t u : State} (h : Assigned x t) (hengine : y.engine = x.engine) (hring : y.ring = x.ring)
    (hcomposer : y.composer = x.composer) (hline : y.feed.line = x.feed.line) (htengine : u.engine = t.engine)
    (htring : u.ring = t.ring) : Assigned y u := by
  unfold Assigned at *
  rw [hengine, nextBand?_congr hcomposer hline (by rw [hring]), hring, htengine, htring]
  exact h

/-! ### The buffer that the line empties (R103) -/

/-- The part once the DRAINING buffer is FREE, at the last line of a band. -/
def freedAfter (p : Page) (l : OpenLine) (s : State) : State :=
  if lastOfBand l.line p.length then freeDraining s else s

theorem freedAfter_keeps (p l) (s : State) : Keeps [.ring] s (freedAfter p l s) := by
  unfold freedAfter
  split
  · exact freeDraining_keeps s
  · exact Keeps.refl _ _

theorem lastOfBand_iff (line length : Nat) :
    lastOfBand line length = true ↔ line % 64 = 63 ∨ line + 1 = length := by
  simp only [lastOfBand, Config.bandHeight, Bool.or_eq_true, decide_eq_true_eq]
  exact or_congr_left decide_eq_true_iff

theorem freeDraining_none {s : State} (h : s.ring.draining? = none) : (freeDraining s).ring = s.ring := by
  simp only [freeDraining, h]

theorem freeDraining_some {s : State} {i : Fin 4} (h : s.ring.draining? = some i) :
    (freeDraining s).ring = s.ring.freeBuffer i := by
  simp only [freeDraining, h]
  rfl

theorem burnActive_inside {p : Page} {l : OpenLine} {s : State} (h : l.line + 1 ≠ p.length) :
    burnActive p l s = (freedAfter p l s).onFeed fun f => { f with line := l.line + 1 } := if_neg h

theorem burnActive_last {p : Page} {l : OpenLine} {s : State} (h : l.line + 1 = p.length) :
    burnActive p l s = (endCopy p.id (freedAfter p l s)).onFeed fun f =>
      { f with line := 0, openLine := some { l with copyEnded := true } } := if_pos h

/-! ### The end of a copy and of a page (R11, R13) -/

section

variable {s : State} {p : Page} (hp : s.page? p.id = some p)

include hp

theorem endCopy_more (h : p.copiesDone + 1 ≠ p.copiesOrdered) :
    endCopy p.id s = s.changePage p.id fun q => { q with copiesDone := q.copiesDone + 1 } := by
  simp only [endCopy, hp, if_neg h]

theorem endCopy_ends (h : p.copiesDone + 1 = p.copiesOrdered) :
    endCopy p.id s = endPage { p with copiesDone := p.copiesDone + 1 } .done
      (s.changePage p.id fun q => { q with copiesDone := q.copiesDone + 1 }) := by
  simp only [endCopy, hp, if_pos h]

end

theorem endPage_page? (p : Page) (outcome : PageOutcome) (s : State) (j : Nat) : (endPage p outcome s).page? j =
    if j = p.id then (s.page? j).map fun q => q.endWith outcome (s.notices.nextNumber []) else s.page? j :=
  State.page?_changePage s p.id j (fun q => q.endWith outcome (s.notices.nextNumber [])) fun _ => rfl

/-- The notice of a page that has ended, once the event is over (R194). -/
theorem pageEnded_told {q : NoticeQueue} {content : NoticeContent} {t : State}
    (h : t.notices.entries.map Notice.face = (q.create [] content).entries.map Notice.face) :
    (∃ n ∈ t.notices.entries, n.number = q.nextNumber [] ∧ n.revision = 0 ∧ n.content = content) ∧
      ∀ n ∈ q.entries, n.face ∈ t.notices.entries.map Notice.face := by
  rw [h]
  refine ⟨?_, fun n hn => ?_⟩
  · have hmem : (q.nextNumber [], (0 : Word16), content) ∈ t.notices.entries.map Notice.face := by
      rw [h, NoticeQueue.create_entries, List.map_append]
      exact List.mem_append_right _ (List.mem_singleton.mpr rfl)
    obtain ⟨n, hn, hface⟩ := List.mem_map.mp hmem
    exact ⟨n, hn, congrArg (fun x => x.1) hface, congrArg (fun x => x.2.1) hface, congrArg (fun x => x.2.2) hface⟩
  · rw [NoticeQueue.create_entries, List.map_append]
    exact List.mem_append_left _ (List.mem_map_of_mem hn)

/-- What a release of references gives back, in blocks (R65, R154). -/
theorem AssetStore.release_blocks (st : AssetStore) (objects : List StoredObject) :
    (st.release objects).freeBlocks + blocksHeld (st.release objects).table = st.freeBlocks + blocksHeld st.table := by
  have hsplit := blocksHeld_filter (st.table.map fun a => { a with refCount := a.refCount - naming a.id objects })
    Asset.deferredRemoval
  have hheld : blocksHeld (st.table.map fun a => { a with refCount := a.refCount - naming a.id objects }) =
      blocksHeld st.table := by
    simp only [blocksHeld, List.map_map, Function.comp_def, Asset.blocks]
    rfl
  rw [hheld] at hsplit
  simp only [AssetStore.release, AssetStore.remove]
  omega

/-! ### The line of an ACTIVE page -/

section

variable {s t : State} {l : OpenLine} {p : Page}

/-- The part once the buffer is freed, with the burn landed. -/
def burnFreed (p : Page) (l : OpenLine) (s : State) : State := freedAfter p l (burnLanded s)

theorem burnFreed_keeps : Keeps [.ring, .feed] s (burnFreed p l s) :=
  ((State.onFeed_keeps s _).weaken (by decide)).trans ((freedAfter_keeps p l _).weaken (by decide))

theorem burnFreed_feed : (burnFreed p l s).feed = { s.feed with inFlight := .none } :=
  freedAfter_keeps p l _ .feed (by decide)

theorem burnFreed_ring : (burnFreed p l s).ring =
    if lastOfBand l.line p.length = true then
      (match s.ring.draining? with
      | some i => s.ring.freeBuffer i
      | none => s.ring)
    else s.ring := by
  unfold burnFreed freedAfter
  split
  · cases hd : s.ring.draining? with
    | none => exact freeDraining_none hd
    | some i => exact freeDraining_some hd
  · rfl

theorem burnFreed_page? (id : Nat) : (burnFreed p l s).page? id = s.page? id := by
  rw [State.page?, State.page?, show (burnFreed p l s).composer = s.composer from burnFreed_keeps .composer (by decide)]

/-- The ring's test for an assignment at the end of a burn (R100). -/
theorem burn_assigns {B : State} (ht : t = choose (callStep .forward (assignBand B))) (hline : t.feed.line = B.feed.line)
    (hengine : B.engine = s.engine) : Assigned (((s.withComposer t.composer).withFeed t.feed).withRing B.ring) t := by
  obtain ⟨hkeeps, -, -⟩ := burn_ends_keeps ht
  have hassign := assignBand_keeps B
  exact (assignBand_assigned B).congr hengine.symm rfl
    ((hkeeps .composer (by decide)).trans (hassign .composer (by decide))) hline
    (hkeeps .engine (by decide)) (hkeeps .ring (by decide))

theorem burnFreed_draining {i : Fin 4} (hlast : lastOfBand l.line p.length = true) (hi : s.ring.draining? = some i) :
    (burnFreed p l s).ring.stateOf i = .free := by
  rw [burnFreed_ring, if_pos hlast, hi]
  exact (BandRing.stateOf_freeBuffer ..).trans (if_pos rfl)

/-- An assignment makes no buffer DRAINING. -/
theorem assignBand_not_draining {B : State} {i : Fin 4} (h : (B.ring.stateOf i).isDraining = false) :
    ((assignBand B).ring.stateOf i).isDraining = false := by
  obtain hsame | ⟨j, tag, -, -, -, hassign⟩ := assignBand_cases B
  · rwa [hsame]
  · rw [hassign]
    refine (congrArg BufferState.isDraining (BandRing.stateOf_assign ..)).trans ?_
    split
    · rfl
    · exact h

theorem BufferState.void_not_draining {b : BufferState} (h : b.isDraining = false) (pick : Tag → Bool) :
    (b.void pick).isDraining = false := by
  cases b with
  | free | filling => rfl
  | ready tag => cases hp : pick tag <;> simp [BufferState.void, hp, BufferState.isDraining]
  | draining => cases h

/-- Inside a copy the cursor moves on (R119). -/
theorem burn_inside (hmore : l.line + 1 ≠ p.length)
    (ht : t = choose (callStep .forward (assignBand (burnActive p l (burnLanded s))))) :
    (assignBand (burnActive p l (burnLanded s))).feed = { s.feed with inFlight := .none, line := l.line + 1 } ∧
      (burnActive p l (burnLanded s)).ring = (burnFreed p l s).ring ∧
      (burnActive p l (burnLanded s)).engine = s.engine ∧ RequestKeeps [.feed, .ring, .engine] s t := by
  have hform : burnActive p l (burnLanded s) = (burnFreed p l s).onFeed fun f => { f with line := l.line + 1 } :=
    burnActive_inside hmore
  rw [hform] at ht ⊢
  have hB : Keeps [.ring, .feed] s ((burnFreed p l s).onFeed fun f => { f with line := l.line + 1 }) :=
    burnFreed_keeps.trans ((State.onFeed_keeps _ _).weaken (by decide))
  have hfeed : ((burnFreed p l s).onFeed fun f => { f with line := l.line + 1 }).feed =
      { s.feed with inFlight := .none, line := l.line + 1 } := by
    rw [State.onFeed_feed, burnFreed_feed]
  have hring : ((burnFreed p l s).onFeed fun f => { f with line := l.line + 1 }).ring = (burnFreed p l s).ring := rfl
  generalize ((burnFreed p l s).onFeed fun f => { f with line := l.line + 1 }) = B at *
  have hA := (hB.weaken (d := [.feed, .ring, .engine]) (by decide)).trans ((assignBand_keeps B).weaken (by decide))
  obtain ⟨hkeeps, haside, hnotices⟩ := burn_ends_keeps ht
  refine ⟨(assignBand_keeps B .feed (by decide)).trans hfeed, hring, hB .engine (by decide),
    (hA.weaken (by decide)).trans (hkeeps.weaken (by decide)),
    (LinkAside.of_link (hA .link (by decide))).trans haside, ?_⟩
  rwa [NoticesAside, show (assignBand B).notices = s.notices from hA .notices (by decide)] at hnotices

theorem changePage_composer_congr {c : State} (h : c.composer = s.composer) (id : Nat) (f : Page → Page) :
    (c.changePage id f).composer = (s.changePage id f).composer :=
  congrArg (fun x : Composer => { x with pages := changePage id f x.pages }) h

/-- The feed after the last line of a copy (R122). -/
theorem burnActive_last_feed (hlast : l.line + 1 = p.length) : (burnActive p l (burnLanded s)).feed =
    { s.feed with inFlight := .none, line := 0, openLine := some { l with copyEnded := true } } := by
  rw [burnActive_last hlast, State.onFeed_feed, endCopy_keeps _ _ .feed (by decide)]
  exact congrArg (fun f : Feed => { f with line := 0, openLine := some { l with copyEnded := true } })
    (burnFreed_feed (p := p) (l := l) (s := s))

/-- The last line of a copy that is not the last (R11). -/
theorem burn_copy (hp : s.page? p.id = some p) (hlast : l.line + 1 = p.length)
    (hmore : p.copiesDone + 1 ≠ p.copiesOrdered)
    (ht : t = choose (callStep .forward (assignBand (burnActive p l (burnLanded s))))) :
    (burnActive p l (burnLanded s)).ring = (burnFreed p l s).ring ∧
      t.composer = (s.changePage p.id fun q => { q with copiesDone := q.copiesDone + 1 }).composer ∧
      NoticesAside s t ∧ RequestKeeps [.composer, .feed, .ring, .engine] s t := by
  have hform : burnActive p l (burnLanded s) =
      ((burnFreed p l s).changePage p.id fun q => { q with copiesDone := q.copiesDone + 1 }).onFeed fun f =>
        { f with line := 0, openLine := some { l with copyEnded := true } } := by
    rw [burnActive_last hlast, ← endCopy_more (by rw [burnFreed_page?, hp]) hmore]
    rfl
  have hcomposer : (burnActive p l (burnLanded s)).composer =
      (s.changePage p.id fun q => { q with copiesDone := q.copiesDone + 1 }).composer := by
    rw [hform]
    exact changePage_composer_congr (burnFreed_keeps .composer (by decide)) _ _
  have hring : (burnActive p l (burnLanded s)).ring = (burnFreed p l s).ring := by
    rw [hform]
    rfl
  have hB : Keeps [.composer, .feed, .ring] s (burnActive p l (burnLanded s)) := by
    rw [hform]
    exact ((burnFreed_keeps.weaken (by decide)).trans ((State.changePage_keeps _ _ _).weaken (by decide))).trans
      ((State.onFeed_keeps _ _).weaken (by decide))
  generalize burnActive p l (burnLanded s) = B at *
  have hA := (hB.weaken (d := [.composer, .feed, .ring, .engine]) (by decide)).trans
    ((assignBand_keeps B).weaken (by decide))
  obtain ⟨hkeeps, haside, hnotices⟩ := burn_ends_keeps ht
  rw [NoticesAside, show (assignBand B).notices = s.notices from hA .notices (by decide)] at hnotices
  exact ⟨hring, (hkeeps .composer (by decide)).trans ((assignBand_keeps B .composer (by decide)).trans hcomposer),
    hnotices, (hA.weaken (by decide)).trans (hkeeps.weaken (by decide)),
    (LinkAside.of_link (hA .link (by decide))).trans haside, hnotices⟩

/-- The last line of the last copy: the page ends DONE (R11, R13). -/
theorem burn_page (hp : s.page? p.id = some p) (hlast : l.line + 1 = p.length)
    (hdone : p.copiesDone + 1 = p.copiesOrdered)
    (ht : t = choose (callStep .forward (assignBand (burnActive p l (burnLanded s))))) :
    (burnActive p l (burnLanded s)).ring = (burnFreed p l s).ring.void (fun tag => decide (tag.page = p.id)) ∧
      t.composer = ((s.changePage p.id fun q => { q with copiesDone := q.copiesDone + 1 }).composer.endPage
        { p with copiesDone := p.copiesDone + 1 } .done (s.notices.nextNumber [])) ∧
      t.assets = s.assets.release p.objects ∧
      t.notices.entries.map Notice.face = (s.notices.create []
        (.pageEnded ({ p with copiesDone := p.copiesDone + 1 }.report .done))).entries.map Notice.face ∧
      LinkAside s t ∧ Keeps [.link, .notices, .assets, .composer, .feed, .ring, .engine] s t := by
  have hform : burnActive p l (burnLanded s) =
      (endPage { p with copiesDone := p.copiesDone + 1 } .done
        ((burnFreed p l s).changePage p.id fun q => { q with copiesDone := q.copiesDone + 1 })).onFeed fun f =>
        { f with line := 0, openLine := some { l with copyEnded := true } } := by
    rw [burnActive_last hlast, ← endCopy_ends (by rw [burnFreed_page?, hp]) hdone]
    rfl
  have hB : Keeps [.notices, .assets, .composer, .feed, .ring] s (burnActive p l (burnLanded s)) := by
    rw [hform]
    exact (((burnFreed_keeps.weaken (by decide)).trans ((State.changePage_keeps _ _ _).weaken (by decide))).trans
      ((endPage_keeps _ _ _).weaken (by decide))).trans ((State.onFeed_keeps _ _).weaken (by decide))
  have hfreedNotices : (burnFreed p l s).notices = s.notices := burnFreed_keeps .notices (by decide)
  have hring : (burnActive p l (burnLanded s)).ring =
      (burnFreed p l s).ring.void fun tag => decide (tag.page = p.id) := by
    rw [hform]
    rfl
  have hcomposer : (burnActive p l (burnLanded s)).composer =
      ((s.changePage p.id fun q => { q with copiesDone := q.copiesDone + 1 }).composer.endPage
        { p with copiesDone := p.copiesDone + 1 } .done (s.notices.nextNumber [])) := by
    rw [hform, ← hfreedNotices, ← changePage_composer_congr (burnFreed_keeps (p := p) (l := l) .composer (by decide))]
    rfl
  have hassets : (burnActive p l (burnLanded s)).assets = s.assets.release p.objects := by
    rw [hform, ← show (burnFreed p l s).assets = s.assets from burnFreed_keeps .assets (by decide)]
    rfl
  have hnotices : (burnActive p l (burnLanded s)).notices = s.notices.create []
      (.pageEnded ({ p with copiesDone := p.copiesDone + 1 }.report .done)) := by
    rw [hform, ← hfreedNotices]
    rfl
  generalize burnActive p l (burnLanded s) = B at *
  have hassign := assignBand_keeps B
  have hA := (hB.weaken (d := [.notices, .assets, .composer, .feed, .ring, .engine]) (by decide)).trans
    (hassign.weaken (by decide))
  obtain ⟨hkeeps, haside, hfaces, hsame⟩ := burn_ends_keeps ht
  refine ⟨hring, (hkeeps .composer (by decide)).trans ((hassign .composer (by decide)).trans hcomposer),
    (hkeeps .assets (by decide)).trans ((hassign .assets (by decide)).trans hassets), ?_,
    (LinkAside.of_link (hA .link (by decide))).trans haside, (hA.weaken (by decide)).trans (hkeeps.weaken (by decide))⟩
  rw [hsame, hassign .notices (by decide), hnotices]

end

/-- A page that is not ACTIVE any more: the step alone is called for (R119). -/
theorem burn_inactive {s t : State} (ht : t = choose (callStep .forward (burnLanded s))) : RequestKeeps [.feed] s t := by
  obtain ⟨hkeeps, haside, hnotices⟩ := burn_ends_keeps ht
  exact ⟨((State.onFeed_keeps s _).weaken (by decide)).trans (hkeeps.weaken (by decide)), haside, hnotices⟩

theorem State.page?_unique {s : State} {id : Nat} {p q : Page} (hp : s.page? id = some p) (hq : s.page? id = some q) :
    p = q := Option.some.inj (hp.symm.trans hq)

theorem page?_of_composer {s t : State} (h : t.composer = s.composer) (id : Nat) : t.page? id = s.page? id := by
  rw [State.page?, State.page?, h]

/-- The entries of the table once the page has ended (R13). -/
theorem page?_of_endPage {s t : State} {p : Page} {outcome : PageOutcome} {number : Byte}
    (h : t.composer = s.composer.endPage p outcome number) (id : Nat) :
    t.page? id = if id = p.id then (s.page? id).map fun q => q.endWith outcome number else s.page? id :=
  (congrArg (fun c : Composer => c.pages.find? fun q : Page => q.id = id) h).trans
    (find_changePage p.id id (fun q => q.endWith outcome number) (fun _ => rfl) s.composer.pages)

theorem page?_copied (s : State) (id j : Nat) : (s.changePage id fun q => { q with copiesDone := q.copiesDone + 1 }).page? j =
    if j = id then (s.page? j).map fun q => { q with copiesDone := q.copiesDone + 1 } else s.page? j :=
  State.page?_changePage s id j _ fun _ => rfl

/-- Settles O52: the line by the state of its page, and for an ACTIVE page inside a copy, at the end of a copy and at
the end of the page. -/
theorem burnMovesTheCursor : Obligations.BurnMovesTheCursor := by
  unfold Obligations.BurnMovesTheCursor
  refine ⟨fun s hrun hno => ⟨_, exec_burnCompletion hrun, ?_⟩, fun line s hrun hburn hline =>
    ⟨_, exec_burnCompletion hrun, ?_⟩⟩
  · rw [completeBurn_none hno]
    exact choose_requestKeeps s
  obtain ⟨t, ht⟩ : ∃ t, t = choose (completeBurn s) := ⟨_, rfl⟩
  rw [← ht]
  by_cases hinactive : ∀ p, s.page? line.page = some p → p.state ≠ .active
  · rw [completeBurn_inactive hburn hline hinactive] at ht
    obtain ⟨hsteps, hstate, hedge, hparked, hpending, hhold, hpitch, hcursor, hopen⟩ :=
      burn_ends (s := s) (A := burnLanded s) (n := s.feed.line) (line := s.feed.openLine) rfl ht
    exact ⟨hsteps, hstate, hedge, hparked, hpending, hhold, hpitch,
      fun _ => ⟨hcursor, hopen.trans hline, burn_inactive ht⟩, fun p hp hactive => absurd hactive (hinactive p hp)⟩
  simp only [not_forall, not_not] at hinactive
  obtain ⟨p, hp, hactive⟩ := hinactive
  have hid := State.page?_id hp
  rw [completeBurn_active hburn hline hp hactive] at ht
  have hnot : ¬∀ p, s.page? line.page = some p → p.state ≠ .active := fun h => h p hp hactive
  have hfreed : (burnFreed p line s).ring =
      if line.line % 64 = 63 ∨ line.line + 1 = p.length then
        match s.ring.draining? with
        | some i => { s.ring.setState i .free with order := s.ring.order.filter fun j => j ≠ i }
        | none => s.ring
      else s.ring := by
    rw [burnFreed_ring]
    by_cases hlast : line.line % 64 = 63 ∨ line.line + 1 = p.length
    · rw [if_pos ((lastOfBand_iff _ _).mpr hlast), if_pos hlast]
      cases s.ring.draining? <;> rfl
    · rw [if_neg fun h => hlast ((lastOfBand_iff _ _).mp h), if_neg hlast]
  have hring : t.ring = (assignBand (burnActive p line (burnLanded s))).ring := by
    obtain ⟨hkeeps, -, -⟩ := burn_ends_keeps ht
    exact hkeeps .ring (by decide)
  have hemptied (hB : ∀ i, ((burnFreed p line s).ring.stateOf i).isDraining = false →
      ((burnActive p line (burnLanded s)).ring.stateOf i).isDraining = false)
      (hlast : line.line % 64 = 63 ∨ line.line + 1 = p.length) (i : Fin 4) (hi : s.ring.draining? = some i) :
      (t.ring.stateOf i).isDraining = false := by
    rw [hring]
    exact assignBand_not_draining (hB i (by rw [burnFreed_draining ((lastOfBand_iff _ _).mpr hlast) hi]; rfl))
  by_cases hlength : line.line + 1 = p.length
  · have hBfeed := burnActive_last_feed (s := s) hlength
    have hAfeed := (assignBand_keeps (burnActive p line (burnLanded s)) .feed (by decide)).trans hBfeed
    obtain ⟨hsteps, hstate, hedge, hparked, hpending, hhold, hpitch, hcursor, hopen⟩ := burn_ends hAfeed ht
    refine ⟨hsteps, hstate, hedge, hparked, hpending, hhold, hpitch, fun h => absurd h hnot, fun p' hp' hactive' => ?_⟩
    obtain rfl := State.page?_unique hp hp'
    have hp : s.page? p.id = some p := hid.symm ▸ hp
    have hassigns := burn_assigns (s := s) ht (hcursor.trans (congrArg Feed.line hBfeed).symm)
      ((burnActive_keeps p line (burnLanded s)).1 .engine (by decide))
    intro freed assigns
    have hfreed : (burnFreed p line s).ring = freed := hfreed
    refine ⟨fun h => absurd hlength h, hemptied ?_, fun _ => ⟨hcursor, hopen, ?_, ?_, fun hmore => ?_, fun hdone => ?_⟩⟩
    · by_cases hdone : p.copiesDone + 1 = p.copiesOrdered
      · intro i hi
        rw [(burn_page hp hlength hdone ht).1, BandRing.stateOf_void]
        exact BufferState.void_not_draining hi _
      · intro i hi
        rwa [(burn_copy hp hlength hdone ht).1]
    · intro id hother
      by_cases hdone : p.copiesDone + 1 = p.copiesOrdered
      · obtain ⟨-, hcomposer, -⟩ := burn_page hp hlength hdone ht
        rw [page?_of_endPage hcomposer, if_neg (by rw [hid]; exact hother), page?_copied,
          if_neg (by rw [hid]; exact hother)]
      · obtain ⟨-, hcomposer, -⟩ := burn_copy hp hlength hdone ht
        rw [page?_of_composer hcomposer, page?_copied, if_neg (by rw [hid]; exact hother)]
    · by_cases hdone : p.copiesDone + 1 = p.copiesOrdered
      · rw [(burn_page hp hlength hdone ht).2.1]
        rfl
      · rw [(burn_copy hp hlength hdone ht).2.1]
        rfl
    · obtain ⟨hBring, hcomposer, haside, hkeeps⟩ := burn_copy hp hlength hmore ht
      refine ⟨?_, ?_, ?_, ?_, haside, hkeeps⟩
      · rw [← hid, page?_of_composer hcomposer, page?_copied, if_pos rfl, hp]
        rfl
      · rw [hcomposer]
        rfl
      · rw [hBring, hfreed] at hassigns
        exact hassigns
      · rw [hcomposer]
        rfl
    · obtain ⟨hBring, hcomposer, hassets, hnotices, haside, hkeeps⟩ := burn_page hp hlength hdone ht
      obtain ⟨hnotice, hold⟩ := pageEnded_told hnotices
      refine ⟨?_, ?_, ?_, ?_, ?_, ?_, ?_, hold, haside, hkeeps, s.notices.nextNumber [], ?_, hnotice⟩
      · rw [hcomposer, ← hid]
        rfl
      · rw [hcomposer]
        rfl
      · rw [hcomposer]
        rfl
      · rw [hcomposer]
        rfl
      · rw [hassets]
        rfl
      · rw [hassets, AssetStore.release_blocks]
      · rw [hBring, hid, hfreed] at hassigns
        exact hassigns
      · rw [← hid, page?_of_endPage hcomposer, if_pos rfl, page?_copied, if_pos rfl, hp]
        simp only [Option.map_some, Page.endWith, hactive]
  · obtain ⟨hAfeed, hBring, hBengine, hkeeps⟩ := burn_inside hlength ht
    obtain ⟨hsteps, hstate, hedge, hparked, hpending, hhold, hpitch, hcursor, hopen⟩ :=
      burn_ends (n := line.line + 1) (line := s.feed.openLine) hAfeed ht
    refine ⟨hsteps, hstate, hedge, hparked, hpending, hhold, hpitch, fun h => absurd h hnot, fun p' hp' hactive' => ?_⟩
    obtain rfl := State.page?_unique hp hp'
    refine ⟨fun _ => ⟨hcursor, hopen.trans hline, ?_, hkeeps⟩, hemptied fun i hi => by rwa [hBring],
      fun h => absurd h hlength⟩
    have hassigns := burn_assigns (s := s) ht
      (hcursor.trans (congrArg Feed.line ((assignBand_keeps _ .feed (by decide)).symm.trans hAfeed)).symm) hBengine
    rw [hBring, hfreed] at hassigns
    exact hassigns

end Sys2Proof.Machine
end

section
/-! PROOF. PAGE_CLOSE (R8, R9, R114, R115). -/

namespace Sys2Proof.Machine

/-! ### What a start asks of a ring without a non-void buffer in its order -/

theorem BandRing.oldestReady_none {r : BandRing} (h : r.liveOrder = []) (tag : Tag) : r.oldestReady? tag = none := by
  simp [BandRing.oldestReady?, h]

/-- The buffers and their order stay: the request waits. -/
theorem printLine_buffers {c : State} (h : c.ring.liveOrder = []) :
    (printLine c).ring.buffers = c.ring.buffers ∧ (printLine c).ring.order = c.ring.order := by
  by_cases hd : c.ring.draining?.isSome = true
  · rw [printLine_ring_of_draining hd]
    exact ⟨rfl, rfl⟩
  have hnone : c.ring.draining? = none := by simpa using hd
  cases htag : c.cursorTag? with
  | none =>
    simp only [printLine, hnone, htag]
    exact ⟨rfl, rfl⟩
  | some tag =>
    rw [printLine_requests hnone htag, requestBand_stalls (c := c.enter .printing) (BandRing.oldestReady_none h tag)]
    exact ⟨rfl, rfl⟩

theorem enterSeek_buffers {c : State} (h : c.ring.liveOrder = []) :
    (enterSeek c).ring.buffers = c.ring.buffers ∧ (enterSeek c).ring.order = c.ring.order := by
  unfold enterSeek
  split
  · exact printLine_buffers h
  · rw [callStep_keeps _ _ .ring (by decide)]
    exact ⟨rfl, rfl⟩

theorem start_buffers {c : State} (h : c.ring.liveOrder = []) :
    (start c).ring.buffers = c.ring.buffers ∧ (start c).ring.order = c.ring.order := by
  have hbegun := beginHead_ring c
  unfold start
  dsimp only
  split
  · rw [pauseBackfeed_keeps_feed _ _ _ .ring (by decide), hbegun]
    exact ⟨rfl, rfl⟩
  · split
    · rw [← hbegun] at h ⊢
      exact enterSeek_buffers h
    · rw [callStep_keeps _ _ .ring (by decide), show ((beginHead c).enter .backfeed).ring = (beginHead c).ring from rfl,
        hbegun]
      exact ⟨rfl, rfl⟩

/-- With labels a start asks the ring for nothing (R117). -/
theorem start_ring_of_labels {c : State} (h : c.settings.mediaMode ≠ .continuous) : (start c).ring = c.ring := by
  have hbegun := beginHead_ring c
  unfold start
  dsimp only
  split
  · rw [pauseBackfeed_keeps_feed _ _ _ .ring (by decide), hbegun]
  · split
    · rw [enterSeek, if_neg (by rwa [(beginHead_decided c).settings]), callStep_keeps _ _ .ring (by decide)]
      exact hbegun
    · rw [callStep_keeps _ _ .ring (by decide)]
      exact hbegun

/-! ### PAGE_CLOSE -/

theorem closePage_accepted {rq : Request} {x : State} {id : Nat} {page : Page} (hp : rq.payload = le16 id)
    (hid : id ≤ 65535) (hpage : x.page? id = some page) (hopen : page.state = .opened) :
    closePage rq x = (reportFeed x (assignBand (startDecision (enqueuePage id x))), .ok,
      .pageClose (x.composer.queue.length + 1) (some page.bandCount) (some page.storedCount)
        (longerThanPitch x.feed.pitch page.length x.settings.topOffset)) := by
  have hread : u16At (le16 id) 0 = id := by simpa using u16At_le16_append hid []
  obtain rfl := State.page?_id hpage
  simp [closePage, hp, hread, hpage, hopen, show (le16 page.id).length = 2 from rfl]

theorem enqueuePage_keeps (id : Nat) (x : State) : Keeps [.composer] x (enqueuePage id x) := by
  intro p hp; cases p <;> first | rfl | simp at hp

theorem enqueuePage_page? (id j : Nat) (x : State) : (enqueuePage id x).page? j =
    if j = id then (x.page? j).map fun p => { p with state := .queued } else x.page? j :=
  find_changePage id j (fun p => { p with state := .queued }) (fun _ => rfl) x.composer.pages

/-- The cursor's position once the first page is queued (R98). -/
theorem enqueuePage_cursorTag? {id : Nat} {x : State} {page : Page} (hpage : x.page? id = some page)
    (hqueue : x.composer.queue = []) : (enqueuePage id x).cursorTag? =
      some { page := id, copy := page.copiesDone, band := x.feed.line / 64 } := by
  have hhead : (enqueuePage id x).headPage? = some { page with state := .queued } := by
    show ((x.composer.queue ++ [id]).head?.bind (enqueuePage id x).page?) = _
    rw [hqueue]
    refine (enqueuePage_page? id id x).trans ?_
    rw [if_pos rfl, hpage]
    rfl
  have hid := State.page?_id hpage
  rw [State.cursorTag?, State.cursor?, hhead, ← hid]
  rfl

/-- The first page queued has its first band assigned, when the engine is IDLE and a buffer FREE (R100). -/
theorem assignBand_first {D : State} {i : Fin 4} {tag : Tag} (hidle : D.engine = none) (hlive : D.ring.liveOrder = [])
    (hfree : D.ring.lowestFree? = some i) (htag : D.cursorTag? = some tag) :
    (assignBand D).engine = some { buffer := i, tag := tag, progress := 0 } ∧
      (assignBand D).ring.stateOf i = .filling tag false ∧ (assignBand D).ring.order = D.ring.order ++ [i] := by
  obtain ⟨hengine, horder, -, hstates, -⟩ := (assignBand_assigned D).taken hidle hfree
    (show D.nextBand? = some tag by simp [State.nextBand?, hlive, htag])
  exact ⟨hengine, (hstates i).trans (if_pos rfl), horder⟩

theorem Keeps.except {part : Part} {c : List Part} {s t : State} (h : Keeps (part :: c) s t) (hp : part.same s t) :
    Keeps c s t := by
  intro p hc
  by_cases heq : p = part
  · exact heq ▸ hp
  · exact h p (by simp [heq, hc])

/-- Settles O38: the feed that starts nothing, the first band, and the feed that starts. -/
theorem pageCloseQueues : Obligations.PageCloseQueues := by
  unfold Obligations.PageCloseQueues
  intro seq id page s rq hid hpage hopen htakes
  obtain ⟨x, hx⟩ : ∃ x, x = taken rq s := ⟨_, rfl⟩
  have hfeed : x.feed = s.feed := hx ▸ taken_feed rq s
  have hring : x.ring = s.ring := hx ▸ taken_ring rq s
  have hengine : x.engine = s.engine := hx ▸ taken_engine rq s
  have hcomposer : x.composer = s.composer := hx ▸ taken_composer rq s
  have hsettings : x.settings = s.settings := hx ▸ taken_settings rq s
  have hpageX : x.page? id = some page := by rw [hx, taken_page?, hpage]
  have howner := closePage_accepted (rq := rq) rfl hid hpageX hopen
  have henqueued := enqueuePage_keeps id x
  have hD := (startDecision_decided (enqueuePage id x)).keeps
  have hT := assignBand_keeps (startDecision (enqueuePage id x))
  have hkept : Keeps [.composer, .ring, .engine, .feed] x (assignBand (startDecision (enqueuePage id x))) :=
    ((henqueued.weaken (by decide)).trans (hD.weaken (by decide))).trans (hT.weaken (by decide))
  rw [hx] at howner hkept
  obtain ⟨u, hu, hanswered, hsame, hnotices, haside, hkeeps⟩ :=
    reporting_request closePage htakes howner hkept (by decide) (by decide)
  rw [← hx] at hanswered hsame hnotices
  have hpages := enqueuePage_page? id id x
  have hqueue : (enqueuePage id x).composer.queue = s.composer.queue ++ [id] := by rw [← hcomposer]; rfl
  have hids : (enqueuePage id x).composer.pages.map Page.id = s.composer.pages.map Page.id := by
    rw [← hcomposer]
    exact changePage_ids id (fun p => { p with state := .queued }) (fun _ => rfl) x.composer.pages
  have hEfeed : (enqueuePage id x).feed = s.feed := hfeed
  have hEring : (enqueuePage id x).ring = s.ring := hring
  have hEengine : (enqueuePage id x).engine = s.engine := hengine
  have htag (hempty : s.composer.queue = []) := enqueuePage_cursorTag? hpageX (by rw [hcomposer, hempty])
  generalize enqueuePage id x = E at *
  have hxnotices : NoticesAside s x := hx ▸ taken_notices rq s
  have hxconditions : x.conditions = s.conditions := hx ▸ taken_conditions rq s
  have hEconditions : E.conditions = x.conditions := by
    rw [State.conditions, State.conditions, show E.sensors = x.sensors from henqueued .sensors (by decide)]
  have hdecided := startDecision_decided E
  have hshows : Shows (startDecision E) u := (assignBand_shows _).trans (.of_keeps (hsame.weaken (by decide)))
  have hassigned := assignBand_assigned (startDecision E)
  have huengine : u.engine = (assignBand (startDecision E)).engine := hsame .engine (by decide)
  have huring : u.ring = (assignBand (startDecision E)).ring := hsame .ring (by decide)
  refine ⟨u, congrArg Host.Outcome.next hu, ?_, ?_, ?_, haside, fun hstays => ?_, fun hidle hempty hlive i hi => ?_,
    fun hidle hunheld => ?_⟩
  · rw [hcomposer, hfeed, hsettings] at hanswered
    exact hanswered
  · rw [hshows.composer, hdecided.queue, hqueue]
  · obtain ⟨g, hg, hworked⟩ := hdecided.pages
    rw [hshows.composer, hworked, List.map_map, ← hids]
    refine List.map_congr_left fun p _ => ?_
    rw [Function.comp, (hg p).record]
  · have hsame' : startDecision E = E := if_neg fun ⟨hidle, hmay⟩ => by
      rw [hEfeed] at hidle
      exact ((mayStart_iff E).mp hmay) (.inl (by rw [hEfeed]; exact hstays.resolve_left (not_not.mpr hidle)))
    rw [hsame'] at hshows hassigned huengine huring hnotices
    have hTfeed : (assignBand E).feed = s.feed := (assignBand_keeps E .feed (by decide)).trans hEfeed
    refine ⟨?_, ?_, ?_, hkeeps.weaken (d := [.feed, .link, .notices, .composer, .ring, .engine]) (by decide) |>.except ?_⟩
    · rw [hshows.page?, hpages, if_pos rfl, hpageX]
      rfl
    · have hconditions : (assignBand E).conditions = x.conditions := by
        rw [← hEconditions, State.conditions, State.conditions,
          show (assignBand E).sensors = E.sensors from assignBand_keeps E .sensors (by decide)]
      rw [reportFeed_eq (by rw [hTfeed, hfeed]) hconditions] at hnotices
      refine hxnotices.trans ?_
      rwa [NoticesAside, assignBand_keeps E .notices (by decide), henqueued .notices (by decide)] at hnotices
    · exact hassigned.congr hEengine.symm hEring.symm hshows.composer (congrArg Feed.line hEfeed.symm) huengine huring
    · exact hshows.feed.trans hEfeed
  · have hElive : E.ring.liveOrder = [] := by rw [hEring, hlive]
    have hbuffers : (startDecision E).ring.buffers = E.ring.buffers ∧ (startDecision E).ring.order = E.ring.order := by
      unfold startDecision
      split
      · exact start_buffers hElive
      · exact ⟨rfl, rfl⟩
    obtain ⟨hbuffers, horder⟩ := hbuffers
    have hstate (j : Fin 4) : (startDecision E).ring.stateOf j = s.ring.stateOf j := by
      rw [BandRing.stateOf, hbuffers, ← hEring]
      rfl
    have hidleEngine : (startDecision E).engine = none := by
      rw [hdecided.keeps .engine (by decide), hEengine, hidle]
    have hDlive : (startDecision E).ring.liveOrder = [] := by
      rw [← hlive, BandRing.liveOrder, BandRing.liveOrder, horder, hEring]
      simp only [hstate]
    have hDfree : (startDecision E).ring.lowestFree? = some i := by
      rw [← hi, BandRing.lowestFree?, BandRing.lowestFree?]
      simp only [hstate]
    obtain ⟨hfirst, hfilling, hlast⟩ := assignBand_first hidleEngine hDlive hDfree
      (hdecided.cursorTag?.trans (htag hempty))
    rw [huengine, huring, ← hfeed, ← hEring, ← horder]
    exact ⟨hfirst, hfilling, hlast⟩
  · have hmay : mayStart E = true := (mayStart_iff E).mpr (by rw [hEfeed, hunheld, hqueue]; simp)
    have hstarts : startDecision E = start E := if_pos ⟨by rw [hEfeed, hidle], hmay⟩
    rw [hstarts] at hshows hassigned huengine huring hdecided
    have hstarted := start_started hshows (tells_of_reporting hsame hnotices (by rw [hfeed, hidle]; rfl))
    rw [hEfeed, hEring] at hstarted
    refine ⟨?_, hstarted.1, hstarted, fun hmode => ?_, hkeeps.weaken (by decide)⟩
    · rw [hshows.feed]
      exact start_not_idle E
    · have hlabels : (start E).ring = E.ring :=
        start_ring_of_labels (by rw [show E.settings = x.settings from henqueued .settings (by decide), hsettings]; exact hmode)
      exact hassigned.congr (by rw [hdecided.keeps .engine (by decide), hEengine]; rfl) (by rw [hlabels, hEring]; rfl)
        hshows.composer (by rw [hdecided.line, hEfeed]; rfl) huengine huring

end Sys2Proof.Machine
end

section
/-! PROOF. PAGE_CANCEL (R13, R15, R65, R106, R131, R150). -/

namespace Sys2Proof.Machine

/-! ### What a decision asks of the ring -/

/-- What a decision of the feed does to the ring: it takes a READY buffer to drain, or its request waits for the
cursor's position (R102). -/
structure Asked (s t : State) : Prop where
  states : ∀ i, t.ring.stateOf i = s.ring.stateOf i ∨
    ∃ tag, s.ring.stateOf i = .ready tag ∧ t.ring.stateOf i = .draining tag
  waiting : t.ring.waiting = s.ring.waiting ∨ t.ring.waiting = s.cursorTag?
  cursorTag : t.cursorTag? = s.cursorTag?

namespace Asked

theorem of_ring {s t : State} (hring : t.ring = s.ring) (hcursor : t.cursorTag? = s.cursorTag?) : Asked s t :=
  ⟨fun i => .inl (by rw [hring]), .inl (by rw [hring]), hcursor⟩

theorem refl (s : State) : Asked s s := .of_ring rfl rfl

theorem trans {s t u : State} (h : Asked s t) (h' : Asked t u) : Asked s u := by
  refine ⟨fun i => ?_, ?_, h'.cursorTag.trans h.cursorTag⟩
  · obtain hsame | ⟨tag, hready, hdraining⟩ := h.states i
    · rw [← hsame]
      exact h'.states i
    · obtain hsame' | ⟨tag', hready', -⟩ := h'.states i
      · exact .inr ⟨tag, hready, hsame'.trans hdraining⟩
      · simp [hdraining] at hready'
  · obtain hsame | hcursor := h'.waiting
    · rw [hsame]
      exact h.waiting
    · exact .inr (hcursor.trans h.cursorTag)

end Asked

theorem Decided.asked {s t : State} (h : Decided s t) (hring : t.ring = s.ring) : Asked s t :=
  .of_ring hring h.cursorTag?

theorem BandRing.oldestReady_found {r : BandRing} {tag : Tag} {i : Fin 4} (h : r.oldestReady? tag = some i) :
    r.stateOf i = .ready tag := by
  unfold BandRing.oldestReady? at h
  split at h
  · split at h
    next hready => exact Option.some.inj h ▸ hready
    · cases h
  · cases h

theorem requestBand_asked {s : State} {tag : Tag} (htag : s.cursorTag? = some tag) : Asked s (requestBand tag s) := by
  have hcursor := (requestBand_decided tag s).cursorTag?
  cases hready : s.ring.oldestReady? tag with
  | some i =>
    have hring : (requestBand tag s).ring = s.ring.setState i (.draining tag) := by
      rw [requestBand_granted hready]
      exact (callBurn_keeps _) .ring (by decide)
    refine ⟨fun j => ?_, .inl (by rw [hring]; rfl), hcursor⟩
    rw [hring, BandRing.stateOf_setState]
    split
    next hij => exact .inr ⟨tag, hij ▸ BandRing.oldestReady_found hready, rfl⟩
    · exact .inl rfl
  | none =>
    have hring : (requestBand tag s).ring = { s.ring with waiting := some tag } := by rw [requestBand_stalls hready]; rfl
    exact ⟨fun j => .inl (by rw [hring]; rfl), .inr (by rw [hring, htag]), hcursor⟩

theorem printLine_asked (s : State) : Asked s (printLine s) := by
  have hdecided := printLine_decided s
  by_cases hd : s.ring.draining?.isSome = true
  · exact hdecided.asked (printLine_ring_of_draining hd)
  have hnone : s.ring.draining? = none := by simpa using hd
  have hentered : Asked s (s.enter .printing) := .of_ring rfl rfl
  cases htag : s.cursorTag? with
  | none => exact hdecided.asked (by simp only [printLine, hnone, htag]; rfl)
  | some tag =>
    rw [printLine_requests hnone htag]
    exact hentered.trans (requestBand_asked htag)

theorem enterSeek_asked (s : State) : Asked s (enterSeek s) := by
  have hdecided := enterSeek_decided s
  unfold enterSeek at hdecided ⊢
  split
  · exact printLine_asked s
  next hmode =>
    rw [if_neg hmode] at hdecided
    exact hdecided.asked (callStep_keeps _ _ .ring (by decide))

theorem beginHead_asked (s : State) : Asked s (beginHead s) := (beginHead_decided s).asked (beginHead_ring s)

theorem start_asked (s : State) : Asked s (start s) := by
  refine (beginHead_asked s).trans ?_
  unfold start
  dsimp only
  split
  · exact (pauseBackfeed_decided _ _ _).asked (pauseBackfeed_keeps_feed _ _ _ .ring (by decide))
  · split
    · exact enterSeek_asked _
    · exact ((State.enter_decided _ _).trans (callStep_decided _ _)).asked (callStep_keeps _ _ .ring (by decide))

theorem goIdle_asked (s : State) : Asked s (goIdle s) := .of_ring rfl rfl

theorem startOrIdle_asked (s : State) : Asked s (startOrIdle s) := by
  unfold startOrIdle
  split
  · exact start_asked s
  · exact goIdle_asked s

theorem enterIdle_asked (s : State) : Asked s (enterIdle s) := by
  rw [enterIdle_eq]
  split
  · exact (goIdle_asked s).trans (start_asked _)
  · exact goIdle_asked s

theorem enterTrailing_asked (s : State) : Asked s (enterTrailing s) := by
  have hdecided := enterTrailing_decided s
  unfold enterTrailing at hdecided ⊢
  split
  · exact enterIdle_asked s
  next htear =>
    rw [if_neg htear] at hdecided
    exact hdecided.asked (callStep_keeps _ _ .ring (by decide))

/-- With labels no decision that stops a page asks anything of the ring (R117). -/
theorem enterIdle_ring_of_labels {s : State} (h : s.settings.mediaMode ≠ .continuous) : (enterIdle s).ring = s.ring := by
  rw [enterIdle_eq]
  split
  · exact start_ring_of_labels (c := goIdle s) h
  · rfl

theorem startOrIdle_ring_of_labels {s : State} (h : s.settings.mediaMode ≠ .continuous) :
    (startOrIdle s).ring = s.ring := by
  unfold startOrIdle
  split
  · exact start_ring_of_labels h
  · rfl

theorem enterTrailing_ring_of_labels {s : State} (h : s.settings.mediaMode ≠ .continuous) :
    (enterTrailing s).ring = s.ring := by
  unfold enterTrailing
  split
  · exact enterIdle_ring_of_labels h
  · exact callStep_keeps _ _ .ring (by decide)

/-! ### The boundary that a cancel takes at once (R112, R131) -/

/-- The feed works towards or in a copy, moving (R131). -/
def FeedState.cancellable : FeedState → Bool
  | .backfeed => true
  | .seekSearch _ _ => true
  | .seekOffset _ => true
  | .printing => true
  | .idle | .stalled | .trailing _ | .moving _ _ _ | .calibrating _ _ _ _ _ | .paused _ _ => false

/-- A boundary with a cancel pending: a reset overrides it, and otherwise the start decision is taken, or the feed
trails or pauses there. -/
theorem atBoundary_cancel {s : State} (hcancel : s.feed.pending.cancel = true) (hstate : s.feed.state.cancellable = true)
    (e d : Bool) :
    (∃ scope, atBoundary e d s = enterIdle (unparkedFor scope (spent s))) ∨ atBoundary e d s = startOrIdle (spent s) ∨
      (∃ j c r, atBoundary e d s = pauseTrail j c r (spent s)) ∨ atBoundary e d s = enterTrailing (spent s) := by
  have hstill : (spent s).feed.state.motionKey? = none := by
    show s.feed.state.motionKey? = none
    cases hs : s.feed.state <;> simp [hs, FeedState.cancellable] at hstate <;> rfl
  cases hreset : s.feed.pending.reset with
  | some scope => exact .inl ⟨scope, by rw [atBoundary_reset _ _ hreset, stopForReset_of_still hstill]⟩
  | none =>
    cases hs : s.feed.state with
    | idle | stalled | trailing | moving | calibrating | paused => simp [hs, FeedState.cancellable] at hstate
    | backfeed => exact .inr (.inl (by rw [atBoundary_backfeed _ _ hreset hs, boundaryBackfeed, if_pos hcancel]))
    | seekSearch => exact .inr (.inl (by rw [atBoundary_search _ _ hreset hs, boundarySearch, if_pos hcancel]))
    | seekOffset => exact .inr (.inl (by rw [atBoundary_offset _ _ hreset hs, boundaryOffset, if_pos hcancel]))
    | printing =>
      rw [atBoundary_printing _ _ hreset hs, boundaryPrinting, if_pos hcancel]
      split
      · exact .inr (.inr (.inl ⟨_, _, _, rfl⟩))
      · exact .inr (.inr (.inr rfl))

/-! ### The reaction to the cancel of the ACTIVE page -/

/-- What the reaction leaves alone, and what it does to the ring. -/
structure Reacted (s t : State) : Prop where
  keeps : Keeps feedParts s t
  line : t.feed.line = s.feed.line
  hold : t.feed.hold = s.feed.hold
  composer : t.composer = { s.composer with pages := t.composer.pages }
  pages : ∃ g : Page → Page, (∀ p : Page, p.Worked (g p)) ∧ t.composer.pages = s.composer.pages.map g
  asked : Asked s t
  labels : s.settings.mediaMode ≠ .continuous → t.ring = s.ring

namespace Reacted

theorem trans {s t u : State} (h : Reacted s t) (h' : Reacted t u) : Reacted s u := by
  obtain ⟨g, hg, hpages⟩ := h.pages
  obtain ⟨g', hg', hpages'⟩ := h'.pages
  refine ⟨h.keeps.trans h'.keeps, h'.line.trans h.line, h'.hold.trans h.hold, ?_,
    ⟨g' ∘ g, fun p => (hg p).trans (hg' (g p)), ?_⟩, h.asked.trans h'.asked, fun hmode => ?_⟩
  · rw [h'.composer, h.composer]
  · rw [hpages', hpages, List.map_map]
  · rw [h'.labels (by rwa [h.keeps .settings (by decide)]), h.labels hmode]

theorem of_decided {s t : State} (h : Decided s t) (hasked : Asked s t)
    (hlabels : s.settings.mediaMode ≠ .continuous → t.ring = s.ring) : Reacted s t :=
  ⟨h.keeps, h.line, h.hold, h.composer, h.pages, hasked, hlabels⟩

theorem of_feed {s : State} {f : Feed → Feed} (hline : (f s.feed).line = s.feed.line)
    (hhold : (f s.feed).hold = s.feed.hold) : Reacted s (s.onFeed f) := by
  have hcursor : (s.onFeed f).cursorTag? = s.cursorTag? := by
    rw [State.cursorTag?, State.cursorTag?]
    congr 1
    exact cursor?_of_pages rfl hline fun _ => rfl
  exact ⟨(State.onFeed_keeps s f).weaken (by decide), hline, hhold, rfl,
    ⟨id, Page.Worked.refl, (List.map_id _).symm⟩, .of_ring rfl hcursor, fun _ => rfl⟩

theorem page? {s t : State} (h : Reacted s t) :
    ∃ g : Page → Page, (∀ p : Page, p.Worked (g p)) ∧ ∀ id, t.page? id = (s.page? id).map g := by
  obtain ⟨g, hg, hpages⟩ := h.pages
  have hid (p : Page) : (g p).id = p.id := by rw [(hg p).record]
  refine ⟨g, hg, fun id => ?_⟩
  rw [State.page?, hpages, List.find?_map]
  simp only [Function.comp_def, hid]
  rfl

end Reacted

theorem enterIdle_reacted (s : State) : Reacted s (enterIdle s) :=
  .of_decided (enterIdle_decided s) (enterIdle_asked s) enterIdle_ring_of_labels

theorem startOrIdle_reacted (s : State) : Reacted s (startOrIdle s) :=
  .of_decided (startOrIdle_decided s) (startOrIdle_asked s) startOrIdle_ring_of_labels

theorem enterTrailing_reacted (s : State) : Reacted s (enterTrailing s) :=
  .of_decided (enterTrailing_decided s) (enterTrailing_asked s) enterTrailing_ring_of_labels

theorem pauseTrail_reacted (j c r) (s : State) : Reacted s (pauseTrail j c r s) :=
  have hring := pauseTrail_keeps_feed j c r s .ring (by decide)
  .of_decided (pauseTrail_decided j c r s) ((pauseTrail_decided j c r s).asked hring) fun _ => hring

theorem unparkedFor_reacted (scope) (s : State) : Reacted s (unparkedFor scope s) := by
  unfold unparkedFor
  split
  · exact .of_feed rfl rfl
  · exact .of_decided (Decided.refl s) (Asked.refl s) fun _ => rfl

theorem atBoundary_cancel_reacted {s : State} (hcancel : s.feed.pending.cancel = true)
    (hstate : s.feed.state.cancellable = true) (e d : Bool) : Reacted s (atBoundary e d s) := by
  have hspent : Reacted s (spent s) := .of_feed rfl rfl
  refine hspent.trans ?_
  obtain ⟨scope, h⟩ | h | ⟨j, c, r, h⟩ | h := atBoundary_cancel hcancel hstate e d <;> rw [h]
  · exact (unparkedFor_reacted scope _).trans (enterIdle_reacted _)
  · exact startOrIdle_reacted _
  · exact pauseTrail_reacted _ _ _ _
  · exact enterTrailing_reacted _

/-- The part with the cancel pending (R131). -/
def cancelPending (s : State) : State := s.onFeed fun f => { f with pending := { f.pending with cancel := true } }

theorem recordCancel_reacted {s : State} (hstate : s.feed.state.cancellable = true) : Reacted s (recordCancel s) := by
  have hpending : Reacted s (cancelPending s) := .of_feed rfl rfl
  show Reacted s (actIfStanding (cancelPending s))
  unfold actIfStanding
  split
  · exact hpending.trans (atBoundary_cancel_reacted (s := cancelPending s) rfl hstate _ _)
  · exact hpending

theorem cancelActs_reacted (id : Nat) (s : State) : Reacted s (cancelActs id s) := by
  have hsame : Reacted s s := .of_decided (Decided.refl s) (Asked.refl s) fun _ => rfl
  cases hstate : s.feed.state <;> simp only [cancelActs, hstate]
  case idle | trailing | moving | calibrating => exact hsame
  case backfeed | seekSearch | seekOffset | printing => exact recordCancel_reacted (by rw [hstate]; rfl)
  case stalled => exact enterTrailing_reacted s
  case paused => exact .of_feed rfl rfl

/-! ### The page gone -/

/-- The part once the cancelled page has ended and the cursor has left it (R13, R131). -/
def pageGone (page : Page) (x : State) : State :=
  dropCursor (decide (x.composer.queue.head? = some page.id)) (endPage page .cancelled x)

section

variable (page : Page) (x : State)

theorem dropCursor_keeps (wasHead : Bool) (s : State) : Keeps [.feed] s (dropCursor wasHead s) := by
  unfold dropCursor
  split
  · exact State.onFeed_keeps s _
  · exact Keeps.refl _ _

theorem pageGone_keeps : Keeps [.composer, .assets, .notices, .ring, .feed] x (pageGone page x) :=
  ((endPage_keeps page .cancelled x).weaken (by decide)).trans ((dropCursor_keeps _ _).weaken (by decide))

theorem pageGone_feed : (pageGone page x).feed =
    { x.feed with line := if x.composer.queue.head? = some page.id then 0 else x.feed.line } := by
  unfold pageGone dropCursor
  by_cases h : x.composer.queue.head? = some page.id
  · rw [if_pos h, if_pos (decide_eq_true h)]
    rfl
  · rw [if_neg h, if_neg (by simp [h])]
    rfl

theorem pageGone_ring : (pageGone page x).ring = x.ring.void fun tag => decide (tag.page = page.id) :=
  dropCursor_keeps _ _ .ring (by decide)

theorem pageGone_composer : (pageGone page x).composer =
    x.composer.endPage page .cancelled (x.notices.nextNumber []) :=
  dropCursor_keeps _ _ .composer (by decide)

theorem pageGone_notices : (pageGone page x).notices =
    x.notices.create [] (.pageEnded (page.report .cancelled)) :=
  dropCursor_keeps _ _ .notices (by decide)

end

theorem cancelPage_accepted {rq : Request} {x : State} {id : Nat} {page : Page} (hp : rq.payload = le16 id)
    (hid : id ≤ 65535) (hpage : x.page? id = some page) (hlive : page.state ≠ .ended) :
    cancelPage rq x = (reportFeed x (assignBand
      (if page.state = .active then cancelActs page.id (pageGone page x) else pageGone page x)), .ok,
      .pageCancel (some page.state) (some page.copiesDone)) := by
  have hread : u16At (le16 id) 0 = id := by simpa using u16At_le16_append hid []
  simp only [cancelPage, hp, hread, hpage, if_neg hlive, show (le16 id).length = 2 from rfl]
  rfl

theorem pageBehind_mem {queue : List Nat} {id next : Nat} (h : pageBehind queue id = some next) : next ∈ queue := by
  induction queue with
  | nil => simp [pageBehind] at h
  | cons a rest ih =>
    cases rest with
    | nil => simp [pageBehind] at h
    | cons b rest =>
      unfold pageBehind at h
      split at h
      · simp [← Option.some.inj h]
      · exact List.mem_cons_of_mem _ (ih h)

theorem cursorTag?_mem {s : State} {tag : Tag} (h : s.cursorTag? = some tag) : tag.page ∈ s.composer.queue := by
  unfold State.cursorTag? State.cursor? State.headPage? at h
  rw [Option.map_map] at h
  obtain ⟨p, hp, rfl⟩ := Option.map_eq_some_iff.mp h
  obtain ⟨id, hhead, hfound⟩ := Option.bind_eq_some_iff.mp hp
  obtain rfl := State.page?_id hfound
  exact List.mem_of_mem_head? hhead

/-- The next band is of a page that a non-void buffer holds, or of a queued one (R97, R100). -/
theorem nextBand?_page {s : State} {next : Tag} (h : s.nextBand? = some next) :
    next.page ∈ s.composer.queue ∨
      ∃ i tag, (s.ring.stateOf i).live = true ∧ (s.ring.stateOf i).tag? = some tag ∧ next.page = tag.page := by
  unfold State.nextBand? at h
  split at h
  next i hi =>
    obtain ⟨tag, htag, hafter⟩ := Option.bind_eq_some_iff.mp h
    have hlive : (s.ring.stateOf i).live = true := (List.mem_filter.mp (List.mem_of_getLast? hi)).2
    unfold State.positionAfter? at hafter
    split at hafter
    · cases hafter
    · split at hafter
      · exact .inr ⟨i, tag, hlive, htag, by rw [← Option.some.inj hafter]⟩
      · split at hafter
        · exact .inr ⟨i, tag, hlive, htag, by rw [← Option.some.inj hafter]⟩
        · obtain ⟨id, hbehind, hfirst⟩ := Option.bind_eq_some_iff.mp hafter
          obtain ⟨p, -, rfl⟩ := Option.map_eq_some_iff.mp hfirst
          exact .inl (pageBehind_mem hbehind)
  · exact .inl (cursorTag?_mem h)

/-- The non-void buffers hold no band of a page, and no band of it is waited for. -/
def RingFreeOf (id : Nat) (s : State) : Prop :=
  (∀ i tag, (s.ring.stateOf i).live = true → (s.ring.stateOf i).tag? = some tag → tag.page ≠ id) ∧
    s.ring.waiting.all (fun tag => decide (tag.page ≠ id)) = true

theorem pageGone_ringFree (page : Page) (x : State) : RingFreeOf page.id (pageGone page x) := by
  rw [RingFreeOf, pageGone_ring]
  refine ⟨fun i tag hlive htag => ?_, ?_⟩
  · rw [BandRing.stateOf_void] at hlive htag
    obtain ⟨hsame, -, hpick⟩ := BufferState.live_of_void hlive
    rw [hsame] at htag
    simpa using hpick tag htag
  · rw [BandRing.void_waiting]
    cases x.ring.waiting with
    | none => rfl
    | some tag => simp

theorem Asked.ringFree {s t : State} {id : Nat} (h : Asked s t) (hs : RingFreeOf id s) (hqueue : id ∉ s.composer.queue) :
    RingFreeOf id t := by
  obtain ⟨hbuffers, hwaiting⟩ := hs
  refine ⟨fun i tag hlive htag => ?_, ?_⟩
  · obtain hsame | ⟨tag', hready, hdraining⟩ := h.states i
    · rw [hsame] at hlive htag
      exact hbuffers i tag hlive htag
    · rw [hdraining] at htag
      obtain rfl : tag' = tag := Option.some.inj htag
      exact hbuffers i tag' (by rw [hready]; rfl) (by rw [hready]; rfl)
  · obtain hsame | hcursor := h.waiting
    · rw [hsame, hwaiting]
    · rw [hcursor]
      cases htag : s.cursorTag? with
      | none => rfl
      | some tag =>
        have hmem := cursorTag?_mem htag
        simp only [Option.all_some, decide_eq_true_eq]
        exact fun heq => hqueue (heq ▸ hmem)

theorem assignBand_ringFree {s : State} {id : Nat} (hs : RingFreeOf id s) (hqueue : id ∉ s.composer.queue) :
    RingFreeOf id (assignBand s) := by
  obtain hsame | ⟨j, next, -, -, hnext, hassign⟩ := assignBand_cases s
  · rwa [hsame]
  · have hne : next.page ≠ id := by
      obtain hmem | ⟨i, tag, hlive, htag, hpage⟩ := nextBand?_page hnext
      · exact fun heq => hqueue (heq ▸ hmem)
      · rw [hpage]
        exact hs.1 i tag hlive htag
    rw [RingFreeOf, hassign]
    refine ⟨fun i tag hlive htag => ?_, hs.2⟩
    simp only [State.withEngine_ring, State.withRing_ring, BandRing.stateOf_assign] at hlive htag
    by_cases hij : j = i
    · rw [if_pos hij] at htag
      obtain rfl : next = tag := Option.some.inj htag
      exact hne
    · rw [if_neg hij] at hlive htag
      exact hs.1 i tag hlive htag

/-- A PAGE_ENDED notice stays when FEED_STATE is handed over (R197). -/
theorem reportFeed_pageEnded {before s : State} {n : Notice} (hn : n ∈ s.notices.entries) {report : PageReport}
    (h : n.content = .pageEnded report) : n ∈ (reportFeed before s).notices.entries := by
  unfold reportFeed
  split
  · show n ∈ (s.notices.feedState s.feedReport).entries
    unfold NoticeQueue.feedState
    split
    · refine List.mem_map.mpr ⟨n, hn, if_neg ?_⟩
      simp [Notice.isFeedState, h, NoticeContent.kind]
    · rw [NoticeQueue.create_entries]
      exact List.mem_append_left _ hn
  · exact hn

/-! ### What the reaction decides -/

theorem recordCancel_waits {g : State} (h : g.feed.standing = false) : recordCancel g = cancelPending g :=
  actIfStanding_of_not_standing (s := cancelPending g) h

theorem recordCancel_acts {g : State} (h : g.feed.standing = true) :
    recordCancel g = atBoundary false false (cancelPending g) :=
  actIfStanding_of_standing (s := cancelPending g) h (by simp [PendingStops.any, cancelPending])

/-- The start decision, told by the hold flag and the queue. -/
theorem startsUnlessHeld_of {f : Feed} {r : BandRing} {u : State} {hold : Bool} (h : StartsOrIdles f r u)
    (hhold : u.feed.hold = hold) (hidle : u.feed.state = .idle ↔ u.feed.hold = true ∨ u.composer.queue = []) :
    StartsOrIdles f r u ∧ (hold = true ∨ u.composer.queue = [] → u.feed.state = .idle) ∧
      (hold = false → u.composer.queue ≠ [] → u.feed.state ≠ .idle ∧ ∀ head ∈ u.headPage?, head.state ≠ .queued) := by
  rw [hhold] at hidle
  refine ⟨h, hidle.mpr, fun hunheld hsome => ?_⟩
  have hno : ¬(u.feed.hold = true ∨ u.composer.queue = []) := by
    rw [hhold, hunheld]
    simp [hsome]
  exact ⟨fun hstands => hno (by rw [hhold]; exact hidle.mp hstands), (started_of_startsOrIdles h hno).1⟩

theorem startOrIdle_unlessHeld {c u : State} (h : Shows (startOrIdle c) u) (htold : Tells u) :
    StartsOrIdles c.feed c.ring u ∧ (c.feed.hold = true ∨ u.composer.queue = [] → u.feed.state = .idle) ∧
      (c.feed.hold = false → u.composer.queue ≠ [] →
        u.feed.state ≠ .idle ∧ ∀ head ∈ u.headPage?, head.state ≠ .queued) := by
  have hdecided := startOrIdle_decided c
  have hhold : u.feed.hold = c.feed.hold := by rw [h.feed, hdecided.hold]
  refine startsUnlessHeld_of (startOrIdle_startsOrIdles h htold) hhold ?_
  rw [hhold, h.composer, hdecided.queue, h.feed]
  exact startOrIdle_idle_iff c

theorem enterIdle_unlessHeld {c u : State} (h : Shows (enterIdle c) u) (htold : Tells u) :
    StartsOrIdles c.feed c.ring u ∧ (c.feed.hold = true ∨ u.composer.queue = [] → u.feed.state = .idle) ∧
      (c.feed.hold = false → u.composer.queue ≠ [] →
        u.feed.state ≠ .idle ∧ ∀ head ∈ u.headPage?, head.state ≠ .queued) := by
  have hdecided := enterIdle_decided c
  have hhold : u.feed.hold = c.feed.hold := by rw [h.feed, hdecided.hold]
  refine startsUnlessHeld_of (enterIdle_startsOrIdles h htold) hhold ?_
  rw [hhold, h.composer, hdecided.queue, h.feed]
  exact enterIdle_idle_iff c

theorem Steps.calls {d : Direction} {f : Feed} {t : State} (h : Steps d f t) :
    t.feed.inFlight = .step d ∨ t.feed.called = some (.step d) := by
  unfold Steps at h
  split at h
  · exact .inl h.1
  · exact .inr h.2

/-- TRAILING with a tear offset, and the start decision without (R124, R131). -/
theorem enterTrailing_told {c u : State} (h : Shows (enterTrailing c) u) (htold : Tells u) :
    Trails c.feed c.ring u ∧
      (0 < c.settings.tearOffset → u.feed.state = .trailing c.settings.tearOffset ∧
        (u.feed.inFlight = .step .forward ∨ u.feed.called = some (.step .forward))) ∧
      (c.settings.tearOffset = 0 →
        StartsOrIdles c.feed c.ring u ∧ (c.feed.hold = true ∨ u.composer.queue = [] → u.feed.state = .idle) ∧
          (c.feed.hold = false → u.composer.queue ≠ [] →
            u.feed.state ≠ .idle ∧ ∀ head ∈ u.headPage?, head.state ≠ .queued)) := by
  refine ⟨enterTrailing_trails h htold, fun hsome => ?_, fun hzero => ?_⟩
  · rw [enterTrailing, if_neg (by omega)] at h
    obtain ⟨hstate, hsteps, -⟩ := callStep_enters h
    exact ⟨hstate, hsteps.calls⟩
  · rw [enterTrailing, if_pos hzero] at h
    exact enterIdle_unlessHeld h htold

/-- Settles O39: the page gone, the ring, and the reaction of the feed by its state. -/
theorem pageCancelEndsThePage : Obligations.PageCancelEndsThePage := by
  unfold Obligations.PageCancelEndsThePage
  intro seq id page s rq kept voided startsUnlessHeld trails hid hpage hlive htakes
  obtain ⟨x, hx⟩ : ∃ x, x = taken rq s := ⟨_, rfl⟩
  have hpageX : x.page? id = some page := by rw [hx, taken_page?, hpage]
  have hpageId := State.page?_id hpage
  have howner := cancelPage_accepted (rq := rq) rfl hid hpageX hlive
  have hfeedX : x.feed = s.feed := hx ▸ taken_feed rq s
  have hringX : x.ring = s.ring := hx ▸ taken_ring rq s
  have hengineX : x.engine = s.engine := hx ▸ taken_engine rq s
  have hcomposerX : x.composer = s.composer := hx ▸ taken_composer rq s
  have hsettingsX : x.settings = s.settings := hx ▸ taken_settings rq s
  have hgkeeps := pageGone_keeps page x
  have hgfeed := pageGone_feed page x
  rw [hfeedX, hcomposerX, hpageId] at hgfeed
  have hgfeed : (pageGone page x).feed = kept := hgfeed
  have hgring := pageGone_ring page x
  rw [hringX, hpageId] at hgring
  have hgring : (pageGone page x).ring = voided := hgring
  have hgcomposer := pageGone_composer page x
  have hgnotices := pageGone_notices page x
  have hgfree := pageGone_ringFree page x
  have hgpage := page?_of_endPage hgcomposer id
  rw [if_pos hpageId.symm, hpageX] at hgpage
  have hgengine : (pageGone page x).engine = s.engine := (hgkeeps .engine (by decide)).trans hengineX
  have hgsettings : (pageGone page x).settings = s.settings := (hgkeeps .settings (by decide)).trans hsettingsX
  rw [hpageId] at howner hgfree
  rw [hcomposerX] at hgcomposer
  generalize pageGone page x = g at *
  have hreacted : Reacted g (if page.state = .active then cancelActs id g else g) := by
    split
    · exact cancelActs_reacted id g
    · exact .of_decided (Decided.refl g) (Asked.refl g) fun _ => rfl
  obtain ⟨R, hR⟩ : ∃ R, R = if page.state = .active then cancelActs id g else g := ⟨_, rfl⟩
  rw [← hR] at howner hreacted
  have hassign := assignBand_keeps R
  have hkept : Keeps [.composer, .assets, .notices, .ring, .feed, .engine] x (assignBand R) :=
    ((hgkeeps.weaken (by decide)).trans (hreacted.keeps.weaken (by decide))).trans (hassign.weaken (by decide))
  rw [hx] at howner hkept
  obtain ⟨u, hu, hanswered, hsame, hnotices, haside, hkeeps⟩ :=
    reporting_request cancelPage htakes howner hkept (by decide) (by decide)
  rw [← hx] at hnotices
  have hshows : Shows R u := (assignBand_shows R).trans (.of_keeps (hsame.weaken (by decide)))
  have huring : u.ring = (assignBand R).ring := hsame .ring (by decide)
  have hqueueG : g.composer.queue = s.composer.queue.filter (fun j => j ≠ id) := by rw [hgcomposer, ← hpageId]; rfl
  have hRcomposer := hreacted.composer
  have hqueue : R.composer.queue = g.composer.queue := by rw [hRcomposer]
  have hgone : id ∉ g.composer.queue := by rw [hqueueG]; simp
  have hringFree : RingFreeOf id (assignBand R) :=
    assignBand_ringFree (hreacted.asked.ringFree hgfree hgone) (by rwa [hqueue])
  have hTnotices : (assignBand R).notices = x.notices.create [] (.pageEnded (page.report .cancelled)) := by
    rw [hassign .notices (by decide), hreacted.keeps .notices (by decide), hgnotices]
  have htells (h : s.feed.state.paused? = none) : Tells u := tells_of_reporting hsame hnotices (by rw [hfeedX, h])
  refine ⟨u, congrArg Host.Outcome.next hu, hanswered, ⟨x.notices.nextNumber [], ?_, ?_⟩, ?_, ?_, ?_, ?_, ?_, ?_, ?_,
    fun hcase => ?_, fun hinactive => ?_, fun hactive => ?_, haside, hkeeps.weaken (by decide)⟩
  · obtain ⟨f, hf, hpages⟩ := hreacted.page?
    rw [hshows.page?, hpages, hgpage, Option.map_some, Option.map_some, (hf _).ended rfl]
    rfl
  · have hmem : ({ number := x.notices.nextNumber [], revision := 0, content := .pageEnded (page.report .cancelled),
                   sent := false, lastSending := none } : Notice) ∈ (assignBand R).notices.entries := by
      rw [hTnotices, NoticeQueue.create_entries]
      exact List.mem_append_right _ (List.mem_singleton.mpr rfl)
    have hface : _ ∈ u.notices.entries.map Notice.face :=
      hnotices.2 ▸ List.mem_map_of_mem (reportFeed_pageEnded (before := x) hmem rfl)
    obtain ⟨n, hn, hsameFace⟩ := List.mem_map.mp hface
    exact ⟨n, hn, congrArg (fun f => f.1) hsameFace, congrArg (fun f => f.2.1) hsameFace,
      congrArg (fun f => f.2.2) hsameFace⟩
  · rw [hshows.composer, hqueue, hqueueG]
  · rw [hshows.composer, hRcomposer, hgcomposer]
    rfl
  · rw [hshows.composer, hRcomposer, hgcomposer]
    rfl
  · rw [hshows.composer, hRcomposer, hgcomposer]
    rfl
  · rw [hshows.composer, hRcomposer, hgcomposer]
    rfl
  · rw [huring]
    exact hringFree.1
  · rw [huring]
    exact hringFree.2
  · have hRring : R.ring = voided := by
      obtain hinactive | hlabels := hcase
      · rw [hR, if_neg hinactive, hgring]
      · rw [hreacted.labels (by rwa [hgsettings]), hgring]
    exact (assignBand_assigned R).congr ((hreacted.keeps .engine (by decide)).trans hgengine).symm hRring.symm
      hshows.composer (congrArg Feed.line hshows.feed) (hsame .engine (by decide)) huring
  · rw [hshows.feed, hR, if_neg hinactive, hgfeed]
  · rw [if_pos hactive] at hR
    have hgstate : g.feed.state = s.feed.state := by rw [hgfeed]
    have hgstanding : g.feed.standing = s.feed.standing := by rw [hgfeed]; rfl
    have hwaits (hrecords : cancelActs id g = recordCancel g) (hstanding : s.feed.standing = false) :
        u.feed = { kept with pending := { s.feed.pending with cancel := true } } := by
      rw [hshows.feed, hR, hrecords, recordCancel_waits (hgstanding.trans hstanding), cancelPending, State.onFeed_feed,
        hgfeed]
    have hacts (hrecords : cancelActs id g = recordCancel g) (hstanding : s.feed.standing = true) :
        R = atBoundary false false (cancelPending g) ∧ u.feed.pending.any = false := by
      have hform : R = atBoundary false false (cancelPending g) := by
        rw [hR, hrecords, recordCancel_acts (hgstanding.trans hstanding)]
      refine ⟨hform, ?_⟩
      rw [hshows.feed, hform, atBoundary_pending]
      rfl
    have hreset (hnone : s.feed.pending.any = false) : (cancelPending g).feed.pending.reset = none ∧
        (cancelPending g).feed.pending.condition = none := by
      rw [cancelPending, State.onFeed_feed, hgfeed, show kept.pending = .none from PendingStops.of_not_any hnone]
      exact ⟨rfl, rfl⟩
    have hspentFeed : (spent (cancelPending g)).feed = { kept with pending := .none, called := none } := by
      rw [← hgfeed]
      rfl
    have hspentRing : (spent (cancelPending g)).ring = voided := hgring
    have hseek (hnot : s.feed.state.paused? = none) (h : R = startOrIdle (spent (cancelPending g))) :
        startsUnlessHeld u := by
      rw [h] at hshows
      have htold := startOrIdle_unlessHeld hshows (htells hnot)
      rw [hspentFeed, hspentRing] at htold
      exact htold
    have htrail (hnot : s.feed.state.paused? = none) {c : State} (h : R = enterTrailing c)
        (hfeed : ∃ pending called, c.feed = { kept with pending := pending, called := called }) (hring : c.ring = voided)
        (hsettings : c.settings = s.settings) : trails u := by
      rw [h] at hshows
      have htold := enterTrailing_told hshows (htells hnot)
      obtain ⟨pending, called, hfeed⟩ := hfeed
      rw [hfeed, hring, hsettings] at htold
      exact htold
    have hkeptState : kept.state = s.feed.state := rfl
    clear_value kept
    cases hstate : s.feed.state with
    | idle | trailing | moving | calibrating =>
      rw [hshows.feed, hR]
      simp only [cancelActs, hgstate, hstate]
      exact hgfeed
    | backfeed =>
      have hrecords : cancelActs id g = recordCancel g := by simp only [cancelActs, hgstate, hstate]
      refine ⟨hwaits hrecords, fun hstanding hnone => ?_⟩
      obtain ⟨hform, hspent⟩ := hacts hrecords hstanding
      rw [atBoundary_backfeed _ _ (hreset hnone).1 (hgstate.trans hstate), boundaryBackfeed, if_pos (by rfl)] at hform
      exact ⟨hspent, hseek (by rw [hstate]; rfl) hform⟩
    | seekSearch =>
      have hrecords : cancelActs id g = recordCancel g := by simp only [cancelActs, hgstate, hstate]
      refine ⟨hwaits hrecords, fun hstanding hnone => ?_⟩
      obtain ⟨hform, hspent⟩ := hacts hrecords hstanding
      rw [atBoundary_search _ _ (hreset hnone).1 (hgstate.trans hstate), boundarySearch, if_pos (by rfl)] at hform
      exact ⟨hspent, hseek (by rw [hstate]; rfl) hform⟩
    | seekOffset =>
      have hrecords : cancelActs id g = recordCancel g := by simp only [cancelActs, hgstate, hstate]
      refine ⟨hwaits hrecords, fun hstanding hnone => ?_⟩
      obtain ⟨hform, hspent⟩ := hacts hrecords hstanding
      rw [atBoundary_offset _ _ (hreset hnone).1 (hgstate.trans hstate), boundaryOffset, if_pos (by rfl)] at hform
      exact ⟨hspent, hseek (by rw [hstate]; rfl) hform⟩
    | printing =>
      have hrecords : cancelActs id g = recordCancel g := by simp only [cancelActs, hgstate, hstate]
      refine ⟨hwaits hrecords, fun hstanding hnone => ?_⟩
      obtain ⟨hform, hspent⟩ := hacts hrecords hstanding
      obtain ⟨hnoReset, hnoCondition⟩ := hreset hnone
      rw [atBoundary_printing _ _ hnoReset (hgstate.trans hstate), boundaryPrinting, if_pos (by rfl),
        hnoCondition] at hform
      exact ⟨hspent, htrail (by rw [hstate]; rfl) hform ⟨_, _, hspentFeed⟩ hspentRing hgsettings⟩
    | stalled =>
      have hform : R = enterTrailing g := by rw [hR]; simp only [cancelActs, hgstate, hstate]
      exact htrail (by rw [hstate]; rfl) hform ⟨_, _, hgfeed⟩ hgring hgsettings
    | paused cause context =>
      have hfeed : u.feed = { kept with state := .paused cause (context.afterCancel id) } := by
        rw [hshows.feed, hR]
        simp only [cancelActs, hgstate, hstate]
        rw [State.enter, State.onFeed_feed, hgfeed]
      have hsame : ({ kept with state := .paused cause context } : Feed) = kept := by rw [← hstate, ← hkeptState]
      cases context with
      | print | seek | backfeed => exact hfeed
      | trail | none => exact hfeed.trans hsame

end Sys2Proof.Machine
end

section
/-! PROOF. RESET of the pages (R134, R192, R210, R211): what the feed does, how the request is answered, and what is
discarded. -/

namespace Sys2Proof.Machine

/-! ### The answer of a request whose owner completes another reply -/

/-- A taken request whose owner leaves the slots, or completes another reply before, is answered from the cache that
its owner leaves. -/
theorem completed_from {rq : Request} {s t : State} {status : Status} {results : Results} (h : Takes rq s)
    (hpower : t.power = .running) (hlink : t.link.slots = (taken rq s).link.slots ∨ t.link.replies ≠ []) :
    AnsweredFrom t.link.cache t.link.serial rq status results
      (choose (completeReply rq.key rq.kind status results t)) := by
  refine ⟨(choose_keeps _).2.2.2.1, ?_⟩
  unfold choose
  rw [if_neg (by simp [completeReply, hpower])]
  cases htx : t.link.tx with
  | some f => exact .inl (by simp [completeReply, Link.complete, htx])
  | none =>
    cases hreplies : t.link.replies with
    | cons entry rest => exact .inl (by simp [completeReply, Link.complete, htx, hreplies])
    | nil =>
      have hslots := hlink.resolve_right (by simp [hreplies])
      have hreply := slotReply_of_completed (kind := rq.kind)
        (frame := replyTo rq status results t.link.serial) h.2.2.1
      refine .inr ?_
      simp only [completeReply, Link.complete, State.withLink_link, htx, hreplies, List.nil_append,
        WaitingReply.frame?, hslots]
      exact congrArg (Option.map TxFrame.reply) hreply

/-- The same, with all that the transmitter's choice after it leaves alone. -/
theorem completing_request {rq : Request} {s t : State} {status : Status} {results : Results}
    (f : Request → State → State × Status × Results) (h : Takes rq s) (hf : f rq (taken rq s) = (t, status, results))
    (hpower : t.power = .running) (hlink : t.link.slots = (taken rq s).link.slots ∨ t.link.replies ≠ []) :
    ∃ u, request (answering f) id rq s = u ∧ u = choose (completeReply rq.key rq.kind status results t) ∧
      AnsweredFrom t.link.cache t.link.serial rq status results u ∧ Keeps [.link, .notices] t u ∧
      u.notices = t.notices ∧ LinkAside t u := by
  have hu := request_answered f id h hf
  have hchosen := choose_keeps (completeReply rq.key rq.kind status results t)
  refine ⟨_, rfl, hu, ?_, ?_, request_answered_notices f h hf, ?_⟩ <;> rw [hu]
  · exact completed_from h hpower hlink
  · exact Keeps.trans (by intro p hp; cases p <;> first | rfl | simp at hp) hchosen.1
  · exact LinkAside.trans ⟨rfl, rfl, rfl, rfl, rfl⟩ hchosen.2.1

/-! ### What a reset does to the feed -/

/-- What a reset does to the feed with no page queued (R134, R211): the hold flag and the edge history go, and the feed
is IDLE, a running host motion answered STOPPED, or waits in motion for the line boundary. -/
structure FeedReset (scope : ResetScope) (s t : State) : Prop where
  keeps : Keeps [.link, .feed] s t
  hold : t.feed.hold = false
  edge : t.feed.edge = none
  pitch : t.feed.pitch = s.feed.pitch
  state : t.feed.state = .idle ∧ t.feed.parked = (if scope = .all then 0 else s.feed.parked) ∨
    s.feed.standing = false ∧ t.feed.state = s.feed.state ∧ t.feed.parked = s.feed.parked ∧
      t.feed.pending.reset = (s.feed.pending.addReset scope).reset
  still : s.feed.state = .stalled ∨ s.feed.state.paused?.isSome = true → t.feed.state = .idle
  link : s.feed.state.motionKey? = none ∨ s.feed.standing = false → t.link = s.link
  motion : ∀ key ∈ s.feed.state.motionKey?, s.feed.standing = true → t.feed.state = .idle ∧
    ∃ kind, t.link = s.link.complete key kind .stopped (s.feed.state.motionResults s.feed.pitch)

/-- With no page queued, a reset that acts leaves the feed IDLE (R134). -/
theorem stopForReset_rests {s : State} (h : s.composer.queue = []) (scope : ResetScope) :
    (stopForReset scope s).feed = { s.feed with
      state := .idle, edge := none, called := none, parked := if scope = .all then 0 else s.feed.parked } ∧
    (s.feed.state.motionKey? = none → (stopForReset scope s).link = s.link) ∧
    ∀ key ∈ s.feed.state.motionKey?, ∃ kind,
      (stopForReset scope s).link = s.link.complete key kind .stopped (s.feed.state.motionResults s.feed.pitch) := by
  have hunparked := unparkedFor_keeps scope s
  have hqueue : (unparkedFor scope s).composer.queue = [] :=
    (congrArg Composer.queue (hunparked .composer (by decide) :)).trans h
  have hlink : (unparkedFor scope s).link = s.link := hunparked .link (by decide)
  cases hkey : s.feed.state.motionKey? with
  | none =>
    rw [stopForReset_of_still hkey, enterIdle_of_queue_nil hqueue]
    refine ⟨?_, fun _ => hlink, by simp⟩
    rw [goIdle, State.onFeed_feed, unparkedFor_feed]
  | some key =>
    obtain ⟨kind, hform⟩ := stopForReset_of_motion (scope := scope) hkey
    rw [hform, enterIdle_of_queue_nil (by exact hqueue)]
    refine ⟨?_, by simp, fun key' hkey' => ⟨kind, ?_⟩⟩
    · rw [goIdle, State.onFeed_feed]
      exact congrArg (fun f : Feed => { f with state := .idle, edge := none, called := none })
        (unparkedFor_feed scope s)
    · obtain rfl := Option.some.inj hkey'
      rw [← hlink]
      rfl

/-- The feed that a reset has cleared (R134). -/
def cleared (s : State) : State := s.onFeed fun f => { f with hold := false, line := 0, edge := none }

/-- A feed that stands still, or is in motion with the reset acting now, is reset at once. -/
theorem feedReset_of_stop {scope : ResetScope} {s x : State} (h : s.composer.queue = [])
    (hkeeps : Keeps [.feed] s x) (hhold : x.feed.hold = false)
    (hfeed : x.feed.pitch = s.feed.pitch ∧ x.feed.parked = s.feed.parked ∧ x.feed.state = s.feed.state)
    (hstanding : s.feed.state.motionKey? = none ∨ s.feed.standing = true) :
    FeedReset scope s (stopForReset scope x) := by
  obtain ⟨hpitch, hparked, hstate⟩ := hfeed
  have hqueue : x.composer.queue = [] := (congrArg Composer.queue (hkeeps .composer (by decide) :)).trans h
  have hlink : x.link = s.link := hkeeps .link (by decide)
  obtain ⟨hrested, hsame, hcompleted⟩ := stopForReset_rests hqueue scope
  rw [hstate, hlink] at hsame hcompleted
  refine {
    keeps := (hkeeps.weaken (by decide)).trans (stopForReset_keeps hqueue scope)
    hold := by rw [hrested, hhold]
    edge := by rw [hrested]
    pitch := by rw [hrested, hpitch]
    state := .inl ⟨by rw [hrested], by rw [hrested, hparked]⟩
    still := fun _ => by rw [hrested]
    link := fun hnone => hsame (hnone.elim id fun hno => hstanding.resolve_right (by simp [hno]))
    motion := fun key hkey _ => ⟨by rw [hrested], ?_⟩ }
  obtain ⟨kind, hkind⟩ := hcompleted key hkey
  exact ⟨kind, by rw [hkind, hpitch]⟩

/-- A feed in motion takes the reset at its line boundary, at once when it stands at one (R112, R134). -/
theorem feedReset_of_moving {scope : ResetScope} {s : State} (h : s.composer.queue = [])
    (hscope : s.feed.standing = true → (s.feed.pending.addReset scope).reset = some scope)
    (hmoving : s.feed.state ≠ .stalled ∧ s.feed.state.paused? = none) :
    FeedReset scope s
      (actIfStanding ((cleared s).onFeed fun f => { f with pending := f.pending.addReset scope })) := by
  cases hstanding : s.feed.standing with
  | true =>
    rw [actIfStanding_of_standing (by exact hstanding)
      (by simp [PendingStops.any, PendingStops.addReset_isSome]), atBoundary_reset _ _ (by exact hscope hstanding)]
    exact feedReset_of_stop h (by intro p hp; cases p <;> first | rfl | simp at hp) rfl ⟨rfl, rfl, rfl⟩ (.inr hstanding)
  | false =>
    rw [actIfStanding_of_not_standing (by exact hstanding)]
    exact {
      keeps := by intro p hp; cases p <;> first | rfl | simp at hp
      hold := rfl
      edge := rfl
      pitch := rfl
      state := .inr ⟨hstanding, rfl, rfl, rfl⟩
      still := fun hstill => absurd hstill (by simp [hmoving])
      link := fun _ => rfl
      motion := fun key _ hno => absurd hno (by simp [hstanding]) }

/-- RESET's part of the feed, when it acts by its own scope on a feed that stands (R134). -/
theorem resetFeed_resets {scope : ResetScope} {s : State} (h : s.composer.queue = [])
    (hscope : s.feed.standing = true → (s.feed.pending.addReset scope).reset = some scope) :
    FeedReset scope s (resetFeed scope s) := by
  have hstill (hkey : s.feed.state.motionKey? = none) : FeedReset scope s (stopForReset scope (cleared s)) :=
    feedReset_of_stop h (State.onFeed_keeps s _) rfl ⟨rfl, rfl, rfl⟩ (.inl hkey)
  unfold resetFeed
  cases hstate : s.feed.state with
  | idle | stalled | paused => exact hstill (by rw [hstate]; rfl)
  | backfeed | seekSearch | seekOffset | printing | trailing | moving | calibrating =>
    exact feedReset_of_moving h hscope (by simp [hstate, FeedState.paused?])

/-! ### What a reset discards -/

/-- The part with its pages discarded, before the feed is reset (R211). -/
def emptied (s : State) : State :=
  voidAll (((s.withComposer s.composer.discardPages).withAssets s.assets.releaseAll).withNotices
    s.notices.dropPageEnded)

theorem discardPages_eq (scope : ResetScope) (s : State) :
    discardPages scope s = reportFeed s (resetFeed scope (emptied s)) := rfl

theorem emptied_keeps (s : State) : Keeps [.notices, .assets, .composer, .ring] s (emptied s) := by
  intro p hp; cases p <;> first | rfl | simp at hp

/-- Every reference is released, and the DOOMED assets go (R171). -/
theorem AssetStore.releaseAll_table (st : AssetStore) :
    st.releaseAll.table =
      (st.table.map fun a => { a with refCount := 0 }).filter fun a => decide (a.state ≠ .doomed) := by
  unfold AssetStore.releaseAll AssetStore.remove
  refine List.filter_congr fun a ha => ?_
  obtain ⟨b, -, rfl⟩ := List.mem_map.mp ha
  simp [Asset.deferredRemoval]

/-- A ring voided whole holds FREE buffers and void renders (R105). -/
theorem BandRing.void_all_stateOf (r : BandRing) (i : Fin 4) :
    (r.void fun _ => true).stateOf i = .free ∨ ∃ tag, (r.void fun _ => true).stateOf i = .filling tag true := by
  rw [BandRing.stateOf_void]
  cases r.stateOf i with
  | filling tag void => exact .inr ⟨tag, by simp [BufferState.void]⟩
  | free | ready | draining => exact .inl rfl

theorem emptied_waiting (s : State) : (emptied s).ring.waiting = none := by
  cases hwaiting : s.ring.waiting <;> simp [emptied, voidAll, BandRing.void, hwaiting]

/-! ### FEED_STATE and the notices -/

/-- The notices once FEED_STATE has been handed over: each is one of before, of another kind, or says FEED_STATE
(R197). -/
theorem reportFeed_mem {before s : State} {n : Notice} (h : n ∈ (reportFeed before s).notices.entries) :
    n ∈ s.notices.entries ∨ n.content.kind = .feedState := by
  unfold reportFeed at h
  split at h
  · change n ∈ (s.notices.feedState s.feedReport).entries at h
    unfold NoticeQueue.feedState at h
    split at h
    · obtain ⟨m, hm, rfl⟩ := List.mem_map.mp h
      split
      · exact .inr rfl
      · exact .inl hm
    · rw [NoticeQueue.create_entries] at h
      rcases List.mem_append.mp h with h | h
      · exact .inl h
      · exact .inr (by rw [List.mem_singleton.mp h]; rfl)
  · exact .inl h

/-- A notice of another kind stays as it is when FEED_STATE is handed over (R197). -/
theorem mem_reportFeed {before s : State} {n : Notice} (hn : n ∈ s.notices.entries)
    (h : n.content.kind ≠ .feedState) : n ∈ (reportFeed before s).notices.entries := by
  unfold reportFeed
  split
  · show n ∈ (s.notices.feedState s.feedReport).entries
    unfold NoticeQueue.feedState
    split
    · exact List.mem_map.mpr ⟨n, hn, if_neg (by simp [Notice.isFeedState, h])⟩
    · rw [NoticeQueue.create_entries]
      exact List.mem_append_left _ hn
  · exact hn

/-- The notices that a page discard leaves are no reports of pages (R203). -/
theorem discardPages_notices (scope : ResetScope) (s : State) (hresets : FeedReset scope (emptied s)
      (resetFeed scope (emptied s))) :
    (∀ n ∈ (discardPages scope s).notices.entries, n.content.kind ≠ .pageEnded) ∧
    ∀ n ∈ s.notices.entries, n.content.kind = .ready → n ∈ (discardPages scope s).notices.entries := by
  have hdropped : (resetFeed scope (emptied s)).notices.entries =
      s.notices.entries.filter fun n => !n.isPageEnded := by
    rw [show (resetFeed scope (emptied s)).notices = (emptied s).notices from hresets.keeps .notices (by decide)]
    rfl
  rw [discardPages_eq]
  refine ⟨fun n hn => ?_, fun n hn hready => ?_⟩
  · rcases reportFeed_mem hn with hold | hfeed
    · rw [hdropped] at hold
      simpa [Notice.isPageEnded] using (List.mem_filter.mp hold).2
    · simp [hfeed]
  · refine mem_reportFeed ?_ (by simp [hready])
    rw [hdropped]
    exact List.mem_filter.mpr ⟨hn, by simp [Notice.isPageEnded, hready]⟩

/-! ### RESET(PAGES) -/

theorem resetRequest_pages {rq : Request} (h : rq.payload = [0]) (s : State) :
    resetRequest rq s = (discardPages .pages s, .ok, .reset .pages s.composer.pages.length) := by
  simp [resetRequest, h, applyReset]

/-- The link after a page discard: as it was, or with the STOPPED reply of a host motion complete. -/
theorem discardPages_link {scope : ResetScope} {s : State}
    (hresets : FeedReset scope (emptied s) (resetFeed scope (emptied s))) :
    (discardPages scope s).link = (resetFeed scope (emptied s)).link ∧
      (s.feed.state.motionKey? = none ∨ s.feed.standing = false → (discardPages scope s).link = s.link) ∧
      ∀ key ∈ s.feed.state.motionKey?, s.feed.standing = true →
        ∃ kind, (discardPages scope s).link =
          s.link.complete key kind .stopped (s.feed.state.motionResults s.feed.pitch) := by
  have hlink : (discardPages scope s).link = (resetFeed scope (emptied s)).link :=
    reportFeed_keeps s _ .link (by decide)
  rw [hlink]
  exact ⟨rfl, hresets.link, fun key hkey hstands => (hresets.motion key hkey hstands).2⟩

/-- What a page discard leaves for a taken request to be answered on: its slot stands, or a reply waits before. -/
theorem discardPages_slots {scope : ResetScope} {s : State}
    (hresets : FeedReset scope (emptied s) (resetFeed scope (emptied s))) :
    (discardPages scope s).link.slots = s.link.slots ∨ (discardPages scope s).link.replies ≠ [] := by
  obtain ⟨-, hsame, hmotion⟩ := discardPages_link hresets
  by_cases hstill : s.feed.state.motionKey? = none ∨ s.feed.standing = false
  · exact .inl (by rw [hsame hstill])
  · obtain ⟨hkey, hstands⟩ := not_or.mp hstill
    obtain ⟨key, hkey⟩ := Option.ne_none_iff_exists'.mp hkey
    obtain ⟨kind, hlink⟩ := hmotion key hkey (by simpa using hstands)
    exact .inr (by simp [hlink, Link.complete])

theorem discardPages_keeps {scope : ResetScope} {s : State}
    (hresets : FeedReset scope (emptied s) (resetFeed scope (emptied s))) :
    Keeps [.link, .notices, .assets, .composer, .ring, .feed] s (discardPages scope s) :=
  ((emptied_keeps s).weaken (by decide)).trans
    ((hresets.keeps.weaken (by decide)).trans ((reportFeed_keeps s _).weaken (by decide)))

theorem discardPages_linkAside {scope : ResetScope} {s : State}
    (hresets : FeedReset scope (emptied s) (resetFeed scope (emptied s))) : LinkAside s (discardPages scope s) := by
  obtain ⟨-, hsame, hmotion⟩ := discardPages_link hresets
  by_cases hstill : s.feed.state.motionKey? = none ∨ s.feed.standing = false
  · exact .of_link (hsame hstill)
  · obtain ⟨hkey, hstands⟩ := not_or.mp hstill
    obtain ⟨key, hkey⟩ := Option.ne_none_iff_exists'.mp hkey
    obtain ⟨kind, hlink⟩ := hmotion key hkey (by simpa using hstands)
    rw [LinkAside, hlink]
    exact ⟨rfl, rfl, rfl, rfl, rfl⟩

theorem cursor?_of_queue_nil {s : State} (h : s.composer.queue = []) : s.cursor? = none := by
  simp [State.cursor?, State.headPage?, h]

/-- The results of a host motion, by its kind (R127, R129). -/
theorem motionResults_moving {st : FeedState} {pitch : Nat} {key : RequestKey} {n done : Nat}
    (h : st = .moving key n done) : st.motionResults pitch = .feed done := by rw [h]; rfl

theorem motionResults_calibrating {st : FeedState} {pitch : Nat} {key : RequestKey} {limit count moved : Nat}
    {found : Bool} (h : st = .calibrating key limit count moved found) :
    st.motionResults pitch = .calibrate pitch (some moved) := by rw [h]; rfl

/-- Settles O22: the blocks are discarded with no page left to start, and the feed is reset or waits for its line
boundary. -/
theorem resetPagesDiscards : Obligations.ResetPagesDiscards := by
  unfold Obligations.ResetPagesDiscards
  intro seq s htakes hpending
  obtain ⟨rq, hrq⟩ : ∃ rq, rq = requestOf seq 0x04 [0] := ⟨_, rfl⟩
  have hexec : exec (.resetPages seq) s = .next (request (answering resetRequest) id rq s) := by rw [hrq]; rfl
  have hpayload : rq.payload = [0] := by rw [hrq]; rfl
  rw [← hrq] at htakes ⊢
  obtain ⟨x, hx⟩ : ∃ x, x = taken rq s := ⟨_, rfl⟩
  have hfeed : x.feed = s.feed := hx ▸ taken_feed rq s
  have hcache : x.link.cache = s.link.cache := hx ▸ (choose_keeps s).2.2.2.1
  have hserial : x.link.serial = s.link.serial := hx ▸ (choose_keeps s).2.2.2.2
  have howner := resetRequest_pages hpayload x
  have hresets : FeedReset .pages (emptied x) (resetFeed .pages (emptied x)) :=
    resetFeed_resets (s := emptied x) rfl fun hstands => by
      have hnone : s.feed.pending = .none := PendingStops.of_not_any (by
        by_contra hany
        rw [show (emptied x).feed = s.feed from hfeed, hpending (by simpa using hany)] at hstands
        cases hstands)
      rw [show (emptied x).feed = s.feed from hfeed, hnone]
      rfl
  obtain ⟨-, hlinkSame, hlinkMotion⟩ := discardPages_link hresets
  have hslots := discardPages_slots hresets
  have hkeeps := discardPages_keeps hresets
  have haside := discardPages_linkAside hresets
  obtain ⟨hnoReport, hready⟩ := discardPages_notices .pages x hresets
  have hcomposer := discardPages_composer .pages x
  obtain ⟨d, hd⟩ : ∃ d, d = discardPages .pages x := ⟨_, rfl⟩
  have hdfeed : d.feed = (resetFeed .pages (emptied x)).feed := hd ▸ reportFeed_keeps x _ .feed (by decide)
  have hdring : d.ring = (emptied x).ring :=
    hd ▸ (reportFeed_keeps x _ .ring (by decide)).trans (hresets.keeps .ring (by decide))
  have hdassets : d.assets = x.assets.releaseAll :=
    hd ▸ (reportFeed_keeps x _ .assets (by decide)).trans (hresets.keeps .assets (by decide))
  rw [← hd] at howner hlinkSame hlinkMotion hslots hkeeps haside hnoReport hready hcomposer
  obtain ⟨-, hhold, hedge, hpitch, hstate, hstill, -, -⟩ := hresets
  rw [← hdfeed] at hhold hedge hpitch hstate hstill
  rw [show (emptied x).feed = s.feed from hfeed] at hpitch hstate hstill
  rw [hfeed] at hlinkSame hlinkMotion
  have hpower : d.power = .running :=
    ((hkeeps .power (by decide)).trans (hx ▸ choose_power s)).trans (receives_power htakes.1)
  rw [hx] at howner hslots
  obtain ⟨u, hudef, -, hanswered, hshown, hnotices, huaside⟩ :=
    completing_request resetRequest htakes howner hpower hslots
  rw [← hx] at hanswered
  have hpages : x.composer = s.composer := hx ▸ taken_composer rq s
  have huring : u.ring = (emptied x).ring := (hshown .ring (by decide)).trans hdring
  have hufeed : u.feed = d.feed := hshown .feed (by decide)
  have hucomposer : u.composer = s.composer.discardPages := by
    rw [show u.composer = d.composer from hshown .composer (by decide), hcomposer, hpages]
  refine ⟨u, hexec.trans (congrArg Host.Outcome.next hudef), ⟨d.link.cache, d.link.serial, ?_, fun hno => ?_,
    fun key hkey hstands => ?_⟩, hucomposer, ?_, fun i => ?_, ?_, ?_, cursor?_of_queue_nil (by rw [hucomposer]; rfl),
    ?_, ?_, ?_, ?_, ?_, ?_, fun n hn hkind => ?_, ?_, ?_⟩
  · rwa [← hpages]
  · rw [hlinkSame hno]
    exact ⟨hcache, hserial⟩
  · obtain ⟨kind, hlink⟩ := hlinkMotion key hkey hstands
    refine ⟨_, by rw [hlink, ← hcache]; rfl, rfl, rfl, fun n done hmoving => ?_,
      fun limit count moved found hcal => ?_⟩
    · exact motionResults_moving hmoving
    · exact motionResults_calibrating hcal
  · rw [show u.assets = d.assets from hshown .assets (by decide), hdassets, AssetStore.releaseAll_table,
      show x.assets = s.assets from hx ▸ taken_assets rq s]
  · rw [huring]
    exact BandRing.void_all_stateOf x.ring i
  · rw [huring]
    exact emptied_waiting x
  · rw [hufeed, hhold]
  · rw [hufeed, hedge]
  · rw [hufeed, hpitch]
  · rw [hufeed]
    exact hstate.elim (fun hidle => hidle.2) fun hwaits => hwaits.2.2.1
  · rw [hufeed]
    refine hstate.imp (fun hidle => hidle.1) fun ⟨_, hsame, _, hreset⟩ => ⟨hsame, ?_⟩
    rw [hreset]
    exact PendingStops.addReset_isSome _ _
  · rw [hufeed]
    exact hstill
  · rw [hnotices]
    exact hnoReport
  · have hfaces : x.notices.entries.map Notice.face = s.notices.entries.map Notice.face := by
      rw [hx]
      exact (taken_notices rq s).2
    obtain ⟨m, hm, hface⟩ := List.mem_map.mp (hfaces ▸ List.mem_map_of_mem (f := Notice.face) hn)
    rw [← hface, hnotices]
    refine List.mem_map_of_mem (hready m hm ?_)
    rw [show m.content = n.content from congrArg (fun f => f.2.2) hface, hkind]
  · exact (((hx ▸ taken_keeps rq s : Keeps [.link, .notices] s x).weaken (by decide)).trans hkeeps).trans
      (hshown.weaken (by decide))
  · exact ((hx ▸ taken_linkAside rq s : LinkAside s x).trans haside).trans huaside

end Sys2Proof.Machine
end

section
/-! PROOF. What every command keeps: a law of pages, band ring, engine and feed that each of their operations keeps
holds after every step. -/

namespace Sys2Proof.Machine

/-- The parts that the laws of pages, band ring, engine and feed do not read. -/
def outerParts : List Part := [.power, .clock, .settings, .link, .notices, .assets, .sensors, .pending]

/-- A law of pages, band ring, engine and feed, kept by each operation on them. -/
structure Invariant (P : State → Prop) : Prop where
  aside : ∀ {s t : State}, P s → Keeps outerParts s t → P t
  blank : ∀ {s : State}, Keeps outerParts State.blank s → P s
  pitch : ∀ {s : State} {n : Nat}, P s → n = s.feed.pitch ∨ n = 0 → P (s.onFeed fun f => { f with pitch := n })
  opens : ∀ (rq : Request) {s : State}, P s → P (openPage rq s).1
  stores : ∀ (rq : Request) {s : State}, P s → P (addObject rq s).1
  frees : ∀ (id : Nat) {s : State}, P s → P (freePageEntry id s)
  closes : ∀ (rq : Request) {s : State}, P s → P (closePage rq s).1
  cancels : ∀ (rq : Request) {s : State}, P s → P (cancelPage rq s).1
  resets : ∀ (rq : Request) {s : State}, P s → P (resetRequest rq s).1
  feeds : ∀ (rq : Request) {s : State}, P s → P (feedLines rq s).1
  calibrates : ∀ (rq : Request) {s : State}, P s → P (calibratePitch rq s).1
  stops : ∀ (rq : Request) {s t : State}, P s → Keeps outerParts (stopMotion rq s).1 t → P (stopAct t)
  holds : ∀ (rq : Request) {s : State}, P s → P (holdQueue rq s).1
  releases : ∀ (rq : Request) {s : State}, P s → P (releaseQueue rq s).1
  resumes : ∀ (rq : Request) {s : State}, P s → P (resumeFeed rq s).1
  joins : ∀ (c : Condition) {s : State}, P s → P (conditionActs c s)
  elapses : ∀ (period : PeriodOf) {s : State}, P s → P (periodElapsed period s)
  lands : ∀ (sedge : EdgeLevel) {s : State}, P s → P (completeStep sedge s)
  burns : ∀ {s : State}, P s → P (completeBurn s)
  draws : ∀ {s : State}, P s → P (objectBoundary s)

/-- The requests that report change nothing. -/
theorem statusRequest_state (rq : Request) (s : State) : (statusRequest rq s).1 = s := by
  unfold statusRequest
  split <;> rfl

theorem queryAsset_state (rq : Request) (s : State) : (queryAsset rq s).1 = s := by
  unfold queryAsset
  repeat' split
  all_goals rfl

namespace Invariant

section

variable {P : State → Prop} (h : Invariant P)

include h

theorem chosen {s : State} (hs : P s) : P (choose s) := h.aside hs ((choose_keeps s).1.weaken (by decide))

theorem reported {before s : State} (hs : P s) : P (reportFeed before s) :=
  h.aside hs ((reportFeed_keeps before s).weaken (by decide))

theorem withLink {s : State} (hs : P s) (l : Link) : P (s.withLink l) :=
  h.aside hs (by intro p hp; cases p <;> first | rfl | simp [outerParts] at hp)

theorem withNotices {s : State} (hs : P s) (q : NoticeQueue) : P (s.withNotices q) :=
  h.aside hs (by intro p hp; cases p <;> first | rfl | simp [outerParts] at hp)

theorem withAssets {s : State} (hs : P s) (a : AssetStore) : P (s.withAssets a) :=
  h.aside hs (by intro p hp; cases p <;> first | rfl | simp [outerParts] at hp)

theorem withClock {s : State} (hs : P s) (n : Nat) : P (s.withClock n) :=
  h.aside hs (by intro p hp; cases p <;> first | rfl | simp [outerParts] at hp)

theorem advanced {s : State} (hs : P s) (at_ : Nat) : P (s.advanceTo at_) :=
  h.aside hs (by intro p hp; cases p <;> first | rfl | simp [outerParts] at hp)

theorem withSensors {s : State} (hs : P s) (x : Sensors) : P (s.withSensors x) :=
  h.aside hs (by intro p hp; cases p <;> first | rfl | simp [outerParts] at hp)

theorem withSettings {s : State} (hs : P s) (c : Settings) : P (s.withSettings c) :=
  h.aside hs (by intro p hp; cases p <;> first | rfl | simp [outerParts] at hp)

theorem withPending {s : State} (hs : P s) (queue : List Instr) : P (s.withPending queue) :=
  h.aside hs (by intro p hp; cases p <;> first | rfl | simp [outerParts] at hp)

theorem guarded {c : Prop} [Decidable c] {s t : State} (hs : P s) (ht : P t) : P (if c then t else s) := by
  split
  · exact ht
  · exact hs

/-! ### The owners of the requests -/

theorem hello (rq) {s : State} (hs : P s) : P (helloRequest rq s).1 := by
  unfold helloRequest
  split
  · split
    · exact hs
    · dsimp only
      split
      · exact h.withNotices hs _
      · exact hs
  · exact hs

theorem config (rq) {s : State} (hs : P s) : P (configRequest rq s).1 := by
  unfold configRequest
  dsimp only
  split
  · exact hs
  · split
    · exact hs
    · unfold configure
      split
      · exact hs
      · split
        · exact hs
        · refine h.pitch (h.withSettings hs _) ?_
          split
          · exact .inl rfl
          · exact .inr rfl

theorem acks (rq) {s : State} (hs : P s) : P (ackNotice rq s).1 := by
  unfold ackNotice
  split
  · dsimp only
    split
    · exact hs
    · split
      · split
        · exact h.frees _ (h.withNotices hs _)
        · exact h.withNotices hs _
      · exact hs
  · exact hs

theorem assetBegin (rq) {s : State} (hs : P s) : P (beginAsset rq s).1 := by
  unfold beginAsset
  dsimp only
  repeat' split
  all_goals first | exact hs | exact h.withAssets hs _

theorem assetData (rq) {s : State} (hs : P s) : P (loadAsset rq s).1 := by
  unfold loadAsset
  dsimp only
  repeat' split
  all_goals first | exact hs | exact h.withAssets hs _

theorem assetEnd (rq) {s : State} (hs : P s) : P (endAsset rq s).1 := by
  unfold endAsset
  dsimp only
  repeat' split
  all_goals first | exact hs | exact h.withAssets hs _

theorem assetDrop (rq) {s : State} (hs : P s) : P (dropRequest rq s).1 := by
  unfold dropRequest
  dsimp only
  repeat' split
  all_goals first | exact hs | exact h.withAssets hs _

theorem owner {kind : Byte} (hkind : kind ≠ 0x32) (rq : Request) {s : State} (hs : P s) : P (ownerOf kind rq s).1 :=
  ownerOf_induction (P := fun owner => P (owner rq s).1) (h.hello rq hs)
    (by exact (statusRequest_state rq s).symm ▸ hs) (h.config rq hs) (h.resets rq hs) (h.acks rq hs)
    (h.assetBegin rq hs) (h.assetData rq hs) (h.assetEnd rq hs) (h.assetDrop rq hs)
    (by exact (queryAsset_state rq s).symm ▸ hs)
    (h.opens rq hs) (h.stores rq hs) (h.closes rq hs) (h.cancels rq hs) (by exact (queryPage_state rq s).symm ▸ hs)
    (h.feeds rq hs) (h.calibrates rq hs) (fun hstop => absurd hstop hkind) (h.holds rq hs) (h.releases rq hs)
    (h.resumes rq hs) hs

/-! ### The decision of a frame, and the bytes that carry it -/

theorem executed (kind : Byte) (rq : Request) {s : State} (hs : P s) :
    P (followUp kind (execute (ownerOf kind) rq s)) := by
  unfold followUp
  split
  next hstop =>
    subst hstop
    exact h.stops rq hs ((completeReply_keeps rq.key rq.kind _ _ _).weaken (by decide))
  next hkind =>
    have howner := h.owner hkind rq hs
    show P (execute (ownerOf kind) rq s)
    unfold execute
    split <;> rename_i hout <;> rw [hout] at howner
    · exact h.withLink howner _
    · exact howner

theorem goodFrame (kind : Byte) (rq : Request) {s : State} (hs : P s) :
    P (Machine.goodFrame (ownerOf kind) (followUp kind) rq s) := by
  refine h.chosen ?_
  have hchosen := h.chosen hs
  unfold decideFrame
  split
  · split
    · exact hchosen
    · exact h.withLink hchosen _
  · split
    · exact hchosen
    · split
      · exact h.executed kind rq (h.withLink hchosen _)
      · exact h.withLink hchosen _

theorem byte (b : Byte) {s : State} (hs : P s) : P (receiveByte b s) := by
  unfold receiveByte
  dsimp only
  split
  · exact hs
  · exact h.guarded hs (h.withLink hs _)
  · unfold headerByte
    dsimp only
    split
    · exact h.withLink (h.withLink hs _) _
    · exact h.withLink hs _
  · exact h.withLink hs _
  · split
    · unfold frameEnds
      split
      · exact h.goodFrame _ _ (h.withLink hs _)
      · exact h.withLink (h.withLink hs _) _
    · exact h.withLink hs _

theorem character (b : Byte) (stopBit : Level) {s : State} (hs : P s) : P (receiveCharacter b stopBit s) :=
  h.guarded hs (h.byte b hs)

theorem timeout {s : State} (hs : P s) : P (byteTimeout s) := by
  unfold byteTimeout
  split
  · exact hs
  · split
    · exact hs
    · exact hs
    all_goals exact h.withLink (h.withLink (h.advanced hs _) _) _

/-! ### Start-up, the sensors and the transmitter -/

theorem cleared (s : State) (power : Power) (rate : LinkRate) : P (s.cleared power rate) :=
  h.blank (by intro p hp; cases p <;> first | rfl | simp [outerParts] at hp)

theorem startUp (c r1 r0 cc mp) (s : State) : P (Machine.startUp c r1 r0 cc mp s) :=
  h.chosen (h.withLink (h.withNotices (h.withSensors (h.cleared s _ _) _) _) _)

theorem conditionJoins (c) {s : State} (hs : P s) : P (Machine.conditionJoins c s) := by
  unfold Machine.conditionJoins
  split
  · exact h.chosen (h.reported (h.joins c (h.withSensors (h.advanced hs _) _)))
  · exact hs

theorem conditionLeaves (c) {s : State} (hs : P s) : P (Machine.conditionLeaves c s) := by
  unfold Machine.conditionLeaves
  split
  · exact h.chosen (h.reported (h.withSensors (h.advanced hs _) _))
  · exact hs

theorem inputChange (input level) {s : State} (hs : P s) : P (Machine.inputChange input level s) := by
  unfold Machine.inputChange
  split
  · exact hs
  · exact h.withSensors hs _

theorem resendDue {s : State} (hs : P s) : P (Machine.resendDue s) := by
  unfold Machine.resendDue
  split
  · exact h.chosen (h.advanced hs _)
  · exact h.chosen hs

/-- Every command keeps an invariant. -/
theorem exec {c : Instr} {s t : State} (hexec : Machine.exec c s = .next t) (hs : P s) : P t := by
  cases hrq : requestFor c with
  | some rq =>
    rw [exec_request hrq] at hexec
    obtain rfl := Host.Outcome.next.inj hexec
    exact h.guarded hs (h.goodFrame _ _ hs)
  | none =>
    cases c <;> first | simp [requestFor] at hrq; done | obtain rfl := Host.Outcome.next.inj hexec
    case startUp => exact h.startUp _ _ _ _ _ s
    case resetLineAssert =>
      unfold assertReset
      split
      · exact hs
      · exact h.cleared s _ _
    case supplyLoss => exact h.cleared s _ _
    case byteReceived => exact h.character _ _ hs
    case headerError => exact h.character _ _ hs
    case frameComplete => exact h.character _ _ hs
    case interByteTimeout => exact h.timeout hs
    all_goals refine h.guarded hs ?_
    case sensorInputChange => exact h.inputChange _ _ hs
    case conditionJoins => exact h.conditionJoins _ hs
    case conditionLeaves => exact h.conditionLeaves _ hs
    case linePeriodElapsed => exact h.elapses _ hs
    case stepCompletion => exact h.chosen (h.lands _ hs)
    case burnCompletion => exact h.chosen (h.burns hs)
    case objectBoundary => exact h.draws hs
    case transmitFrameEnd => exact h.chosen (h.withLink hs _)
    case noticeResendDue => exact h.resendDue hs

/-- Every step keeps an invariant. -/
theorem step {s t : State} (hstep : Machine.step s = .next t) (hs : P s) : P t := by
  unfold Machine.step at hstep
  split at hstep
  · exact h.exec hstep (h.withPending hs _)
  · obtain rfl := Host.Outcome.next.inj hstep
    exact h.guarded hs (h.chosen (h.withClock hs _))

end

end Invariant

end Sys2Proof.Machine
end

section
/-! PROOF. RESET of all (R210, R212, R214): the measured pitch while a reset waits, and the start-up state restored. -/

namespace Sys2Proof.Machine

/-! ### The measured pitch while a reset waits -/

/-- The law of a waiting reset of scope ALL (R214): the measured pitch is 0. -/
def PitchLaw (s : State) : Prop := s.feed.pending.reset = some .all → s.feed.pitch = 0

namespace PitchLaw

theorem of_same {s t : State} (h : PitchLaw s) (hpitch : t.feed.pitch = s.feed.pitch)
    (hreset : t.feed.pending.reset = s.feed.pending.reset) : PitchLaw t := fun hall => by
  rw [hpitch]
  exact h (hreset ▸ hall)

theorem of_feed {s t : State} (h : PitchLaw s) (hfeed : t.feed = s.feed) : PitchLaw t :=
  h.of_same (by rw [hfeed]) (by rw [hfeed])

theorem of_none {t : State} (h : t.feed.pending.reset = none) : PitchLaw t := fun hall => by simp [h] at hall

theorem decided {s t : State} (h : PitchLaw s) (hdecided : Decided s t) : PitchLaw t :=
  h.of_same hdecided.pitch (by rw [hdecided.pending])

/-- A boundary spends what is pending. -/
theorem boundary (e d) (s : State) : PitchLaw (atBoundary e d s) := of_none (by rw [atBoundary_pending]; rfl)

theorem standing {s : State} (h : PitchLaw s) : PitchLaw (actIfStanding s) := by
  unfold actIfStanding
  split
  · exact boundary _ _ s
  · exact h

theorem reported {before s : State} (h : PitchLaw s) : PitchLaw (reportFeed before s) :=
  h.of_feed (reportFeed_keeps before s .feed (by decide))

theorem assigned {s : State} (h : PitchLaw s) : PitchLaw (assignBand s) :=
  h.of_feed (assignBand_keeps s .feed (by decide))

end PitchLaw

theorem addReset_all {p : PendingStops} (h : (p.addReset .pages).reset = some .all) : p.reset = some .all := by
  by_contra hno
  simp [PendingStops.addReset, hno] at h

theorem resetFeed_pages_pitchLaw {s : State} (h : PitchLaw s) : PitchLaw (resetFeed .pages s) := by
  have hstop (x : State) (hx : PitchLaw x) : PitchLaw (stopForReset .pages x) :=
    hx.of_same (stopForReset_pitch _ _) (by rw [(stopForReset_acted _ _).pending])
  have hcleared : PitchLaw (cleared s) := h
  unfold resetFeed
  split
  · exact hstop _ hcleared
  · exact hstop _ hcleared
  · exact hstop _ hcleared
  all_goals exact PitchLaw.standing fun hall => h (addReset_all hall)

theorem resetRequest_pitchLaw (rq) {s : State} (h : PitchLaw s) : PitchLaw (resetRequest rq s).1 := by
  unfold resetRequest
  split
  · split
    · exact (resetFeed_pages_pitchLaw (s := emptied s) h).reported
    · split
      · exact fun _ => rfl
      · exact h
  · exact h

theorem motionStarts_pitchLaw {s : State} (h : PitchLaw s) {f : Feed → Feed} (hpitch : (f s.feed).pitch = s.feed.pitch)
    (hpending : (f s.feed).pending = s.feed.pending) : PitchLaw (callStep .forward (s.onFeed f)) :=
  PitchLaw.decided (s := s.onFeed f) (h.of_same hpitch (congrArg PendingStops.reset hpending :))
    (callStep_decided _ _)

theorem cancelActs_pitchLaw (id) {s : State} (h : PitchLaw s) : PitchLaw (cancelActs id s) := by
  unfold cancelActs
  split
  case h_5 => exact h.decided (enterTrailing_decided s)
  case h_10 => exact h
  all_goals first | exact h | exact PitchLaw.standing h

theorem recordCondition_pitchLaw (host c) {s : State} (h : PitchLaw s) : PitchLaw (recordCondition host c s) := by
  refine PitchLaw.standing (h.of_same rfl ?_)
  show (s.feed.pending.addCondition host c).reset = s.feed.pending.reset
  unfold PendingStops.addCondition
  repeat' split
  all_goals rfl

theorem conditionActs_pitchLaw (c) {s : State} (h : PitchLaw s) : PitchLaw (conditionActs c s) := by
  unfold conditionActs
  split
  · exact h
  case h_7 => exact PitchLaw.decided (s := withdrawRequest s) h (pausePrint_decided _ _ _)
  case h_10 => exact iteInduction (fun _ => h) fun _ => h
  all_goals exact recordCondition_pitchLaw _ _ h

theorem resumeFeed_pitchLaw (rq) {s : State} (h : PitchLaw s) : PitchLaw (resumeFeed rq s).1 := by
  unfold resumeFeed
  split
  · split
    · exact h
    · split
      · exact h
      · split
        · exact h
        · dsimp only
          split
          · unfold resumeWithContinue
            split
            · exact h
            all_goals exact (h.decided (continueFrom_decided _ s)).reported
          · unfold resumeWithReprint
            split
            · exact ((PitchLaw.decided (s := rewound _ s) h (enterSeek_decided _)).assigned).reported
            all_goals exact h
  · exact h

theorem burnActive_pitchLaw (p l) {s : State} (h : PitchLaw s) : PitchLaw (burnActive p l s) := by
  have hfreed : (if lastOfBand l.line p.length then freeDraining s else s).feed = s.feed := by
    split
    · exact freeDraining_keeps s .feed (by decide)
    · rfl
  unfold burnActive
  dsimp only
  split
  · have hended := (endCopy_keeps p.id (if lastOfBand l.line p.length then freeDraining s else s)) .feed (by decide)
    exact PitchLaw.of_same (h.of_feed (hended.trans hfreed)) rfl rfl
  · exact PitchLaw.of_same (h.of_feed hfreed) rfl rfl

theorem completeBurn_pitchLaw {s : State} (h : PitchLaw s) : PitchLaw (completeBurn s) := by
  unfold completeBurn
  split
  · exact h
  · exact h
  · dsimp only
    refine PitchLaw.decided ?_ (callStep_decided _ _)
    split
    · exact h
    · split
      · exact h
      · split
        · exact (burnActive_pitchLaw _ _ (by exact h)).assigned
        · exact h

theorem completeStep_pitchLaw (sedge) {s : State} (h : PitchLaw s) : PitchLaw (completeStep sedge s) := by
  unfold completeStep
  split
  · exact h
  · exact h
  · exact (PitchLaw.boundary _ _ _).reported

theorem periodElapsed_pitchLaw (period) {s : State} (h : PitchLaw s) : PitchLaw (periodElapsed period s) := by
  refine h.of_same ?_ ?_ <;>
  · unfold periodElapsed
    repeat' split
    all_goals rfl

theorem closePage_pitchLaw (rq) {s : State} (h : PitchLaw s) : PitchLaw (closePage rq s).1 := by
  unfold closePage
  dsimp only
  repeat' split
  all_goals first
    | exact h
    | exact ((PitchLaw.decided (s := enqueuePage _ s) h (startDecision_decided _)).assigned).reported

theorem dropCursor_pitchLaw (b) {s : State} (h : PitchLaw s) : PitchLaw (dropCursor b s) := by
  unfold dropCursor
  split
  · exact h
  · exact h

theorem cancelPage_pitchLaw (rq) {s : State} (h : PitchLaw s) : PitchLaw (cancelPage rq s).1 := by
  have hgone (b p) : PitchLaw (dropCursor b (endPage p .cancelled s)) := dropCursor_pitchLaw b (by exact h)
  unfold cancelPage
  dsimp only
  split
  · exact h
  · split
    · exact h
    · split
      · exact h
      · refine PitchLaw.reported (PitchLaw.assigned ?_)
        split
        · exact cancelActs_pitchLaw _ (hgone _ _)
        · exact hgone _ _

theorem grantWaiting_pitchLaw (i tag) {s : State} (h : PitchLaw s) : PitchLaw (grantWaiting i tag s) := by
  unfold grantWaiting
  dsimp only
  split
  · split
    · exact h.of_same (callBurn_pitch _) (congrArg PendingStops.reset (callBurn_decided _).pending)
    · exact h
  · exact h

theorem objectBoundary_pitchLaw {s : State} (h : PitchLaw s) : PitchLaw (objectBoundary s) := by
  unfold objectBoundary
  split
  · unfold boundaryOf
    split
    · exact PitchLaw.assigned h
    · split
      · exact h
      · exact (grantWaiting_pitchLaw _ _ (by exact h)).assigned
  · exact h

/-- Every operation keeps the pitch 0 while a reset of scope ALL waits. -/
theorem pitchLaw_invariant : Invariant PitchLaw where
  aside h hk := h.of_feed (hk .feed (by decide))
  blank hk := PitchLaw.of_none (by rw [hk .feed (by decide)]; rfl)
  pitch h hn := fun hall => hn.elim (fun hsame => hsame ▸ h hall) id
  opens rq _ h := by
    unfold openPage
    dsimp only
    repeat' split
    all_goals exact h
  stores rq _ h := by
    unfold addObject placeObject
    dsimp only
    repeat' split
    all_goals exact h
  frees _ _ h := h
  closes := closePage_pitchLaw
  cancels := cancelPage_pitchLaw
  resets := resetRequest_pitchLaw
  feeds rq _ h := by
    unfold feedLines
    dsimp only
    repeat' split
    all_goals first | exact h | exact motionStarts_pitchLaw h rfl rfl
  calibrates rq _ h := by
    unfold calibratePitch
    repeat' split
    all_goals first | exact h | exact motionStarts_pitchLaw h rfl rfl
  stops rq _ _ h hk := by
    refine PitchLaw.reported (PitchLaw.standing (PitchLaw.of_feed ?_ (hk .feed (by decide))))
    unfold stopMotion
    repeat' split
    all_goals exact h
  holds rq _ h := by
    unfold holdQueue
    split <;> exact h
  releases rq _ h := by
    unfold releaseQueue
    repeat' split
    all_goals first
      | exact h
      | exact (PitchLaw.decided (s := released _) h (startDecision_decided _)).reported
  resumes := resumeFeed_pitchLaw
  joins := conditionActs_pitchLaw
  elapses := periodElapsed_pitchLaw
  lands := completeStep_pitchLaw
  burns := completeBurn_pitchLaw
  draws := objectBoundary_pitchLaw

end Sys2Proof.Machine
end

section
/-! PROOF. RESET of all (R210, R212): the start-up state restored, and the STOPPED reply of a host motion that it ends. -/

namespace Sys2Proof.Machine

/-! ### The reply of a host motion that ends -/

theorem slotReply_fillSlot_same {slots : List Slot} {key : RequestKey} (frame : ReplyFrame)
    (h : ∃ slot ∈ slots, slot.key = key) : slotReply? (fillSlot slots key frame) key = some frame := by
  obtain ⟨slot, hmem, hkey⟩ := h
  induction slots with
  | nil => cases hmem
  | cons a rest ih =>
    by_cases ha : a.key = key
    · simp [slotReply?, fillSlot, ha]
    · have hrest := ih ((List.mem_cons.mp hmem).resolve_left fun heq => ha (heq ▸ hkey))
      simpa [slotReply?, fillSlot, ha] using hrest

theorem slotReply_fillSlot_ne {slots : List Slot} {key other : RequestKey} (frame : ReplyFrame) (h : key ≠ other) :
    slotReply? (fillSlot slots other frame) key = slotReply? slots key := by
  induction slots with
  | nil => rfl
  | cons a rest ih =>
    by_cases ha : a.key = other
    · have hno : a.key ≠ key := fun heq => h (heq ▸ ha)
      simpa [slotReply?, fillSlot, ha, hno, Ne.symm h] using ih
    · by_cases hk : a.key = key
      · simp [slotReply?, fillSlot, hk, h]
      · simpa [slotReply?, fillSlot, ha, hk] using ih

theorem exists_slot_of_slotReply {slots : List Slot} {key : RequestKey} {frame : ReplyFrame}
    (h : slotReply? slots key = some frame) : ∃ slot ∈ slots, slot.key = key ∧ slot.reply = some frame := by
  obtain ⟨slot, hfound, hreply⟩ := Option.bind_eq_some_iff.mp h
  exact ⟨slot, List.mem_of_find?_eq_some hfound, by simpa using List.find?_some hfound, hreply⟩

/-- A complete reply stays in its slot, or a free transmitter begins it (R183, R188). -/
theorem choose_sends_or_holds {s : State} {key : RequestKey} {frame : ReplyFrame}
    (h : slotReply? s.link.slots key = some frame) :
    (choose s).link.tx = some (.reply frame) ∨
      ∃ slot ∈ (choose s).link.slots, slot.key = key ∧ slot.reply = some frame := by
  obtain ⟨slot, hmem, hkey, hreply⟩ := exists_slot_of_slotReply h
  unfold choose
  split
  · exact .inr ⟨slot, hmem, hkey, hreply⟩
  · split
    · exact .inr ⟨slot, hmem, hkey, hreply⟩
    · split
      next entry rest _ =>
        by_cases hentry : entry = .ofSlot key
        · exact .inl (by simp [hentry, WaitingReply.frame?, h])
        · exact .inr ⟨slot, mem_freeSlot hmem (hkey ▸ hentry), hkey, hreply⟩
      · split
        · exact .inr ⟨slot, hmem, hkey, hreply⟩
        · exact .inr ⟨slot, hmem, hkey, hreply⟩

/-- The slot of a running host motion is there when another request is taken, and is another than its own. -/
theorem motion_slot_taken {rq : Request} {s : State} (h : Takes rq s) (hslots : SlotsAccounted s) {key : RequestKey}
    (hkey : s.feed.state.motionKey? = some key) :
    (∃ slot ∈ (taken rq s).link.slots, slot.key = key) ∧ key ≠ rq.key := by
  obtain ⟨-, -, haccount, hmotion⟩ := hslots
  obtain ⟨slot, hmem, rfl⟩ := List.mem_map.mp (hmotion key hkey)
  have hopen : slot.reply = none := (haccount slot hmem).2.mpr hkey
  have hchosen : slot ∈ (choose s).link.slots := by
    obtain ⟨-, hsame⟩ | ⟨entry, rest, hreplies, -, hfreed⟩ := choose_replies_slots s
    · exact hsame ▸ hmem
    · refine hfreed ▸ mem_freeSlot hmem ?_
      rintro rfl
      have hwaits := (haccount slot hmem).1.mpr (by rw [hreplies, waitingKeys_cons_ofSlot]; exact List.mem_cons_self)
      simp [hopen] at hwaits
  have hnew : ∀ x ∈ (choose s).link.slots, x.key ≠ rq.key := by simpa [Link.inSlot] using h.2.2.1
  exact ⟨⟨slot, List.mem_append_left _ hchosen, rfl⟩, hnew slot hchosen⟩

/-! ### The notices after a RESET of all -/

/-- FEED_STATE adds one notice at most (R197). -/
theorem reportFeed_length (before s : State) :
    (reportFeed before s).notices.entries.length ≤ s.notices.entries.length + 1 := by
  unfold reportFeed
  split
  · show (s.notices.feedState s.feedReport).entries.length ≤ _
    unfold NoticeQueue.feedState
    split
    · simp
    · rw [NoticeQueue.create_entries]
      simp
  · omega

theorem discardPages_notices_length {scope : ResetScope} {s : State}
    (hresets : FeedReset scope (emptied s) (resetFeed scope (emptied s))) :
    (discardPages scope s).notices.entries.length ≤ s.notices.entries.length + 1 := by
  rw [discardPages_eq]
  refine (reportFeed_length _ _).trans (Nat.succ_le_succ ?_)
  rw [show (resetFeed scope (emptied s)).notices = (emptied s).notices from hresets.keeps .notices (by decide)]
  exact List.length_filter_le _ _

/-- READY is the only notice after a RESET of all, unsent and under a number that the reset did not find (R195, R203). -/
theorem restart_entries {q : NoticeQueue} {removed : List Byte} {content : NoticeContent}
    (h : removed.length + q.entries.length < 256) :
    ∃ n, (q.restart removed content).entries = [n] ∧ n.content = content ∧ n.revision = 0 ∧ n.sent = false ∧
      n.number ∉ removed := by
  refine ⟨_, rfl, rfl, rfl, rfl, fun hmem => ?_⟩
  have hlen : ([] ++ (removed ++ q.entries.map Notice.number)).length < 256 := by simpa using h
  exact searchNumber_not_mem hlen (q.lastNumber + 1) (List.mem_append_right _ (List.mem_append_left _ hmem))

/-! ### RESET(ALL) -/

theorem resetRequest_all {rq : Request} (h : rq.payload = [1]) (s : State) :
    resetRequest rq s = (restoreDefaults (s.notices.entries.map Notice.number) (discardPages .all s), .ok,
      .reset .all s.composer.pages.length) := by
  simp [resetRequest, h, applyReset]

theorem restoreDefaults_keeps (removed) (s : State) :
    Keeps [.settings, .link, .notices, .assets, .composer, .feed] s (restoreDefaults removed s) := by
  intro p hp; cases p <;> first | rfl | simp at hp

theorem restoreDefaults_link (removed) (s : State) : (restoreDefaults removed s).link =
    { s.link with crcErrors := 0, headerErrors := 0, timeouts := 0, cache := [] } := rfl

/-- Settles O23: while a reset of scope ALL waits, each operation keeps the pitch 0; RESET(ALL) discards the pages and
then restores the rest, the reply of a host motion complete before. -/
theorem resetAllRestores : Obligations.ResetAllRestores := by
  unfold Obligations.ResetAllRestores
  refine ⟨fun s t h hstep => pitchLaw_invariant.step hstep h, fun seq s htakes hfew => ?_⟩
  obtain ⟨rq, hrq⟩ : ∃ rq, rq = requestOf seq 0x04 [1] := ⟨_, rfl⟩
  have hexec : exec (.resetAll seq) s = .next (request (answering resetRequest) id rq s) := by rw [hrq]; rfl
  have hpayload : rq.payload = [1] := by rw [hrq]; rfl
  rw [← hrq] at htakes ⊢
  obtain ⟨x, hx⟩ : ∃ x, x = taken rq s := ⟨_, rfl⟩
  have hfeed : x.feed = s.feed := hx ▸ taken_feed rq s
  have hnumbers : x.notices.entries.map Notice.number = s.notices.entries.map Notice.number := by
    have hfaces := congrArg (List.map fun f => f.1) (taken_notices rq s).2
    rw [hx]
    simpa [Function.comp_def, Notice.face] using hfaces
  have hresets : FeedReset .all (emptied x) (resetFeed .all (emptied x)) :=
    resetFeed_resets (s := emptied x) rfl fun _ => by simp [PendingStops.addReset]
  have hslots := discardPages_slots hresets
  have hkeeps := discardPages_keeps hresets
  have haside := discardPages_linkAside hresets
  obtain ⟨-, -, hmotion⟩ := discardPages_link hresets
  have hlength := discardPages_notices_length hresets
  obtain ⟨d, hd⟩ : ∃ d, d = discardPages .all x := ⟨_, rfl⟩
  have hdfeed : d.feed = (resetFeed .all (emptied x)).feed := hd ▸ reportFeed_keeps x _ .feed (by decide)
  have hdring : d.ring = (emptied x).ring :=
    hd ▸ (reportFeed_keeps x _ .ring (by decide)).trans (hresets.keeps .ring (by decide))
  have hdcomposer : d.composer = x.composer.discardPages := hd ▸ discardPages_composer .all x
  have howner := resetRequest_all hpayload x
  rw [← hd] at howner hslots hkeeps haside hmotion hlength
  obtain ⟨-, hhold, hedge, -, hstate, -, -, hmotionIdle⟩ := hresets
  rw [← hdfeed] at hhold hedge hstate hmotionIdle
  rw [show (emptied x).feed = s.feed from hfeed] at hstate hmotionIdle
  rw [hfeed] at hmotion
  have hpower : d.power = .running :=
    ((hkeeps .power (by decide)).trans (hx ▸ choose_power s)).trans (receives_power htakes.1)
  rw [hx] at howner hslots
  obtain ⟨u, hudef, huchoose, hanswered, hshown, hnotices, huaside⟩ :=
    completing_request resetRequest htakes howner hpower hslots
  rw [← hx] at hanswered hnotices hshown huaside huchoose
  have hlink := restoreDefaults_link (x.notices.entries.map Notice.number) d
  have hrate : d.link.rate = s.link.rate := by
    obtain ⟨-, -, -, -, hrate⟩ := (hx ▸ taken_linkAside rq s : LinkAside s x).trans haside
    exact hrate
  obtain ⟨hreceiver, hcrc, hheader, htimeouts, hurate⟩ := huaside
  have hufeed : u.feed = { d.feed with pitch := 0 } := hshown .feed (by decide)
  have huring : u.ring = (emptied x).ring := (hshown .ring (by decide)).trans hdring
  have hfew' : (x.notices.entries.map Notice.number).length + d.notices.entries.length < 256 := by
    have := congrArg List.length hnumbers
    simp only [List.length_map] at this ⊢
    omega
  have huassets : u.assets = AssetStore.blank := hshown .assets (by decide)
  refine ⟨u, hexec.trans (congrArg Host.Outcome.next hudef), ⟨d.link.serial, ?_⟩, ?_, ?_, ?_, ?_, ?_, ?_, ?_, ?_, ?_, ?_,
    fun i => ?_, ?_, ?_, ?_, ?_, ?_, fun hslots hpending hstands key hkey => ?_, ?_⟩
  · rwa [show x.composer = s.composer from hx ▸ taken_composer rq s] at hanswered
  · rw [show u.composer = { d.composer with lastId := 0 } from hshown .composer (by decide), hdcomposer]
    rfl
  · rw [huassets]
    rfl
  · rw [huassets]
    rfl
  · exact hshown .settings (by decide)
  · rw [hcrc, hlink]
  · rw [hheader, hlink]
  · rw [htimeouts, hlink]
  · obtain ⟨hdreceiver, -⟩ := (hx ▸ taken_linkAside rq s : LinkAside s x).trans haside
    rw [hreceiver, hlink, hdreceiver]
  · rw [hurate, hlink, hrate]
  · obtain ⟨n, hentries, hcontent, hrevision, hsent, hnumber⟩ := restart_entries
      (content := .ready .request (Config.identity d.link.rate)) hfew'
    refine ⟨n, ?_, by rw [hcontent, hrate], hrevision, hsent, hnumbers ▸ hnumber⟩
    rw [hnotices]
    exact hentries
  · rw [huring]
    exact BandRing.void_all_stateOf x.ring i
  · rw [huring]
    exact emptied_waiting x
  · rw [hufeed, hhold]
  · rw [hufeed]
  · rw [hufeed, hedge]
  · rw [hufeed]
    refine hstate.imp id fun ⟨_, hsame, _, hreset⟩ => ⟨hsame, ?_⟩
    rw [hreset]
    simp [PendingStops.addReset]
  · obtain ⟨hslot, hother⟩ := motion_slot_taken htakes hslots hkey
    obtain ⟨kind, hdlink⟩ := hmotion key hkey hstands
    refine ⟨by rw [hufeed]; exact (hmotionIdle key hkey hstands).1,
      { seq := key.seq, kind := kind, status := .stopped,
        results := s.feed.state.motionResults s.feed.pitch, serial := x.link.serial }, rfl,
      fun n done hmoving => motionResults_moving hmoving,
      fun limit count moved found hcal => motionResults_calibrating hcal, ?_⟩
    rw [huchoose]
    refine choose_sends_or_holds ?_
    show slotReply? (fillSlot d.link.slots rq.key _) key = _
    rw [slotReply_fillSlot_ne _ hother, hdlink]
    exact slotReply_fillSlot_same _ (hx ▸ hslot)
  · exact ((((hx ▸ taken_keeps rq s : Keeps [.link, .notices] s x).weaken (by decide)).trans
      (hkeeps.weaken (by decide))).trans ((restoreDefaults_keeps _ d).weaken (by decide))).trans
      (hshown.weaken (by decide))

end Sys2Proof.Machine
end

section
/-! PROOF. The band ring (R95 to R106): its buffers, their order and their tags after each of its operations, and
the print order after each change of the queue (R97). -/

namespace Sys2Proof.Machine

/-! ### The buffers and their order -/

/-- The law of the buffers as a law of the ring and the engine (R69, R95, R96). -/
structure Buffers (r : BandRing) (e : Option Render) : Prop where
  nodup : r.order.Nodup
  mem : ∀ i, i ∈ r.order ↔ r.stateOf i ≠ .free
  draining : ∀ i j, (r.stateOf i).isDraining = true → (r.stateOf j).isDraining = true → i = j
  filling : ∀ i, (r.stateOf i).isFilling = true ↔ e.map Render.buffer = some i
  render : ∀ x ∈ e, (r.stateOf x.buffer).tag? = some x.tag ∧ r.order.getLast? = some x.buffer

theorem bufferLaw_iff (s : State) : BufferLaw s ↔ Buffers s.ring s.engine :=
  ⟨fun ⟨h1, h2, h3, h4, h5⟩ => ⟨h1, h2, h3, h4, h5⟩, fun ⟨h1, h2, h3, h4, h5⟩ => ⟨h1, h2, h3, h4, h5⟩⟩

/-- The last of a list stays the last of those that a test keeps with it. -/
theorem getLast?_filter_of_getLast? {α : Type} {l : List α} {a : α} {q : α → Bool} (h : l.getLast? = some a)
    (ha : q a = true) : (l.filter q).getLast? = some a := by
  obtain ⟨front, rfl⟩ := List.getLast?_eq_some_iff.mp h
  simp [List.filter_append, ha]

namespace Buffers

variable {r r' : BandRing} {e e' : Option Render}

/-- The law reads the states, the order, and which buffer is rendered with which tag. -/
theorem congr (h : Buffers r e) (hstate : ∀ i, r'.stateOf i = r.stateOf i) (horder : r'.order = r.order)
    (hengine : e'.map (fun x => (x.buffer, x.tag)) = e.map fun x => (x.buffer, x.tag)) : Buffers r' e' := by
  have hbuffer : e'.map Render.buffer = e.map Render.buffer := by
    have := congrArg (Option.map Prod.fst) hengine
    simpa [Option.map_map, Function.comp_def] using this
  refine ⟨horder ▸ h.nodup, fun i => by rw [horder, hstate, h.mem], fun i j => ?_, fun i => ?_, fun x hx => ?_⟩
  · rw [hstate, hstate]
    exact h.draining i j
  · rw [hstate, hbuffer]
    exact h.filling i
  · obtain rfl := hx
    obtain ⟨y, hy, heq⟩ := Option.map_eq_some_iff.mp hengine.symm
    obtain ⟨htag, hlast⟩ := h.render y hy
    obtain ⟨hbuf, htags⟩ := Prod.mk.inj heq
    rw [hstate, horder, ← hbuf, ← htags]
    exact ⟨htag, hlast⟩

theorem not_filling (h : Buffers r none) (i : Fin 4) : (r.stateOf i).isFilling = false := by
  by_contra hno
  simpa using (h.filling i).mp (by simpa using hno)

/-- An assignment gives a FREE buffer to an IDLE engine (R100). -/
theorem assign (h : Buffers r none) {i : Fin 4} (hi : r.stateOf i = .free) (t : Tag) :
    Buffers (r.assign i t) (some { buffer := i, tag := t, progress := 0 }) := by
  have hout : i ∉ r.order := fun hmem => (h.mem i).mp hmem hi
  refine ⟨?_, fun j => ?_, fun j k => ?_, fun j => ?_, fun x hx => ?_⟩
  · rw [BandRing.assign_order]
    exact h.nodup.append (by simp) (by simpa using hout)
  · rw [BandRing.assign_order, BandRing.stateOf_assign, List.mem_append, h.mem, List.mem_singleton]
    by_cases hj : i = j
    · simp [hj]
    · simp [hj, Ne.symm hj]
  · rw [BandRing.stateOf_assign, BandRing.stateOf_assign]
    by_cases hj : i = j
    · simp [hj, BufferState.isDraining]
    · by_cases hk : i = k
      · simp [hk, BufferState.isDraining]
      · rw [if_neg hj, if_neg hk]
        exact h.draining j k
  · rw [BandRing.stateOf_assign]
    by_cases hj : i = j
    · simp [hj, BufferState.isFilling]
    · simp [hj, h.not_filling j]
  · obtain rfl := Option.some.inj hx
    rw [BandRing.stateOf_assign, if_pos rfl, BandRing.assign_order]
    exact ⟨rfl, by simp⟩

theorem void_isFilling (b : BufferState) (pick : Tag → Bool) : (b.void pick).isFilling = b.isFilling := by
  cases b with
  | free | filling => rfl
  | ready t | draining t => cases hp : pick t <;> simp [BufferState.void, hp, BufferState.isFilling]

theorem void_tag?_of_filling {b : BufferState} (h : b.isFilling = true) (pick : Tag → Bool) :
    (b.void pick).tag? = b.tag? := by
  cases b <;> first | rfl | cases h

/-- Voiding leaves the render that is void in its buffer (R105). -/
theorem void (h : Buffers r e) (pick : Tag → Bool) : Buffers (r.void pick) e := by
  have hdraining (i : Fin 4) (hi : ((r.void pick).stateOf i).isDraining = true) : (r.stateOf i).isDraining = true := by
    by_contra hno
    rw [BandRing.stateOf_void, BufferState.void_not_draining (by simpa using hno)] at hi
    cases hi
  refine ⟨h.nodup.filter _, fun i => ?_, fun i j hi hj => h.draining i j (hdraining i hi) (hdraining j hj), fun i => ?_,
    fun x hx => ?_⟩
  · show i ∈ r.order.filter _ ↔ _
    rw [List.mem_filter, h.mem, BandRing.stateOf_void, decide_eq_true_iff, and_iff_right_iff_imp]
    intro hno hfree
    exact hno (by rw [hfree]; rfl)
  · rw [BandRing.stateOf_void, void_isFilling]
    exact h.filling i
  · obtain ⟨htag, hlast⟩ := h.render x hx
    have hfilling : (r.stateOf x.buffer).isFilling = true := (h.filling x.buffer).mpr (by rw [hx]; rfl)
    rw [BandRing.stateOf_void, void_tag?_of_filling hfilling]
    refine ⟨htag, getLast?_filter_of_getLast? hlast (decide_eq_true fun hfree => ?_)⟩
    rw [← void_isFilling _ pick, hfree] at hfilling
    cases hfilling

/-- The engine without a render of a buffer. -/
theorem engine_without {x : Render} {i : Fin 4} (hx : e.filter (fun x => decide (x.buffer ≠ i)) = some x) :
    e = some x ∧ x.buffer ≠ i := by
  simpa using Option.filter_eq_some_iff.mp hx

theorem filling_without (h : Buffers r e) {i j : Fin 4} (hj : i ≠ j) : (r.stateOf j).isFilling = true ↔
    (e.filter fun x => decide (x.buffer ≠ i)).map Render.buffer = some j := by
  rw [h.filling]
  cases e with
  | none => simp
  | some x =>
    by_cases hx : x.buffer = i
    · simp [Option.filter, hx, hj]
    · simp [Option.filter, hx]

theorem not_filling_without {i : Fin 4} :
    (e.filter fun x => decide (x.buffer ≠ i)).map Render.buffer ≠ some i := by
  intro hsome
  obtain ⟨x, hx, hi⟩ := Option.map_eq_some_iff.mp hsome
  exact (engine_without hx).2 hi

/-- A buffer becomes FREE, and a render of it ends (R72, R103). -/
theorem freeBuffer (h : Buffers r e) (i : Fin 4) :
    Buffers (r.freeBuffer i) (e.filter fun x => decide (x.buffer ≠ i)) := by
  refine ⟨h.nodup.filter _, fun j => ?_, fun j k => ?_, fun j => ?_, fun x hx => ?_⟩
  · show j ∈ r.order.filter _ ↔ _
    rw [List.mem_filter, h.mem, BandRing.stateOf_freeBuffer]
    by_cases hj : i = j
    · simp [hj]
    · simp [hj, Ne.symm hj]
  · rw [BandRing.stateOf_freeBuffer, BandRing.stateOf_freeBuffer]
    by_cases hj : i = j
    · simp [hj, BufferState.isDraining]
    · by_cases hk : i = k
      · simp [hk, BufferState.isDraining]
      · rw [if_neg hj, if_neg hk]
        exact h.draining j k
  · rw [BandRing.stateOf_freeBuffer]
    by_cases hj : i = j
    · subst hj
      simp only [if_true, BufferState.isFilling, Bool.false_eq_true, false_iff]
      exact not_filling_without
    · rw [if_neg hj]
      exact h.filling_without hj
  · obtain ⟨hsome, hne⟩ := engine_without hx
    obtain ⟨htag, hlast⟩ := h.render x hsome
    rw [BandRing.stateOf_freeBuffer, if_neg (Ne.symm hne)]
    exact ⟨htag, getLast?_filter_of_getLast? hlast (by simpa using hne)⟩

/-- A buffer that is not FREE becomes READY or the only DRAINING one, and a render of it ends (R101, R102). -/
theorem setState (h : Buffers r e) {i : Fin 4} {st : BufferState} (hi : r.stateOf i ≠ .free) (hst : st.live = true)
    (hfilling : st.isFilling = false) (hdraining : st.isDraining = true → ∀ j, (r.stateOf j).isDraining = false) :
    Buffers (r.setState i st) (e.filter fun x => decide (x.buffer ≠ i)) := by
  have hfree : st ≠ .free := by
    rintro rfl
    cases hst
  refine ⟨h.nodup, fun j => ?_, fun j k => ?_, fun j => ?_, fun x hx => ?_⟩
  · rw [BandRing.setState_order, h.mem, BandRing.stateOf_setState]
    by_cases hj : i = j
    · simpa [hj ▸ hi, hj] using hfree
    · rw [if_neg hj]
  · rw [BandRing.stateOf_setState, BandRing.stateOf_setState]
    by_cases hj : i = j
    · by_cases hk : i = k
      · exact fun _ _ => hj.symm.trans hk
      · rw [if_pos hj, if_neg hk]
        intro hdrains hk'
        rw [hdraining hdrains k] at hk'
        cases hk'
    · by_cases hk : i = k
      · rw [if_neg hj, if_pos hk]
        intro hj' hdrains
        rw [hdraining hdrains j] at hj'
        cases hj'
      · rw [if_neg hj, if_neg hk]
        exact h.draining j k
  · rw [BandRing.stateOf_setState]
    by_cases hj : i = j
    · subst hj
      simp only [if_true, hfilling, Bool.false_eq_true, false_iff]
      exact not_filling_without
    · rw [if_neg hj]
      exact h.filling_without hj
  · obtain ⟨hsome, hne⟩ := engine_without hx
    obtain ⟨htag, hlast⟩ := h.render x hsome
    rw [BandRing.stateOf_setState, if_neg (Ne.symm hne)]
    exact ⟨htag, hlast⟩

/-- A buffer that is not FILLING is rendered by no engine. -/
theorem engine_kept (h : Buffers r e) {i : Fin 4} (hi : (r.stateOf i).isFilling = false) :
    e.filter (fun x => decide (x.buffer ≠ i)) = e := by
  cases e with
  | none => rfl
  | some x =>
    have hne : x.buffer ≠ i := fun heq => by
      have := (h.filling i).mpr (by rw [← heq]; rfl)
      simp [hi] at this
    simp [Option.filter, hne]

end Buffers

/-! ### The tags of the non-void buffers -/

/-- The position that a non-void buffer holds. -/
def BufferState.liveTag? (b : BufferState) : Option Tag := if b.live then b.tag? else none

theorem BandRing.liveTags_eq (r : BandRing) : r.liveTags = r.order.filterMap fun i => (r.stateOf i).liveTag? := by
  unfold BandRing.liveTags BandRing.liveOrder
  rw [List.filterMap_filter]
  rfl

theorem BufferState.liveTag?_void (b : BufferState) (pick : Tag → Bool) :
    (b.void pick).liveTag? = b.liveTag?.filter fun t => !pick t := by
  cases b with
  | free => rfl
  | filling t void =>
    cases void <;> cases hp : pick t <;>
      simp [BufferState.void, hp, BufferState.liveTag?, BufferState.live, BufferState.tag?, Option.filter]
  | ready t | draining t =>
    cases hp : pick t <;>
      simp [BufferState.void, hp, BufferState.liveTag?, BufferState.live, BufferState.tag?, Option.filter]

/-- Voiding takes the picked positions from the ring (R105). -/
theorem BandRing.liveTags_void (r : BandRing) (pick : Tag → Bool) :
    (r.void pick).liveTags = r.liveTags.filter fun t => !pick t := by
  rw [BandRing.liveTags_eq, BandRing.liveTags_eq, List.filter_filterMap]
  show (r.order.filter fun i => decide ((r.stateOf i).void pick ≠ .free)).filterMap _ = _
  rw [List.filterMap_filter]
  refine List.filterMap_congr fun i _ => ?_
  rw [BandRing.stateOf_void, BufferState.liveTag?_void]
  split
  · rfl
  next hfree =>
    have hgone : (r.stateOf i).void pick = .free := by simpa using hfree
    rw [← BufferState.liveTag?_void, hgone]
    rfl

/-- An assigned position comes last (R99). -/
theorem BandRing.liveTags_assign {r : BandRing} {i : Fin 4} (hi : i ∉ r.order) (t : Tag) :
    (r.assign i t).liveTags = r.liveTags ++ [t] := by
  rw [BandRing.liveTags_eq, BandRing.liveTags_eq, BandRing.assign_order, List.filterMap_append]
  congr 1
  · refine List.filterMap_congr fun j hj => ?_
    rw [BandRing.stateOf_assign, if_neg fun heq => hi (by rw [heq]; exact hj)]
  · simp [BufferState.liveTag?, BufferState.live, BufferState.tag?]

/-- Among different values, the value of one member is taken away with it. -/
theorem filterMap_without {α β : Type} [DecidableEq α] [DecidableEq β] {f : α → Option β} {l : List α} {i : α} {a : β}
    (hi : i ∈ l) (ha : f i = some a) (hl : l.Nodup) (hnodup : (l.filterMap f).Nodup) :
    (l.filter fun j => decide (j ≠ i)).filterMap f = (l.filterMap f).filter fun b => decide (b ≠ a) := by
  induction l with
  | nil => cases hi
  | cons j rest ih =>
    obtain ⟨hfresh, hrest⟩ := List.nodup_cons.mp hl
    by_cases hj : j = i
    · subst hj
      rw [List.filterMap_cons_some ha] at hnodup ⊢
      have hout := (List.nodup_cons.mp hnodup).1
      have hkept : (rest.filter fun k => decide (k ≠ j)) = rest :=
        List.filter_eq_self.mpr fun k hk => decide_eq_true fun heq => hfresh (heq ▸ hk)
      have hvalues : (rest.filterMap f).filter (fun b => decide (b ≠ a)) = rest.filterMap f :=
        List.filter_eq_self.mpr fun b hb => decide_eq_true fun heq => hout (heq ▸ hb)
      rw [List.filter_cons_of_neg (by simp), hkept, List.filter_cons_of_neg (by simp), hvalues]
    · have hmem : i ∈ rest := (List.mem_cons.mp hi).resolve_left (Ne.symm hj)
      rw [List.filter_cons_of_pos (by simpa using hj)]
      cases hf : f j with
      | none =>
        rw [List.filterMap_cons_none hf] at hnodup
        rw [List.filterMap_cons_none hf, List.filterMap_cons_none hf]
        exact ih hmem hrest hnodup
      | some b =>
        rw [List.filterMap_cons_some hf] at hnodup
        obtain ⟨hout, hnodup⟩ := List.nodup_cons.mp hnodup
        have hne : b ≠ a := fun heq => hout (heq ▸ List.mem_filterMap.mpr ⟨i, hmem, ha⟩)
        rw [List.filterMap_cons_some hf, List.filterMap_cons_some hf, List.filter_cons_of_pos (by simpa using hne),
          ih hmem hrest hnodup]

/-- A buffer that becomes FREE gives back its position (R103). -/
theorem BandRing.liveTags_freeBuffer {r : BandRing} {i : Fin 4} {t : Tag} (hi : i ∈ r.order)
    (ht : (r.stateOf i).liveTag? = some t) (horder : r.order.Nodup) (hnodup : r.liveTags.Nodup) :
    (r.freeBuffer i).liveTags = r.liveTags.filter fun x => decide (x ≠ t) := by
  rw [BandRing.liveTags_eq] at hnodup ⊢
  rw [BandRing.liveTags_eq, ← filterMap_without hi ht horder hnodup]
  refine List.filterMap_congr fun j hj => ?_
  have hne : j ≠ i := by simpa using (List.mem_filter.mp hj).2
  rw [BandRing.stateOf_freeBuffer, if_neg (Ne.symm hne)]

/-! ### The print order -/

theorem pagePositions_page {p : Page} {t : Tag} (h : t ∈ pagePositions p) : t.page = p.id := by
  obtain ⟨c, -, ht⟩ := List.mem_flatMap.mp h
  obtain ⟨b, -, rfl⟩ := List.mem_map.mp ht
  rfl

theorem State.positionsOf_page {s : State} {id : Nat} {t : Tag} (h : t ∈ s.positionsOf id) : t.page = id := by
  unfold State.positionsOf at h
  split at h
  next p hp => exact (pagePositions_page h).trans (State.page?_id hp)
  · cases h

theorem pagePositions_nodup (p : Page) : (pagePositions p).Nodup := by
  unfold pagePositions
  refine List.nodup_flatMap.mpr ⟨fun c _ => ?_, ?_⟩
  · exact List.nodup_range.map fun b b' heq => (Tag.mk.inj heq).2.2
  · refine List.nodup_range.imp_of_mem fun {c c'} _ _ hne => ?_
    rw [Function.onFun, List.disjoint_left]
    intro t ht ht'
    obtain ⟨b, -, rfl⟩ := List.mem_map.mp ht
    obtain ⟨b', -, heq⟩ := List.mem_map.mp ht'
    obtain ⟨-, hcopy, -⟩ := Tag.mk.inj heq
    omega

/-- No position comes twice in the print order (R97). -/
theorem printOrder_nodup {s : State} (h : PagesLaw s) : s.printOrder.Nodup := by
  have hqueue : s.composer.queue.Nodup := h.1.2.2.2.2.2.1
  rw [State.printOrder_eq]
  refine List.nodup_flatMap.mpr ⟨fun id _ => ?_, hqueue.imp_of_mem fun {a b} _ _ hne => ?_⟩
  · unfold State.positionsOf
    split
    · exact pagePositions_nodup _
    · exact List.nodup_nil
  · rw [Function.onFun, List.disjoint_left]
    intro t ht ht'
    exact hne ((State.positionsOf_page ht).symm.trans (State.positionsOf_page ht'))

/-- What the print order and the cursor read of a page. -/
def Page.place (p : Page) : Nat × Nat × Nat × Nat × Nat := (p.id, p.length, p.bandCount, p.copiesOrdered, p.copiesDone)

/-- The queue is the same, and so is a value of each of its pages. -/
def SamePages {α : Type} (f : Page → α) (s t : State) : Prop :=
  t.composer.queue = s.composer.queue ∧ ∀ id ∈ s.composer.queue, (t.page? id).map f = (s.page? id).map f

namespace SamePages

variable {α β : Type} {f : Page → α} {s t : State}

theorem mono (h : SamePages f s t) (g : α → β) : SamePages (g ∘ f) s t :=
  ⟨h.1, fun id hid => by rw [← Option.map_map, ← Option.map_map, h.2 id hid]⟩

theorem of_composer (h : t.composer = s.composer) : SamePages f s t :=
  ⟨by rw [h], fun id _ => by rw [State.page?, State.page?, h]⟩

theorem headPage? (h : SamePages f s t) : t.headPage?.map f = s.headPage?.map f := by
  unfold State.headPage?
  rw [h.1]
  cases hhead : s.composer.queue.head? with
  | none => rfl
  | some id => exact h.2 id (List.mem_of_mem_head? hhead)

theorem positionsOf (h : SamePages Page.place s t) {id : Nat} (hid : id ∈ s.composer.queue) :
    t.positionsOf id = s.positionsOf id := by
  have hplace := h.2 id hid
  unfold State.positionsOf
  cases hs : s.page? id with
  | none =>
    rw [hs, Option.map_none, Option.map_eq_none_iff] at hplace
    rw [hplace]
  | some p =>
    rw [hs] at hplace
    obtain ⟨q, hq, heq⟩ := Option.map_eq_some_iff.mp hplace
    rw [hq]
    simp only [Page.place, Prod.mk.injEq] at heq
    obtain ⟨hid, -, hbands, hordered, hdone⟩ := heq
    simp only [pagePositions, copyPositions, hid, hbands, hordered, hdone]

theorem printOrder (h : SamePages Page.place s t) : t.printOrder = s.printOrder := by
  rw [State.printOrder_eq, State.printOrder_eq, h.1]
  exact List.flatMap_congr fun id hid => h.positionsOf hid

theorem cursor? (h : SamePages Page.place s t) (hline : t.feed.line = s.feed.line) : t.cursor? = s.cursor? := by
  have hhead := congrArg (Option.map fun x : Nat × Nat × Nat × Nat × Nat =>
    ({ page := x.1, copy := x.2.2.2.2, line := s.feed.line } : Cursor)) h.headPage?
  simpa [State.cursor?, hline, Option.map_map, Function.comp_def, Page.place] using hhead

theorem length (h : SamePages Page.place s t) {n : Nat} (hs : ∀ p ∈ s.headPage?, n < p.length) :
    ∀ p ∈ t.headPage?, n < p.length := by
  intro p hp
  have hhead := h.headPage?
  rw [show t.headPage? = some p from hp] at hhead
  obtain ⟨q, hq, heq⟩ := Option.map_eq_some_iff.mp hhead.symm
  have hlong := hs q hq
  rw [show q.length = p.length from congrArg (fun x => x.2.1) heq] at hlong
  exact hlong

end SamePages

/-- The decisions of the feed move no page in the print order. -/
theorem Decided.samePages {s t : State} (h : Decided s t) : SamePages Page.place s t := by
  obtain ⟨g, hg, hpage⟩ := h.page?
  refine ⟨h.queue, fun id _ => ?_⟩
  rw [hpage, Option.map_map]
  congr 1
  funext p
  rw [Function.comp, (hg p).record]
  rfl

/-! ### The print order as pages come and go -/

/-- The order without the positions of a page. -/
theorem flatMap_filter_of_page {f : Nat → List Tag} (hf : ∀ id, ∀ t ∈ f id, t.page = id) (id : Nat) (queue : List Nat) :
    (queue.filter fun j => decide (j ≠ id)).flatMap f = (queue.flatMap f).filter fun t => decide (t.page ≠ id) := by
  induction queue with
  | nil => rfl
  | cons a rest ih =>
    rw [List.flatMap_cons, List.filter_append, ← ih]
    by_cases ha : a = id
    · have hgone : (f a).filter (fun t => decide (t.page ≠ id)) = [] :=
        List.filter_eq_nil_iff.mpr fun t ht => by simpa using (hf a t ht).trans ha
      rw [List.filter_cons_of_neg (by simpa using ha), hgone, List.nil_append]
    · have hkept : (f a).filter (fun t => decide (t.page ≠ id)) = f a :=
        List.filter_eq_self.mpr fun t ht => decide_eq_true ((hf a t ht).symm ▸ ha)
      rw [List.filter_cons_of_pos (by simpa using ha), List.flatMap_cons, hkept]

/-- A page that leaves the queue takes its positions from the print order (R13). -/
theorem printOrder_without {s t : State} {id : Nat}
    (hqueue : t.composer.queue = s.composer.queue.filter fun j => decide (j ≠ id))
    (hothers : ∀ j, j ≠ id → t.page? j = s.page? j) :
    t.printOrder = s.printOrder.filter fun x => decide (x.page ≠ id) := by
  rw [State.printOrder_eq, State.printOrder_eq, hqueue, ← flatMap_filter_of_page fun _ _ => State.positionsOf_page]
  refine List.flatMap_congr fun j hj => ?_
  have hne : j ≠ id := by simpa using (List.mem_filter.mp hj).2
  unfold State.positionsOf
  rw [hothers j hne]

/-- The first positions of the print order, as many as the head page has bands, are the head page's. -/
theorem printOrder_take {s : State} (h : PagesLaw s) {p : Page} (hhead : s.headPage? = some p) {k : Nat}
    (hk : k ≤ p.bandCount) : k ≤ s.printOrder.length ∧ ∀ t ∈ s.printOrder.take k, t.page = p.id := by
  obtain ⟨tail, -, horder, -, -, -, hcopies⟩ := printOrder_head h hhead
  rw [horder, pagePositions_cons hcopies, List.append_assoc]
  have hlen : (copyPositions p p.copiesDone).length = p.bandCount := by simp [copyPositions]
  refine ⟨?_, fun t ht => ?_⟩
  · rw [List.length_append, hlen]
    omega
  · rw [List.take_append_of_le_length (by rw [hlen]; exact hk)] at ht
    obtain ⟨b, -, rfl⟩ := List.mem_map.mp (List.mem_of_mem_take ht)
    rfl

/-- The ring's positions of the pages that stay go on in the print order, from the cursor's band on, or from the
beginning when the head page left (R98, R99). -/
theorem prefix_without {s t : State} {id k : Nat} {tags : List Tag} (h : PagesLaw s)
    (hqueue : t.composer.queue = s.composer.queue.filter fun j => decide (j ≠ id))
    (hothers : ∀ j, j ≠ id → t.page? j = s.page? j) (htags : tags <+: s.printOrder.drop k)
    (hk : ∀ p ∈ s.headPage?, k ≤ p.bandCount) :
    (tags.filter fun x => decide (x.page ≠ id)) <+:
      t.printOrder.drop (if s.composer.queue.head? = some id then 0 else k) := by
  rw [printOrder_without hqueue hothers]
  suffices hsame : (s.printOrder.drop k).filter (fun x => decide (x.page ≠ id)) =
      (s.printOrder.filter fun x => decide (x.page ≠ id)).drop (if s.composer.queue.head? = some id then 0 else k) from
    hsame ▸ htags.filter _
  cases hhead : s.headPage? with
  | none =>
    rw [State.printOrder_eq, headPage?_eq_none h hhead]
    simp
  | some p =>
    obtain ⟨tail, hq, -⟩ := printOrder_head h hhead
    obtain ⟨hlen, hfirst⟩ := printOrder_take h hhead (hk p hhead)
    have hsplit : s.printOrder.filter (fun x => decide (x.page ≠ id)) =
        (s.printOrder.take k).filter (fun x => decide (x.page ≠ id)) ++
          (s.printOrder.drop k).filter fun x => decide (x.page ≠ id) := by
      rw [← List.filter_append, List.take_append_drop]
    rw [hsplit, hq]
    by_cases hid : p.id = id
    · have hgone : (s.printOrder.take k).filter (fun x => decide (x.page ≠ id)) = [] :=
        List.filter_eq_nil_iff.mpr fun t ht => by simpa using (hfirst t ht).trans hid
      rw [hgone]
      simp [hid]
    · have hkept : (s.printOrder.take k).filter (fun x => decide (x.page ≠ id)) = s.printOrder.take k :=
        List.filter_eq_self.mpr fun t ht => decide_eq_true ((hfirst t ht).symm ▸ hid)
      have htaken : (s.printOrder.take k).length = k := by simp [hlen]
      rw [hkept, if_neg (by simpa using hid), List.drop_append_of_le_length htaken.ge,
        List.drop_of_length_le htaken.le, List.nil_append]

end Sys2Proof.Machine
end

section
/-! PROOF. The law of pages, ring, engine and cursor (R3, R95 to R99, R103), and what keeps it. -/

namespace Sys2Proof.Machine

/-- The laws of pages, band ring and engine, with the cursor's line (R2, R3, R95, R98, R99, R103). -/
structure BandLaw (s : State) : Prop where
  pages : PagesLaw s
  buffers : Buffers s.ring s.engine
  ring : RingLaw s
  inside : ∀ p ∈ s.headPage?, s.feed.line < p.length
  empty : s.composer.queue = [] → s.feed.line = 0
  drains : ∀ i, (s.ring.stateOf i).isDraining = true → (s.ring.stateOf i).tag? = s.cursorTag?

/-! ### Pages and cursor -/

theorem PagesLaw.head_long {s : State} (h : PagesLaw s) : ∀ p ∈ s.headPage?, 16 ≤ p.length := by
  intro p hp
  obtain ⟨-, -, -, -, -, hlong, -⟩ := printOrder_head h hp
  exact hlong

theorem headPage?_of_queue_nil {s : State} (h : s.composer.queue = []) : s.headPage? = none := by
  simp [State.headPage?, h]

theorem cursorTag?_of_queue_nil {s : State} (h : s.composer.queue = []) : s.cursorTag? = none := by
  simp [State.cursorTag?, State.cursor?, headPage?_of_queue_nil h]

theorem cursorTag?_of_cursor? {s t : State} (h : t.cursor? = s.cursor?) : t.cursorTag? = s.cursorTag? := by
  rw [State.cursorTag?, State.cursorTag?, h]

/-- The band that holds the line of the cursor (R98). -/
theorem band_le {s : State} (h : PagesLaw s) (hinside : ∀ p ∈ s.headPage?, s.feed.line < p.length) :
    ∀ p ∈ s.headPage?, s.feed.line / 64 + 1 ≤ p.bandCount := by
  intro p hp
  obtain ⟨-, -, -, -, hbands, -, -⟩ := printOrder_head h hp
  have hline := hinside p hp
  rw [hbands, bandCountOf, Config.bandHeight]
  omega

theorem BufferState.draining_of {b : BufferState} (h : b.isDraining = true) : ∃ t, b = .draining t := by
  cases b with
  | draining t => exact ⟨t, rfl⟩
  | free | filling | ready => cases h

theorem BandRing.liveTags_congr {r r' : BandRing} (hstate : ∀ i, r'.stateOf i = r.stateOf i)
    (horder : r'.order = r.order) : r'.liveTags = r.liveTags := by
  rw [BandRing.liveTags_eq, BandRing.liveTags_eq, horder]
  simp only [hstate]

theorem BandRing.draining?_congr {r r' : BandRing} (h : ∀ i, (r'.stateOf i).isDraining = (r.stateOf i).isDraining) :
    r'.draining? = r.draining? := by
  simp only [BandRing.draining?, h]

/-- The cursor stands in the head page (R98). -/
theorem cursorTag?_head {s : State} {tag : Tag} (h : s.cursorTag? = some tag) :
    s.composer.queue.head? = some tag.page := by
  unfold State.cursorTag? State.cursor? State.headPage? at h
  rw [Option.map_map] at h
  obtain ⟨p, hp, rfl⟩ := Option.map_eq_some_iff.mp h
  obtain ⟨id, hhead, hfound⟩ := Option.bind_eq_some_iff.mp hp
  obtain rfl := State.page?_id hfound
  exact hhead

/-- A page behind the head leaves the head page. -/
theorem headPage?_without {s t : State} {id : Nat} (hhead : s.composer.queue.head? ≠ some id)
    (hqueue : t.composer.queue = s.composer.queue.filter fun j => decide (j ≠ id))
    (hothers : ∀ j, j ≠ id → t.page? j = s.page? j) : t.headPage? = s.headPage? := by
  unfold State.headPage?
  rw [hqueue]
  cases hq : s.composer.queue with
  | nil => rfl
  | cons a tail =>
    have ha : a ≠ id := by simpa [hq] using hhead
    rw [List.filter_cons_of_pos (by simpa using ha)]
    exact hothers a ha

/-- A page that joins behind a head page leaves it. -/
theorem headPage?_enqueued {s t : State} {id : Nat} (hnil : s.composer.queue ≠ [])
    (hqueue : t.composer.queue = s.composer.queue ++ [id])
    (hothers : ∀ j ∈ s.composer.queue, t.page? j = s.page? j) : t.headPage? = s.headPage? := by
  unfold State.headPage?
  rw [hqueue]
  cases hq : s.composer.queue with
  | nil => exact absurd hq hnil
  | cons a tail => exact hothers a (by simp [hq])

namespace BandLaw

variable {s t : State}

/-- A ring in the same states, and pages in the same places. -/
theorem congr (h : BandLaw s) (hpages : PagesLaw t) (hsame : SamePages Page.place s t)
    (hline : t.feed.line = s.feed.line) (hstate : ∀ i, t.ring.stateOf i = s.ring.stateOf i)
    (horder : t.ring.order = s.ring.order)
    (hengine : t.engine.map (fun x => (x.buffer, x.tag)) = s.engine.map fun x => (x.buffer, x.tag)) : BandLaw t := by
  refine ⟨hpages, h.buffers.congr hstate horder hengine, ?_, ?_, ?_, fun i hi => ?_⟩
  · rw [RingLaw, BandRing.liveTags_congr hstate horder, hsame.printOrder, hline]
    exact h.ring
  · rw [hline]
    exact hsame.length h.inside
  · rw [hsame.1, hline]
    exact h.empty
  · rw [hstate] at hi ⊢
    rw [h.drains i hi, cursorTag?_of_cursor? (hsame.cursor? hline)]

/-- The same ring and engine. -/
theorem of_same (h : BandLaw s) (hpages : PagesLaw t) (hsame : SamePages Page.place s t)
    (hline : t.feed.line = s.feed.line) (hring : t.ring = s.ring) (hengine : t.engine = s.engine) : BandLaw t :=
  h.congr hpages hsame hline (fun i => by rw [hring]) (by rw [hring]) (by rw [hengine])

/-- A change of the feed that leaves its line. -/
theorem onFeed (h : BandLaw s) {f : Feed → Feed} (hline : (f s.feed).line = s.feed.line) : BandLaw (s.onFeed f) :=
  h.of_same (h.pages.of_composer rfl) (.of_composer rfl) hline rfl rfl

/-- A decision of the feed that asks nothing of the ring. -/
theorem decided (h : BandLaw s) (hdecided : Decided s t) (hpages : PagesLaw t)
    (hstate : ∀ i, t.ring.stateOf i = s.ring.stateOf i) (horder : t.ring.order = s.ring.order) : BandLaw t :=
  h.congr hpages hdecided.samePages hdecided.line hstate horder (by rw [hdecided.keeps .engine (by decide)])

/-! ### The ring goes on -/

theorem assigned (h : BandLaw s) : BandLaw (assignBand s) := by
  obtain hsame | ⟨i, next, hidle, hfree, hnext, hassign⟩ := assignBand_cases s
  · rwa [hsame]
  · have hi := BandRing.lowestFree_free hfree
    have hout : i ∉ s.ring.order := fun hmem => (h.buffers.mem i).mp hmem hi
    have hbuffers := h.buffers
    rw [hidle] at hbuffers
    rw [hassign]
    refine ⟨h.pages.of_composer rfl, hbuffers.assign hi next, ?_, h.inside, h.empty, fun j hj => ?_⟩
    · show (s.ring.assign i next).liveTags <+: s.printOrder.drop (s.feed.line / 64)
      rw [BandRing.liveTags_assign hout]
      obtain ⟨rest, hrest⟩ := h.ring
      rw [nextBand?_eq h.pages h.inside h.ring, ← List.getElem?_drop, ← hrest,
        List.getElem?_append_right le_rfl, Nat.sub_self, ← List.head?_eq_getElem?] at hnext
      obtain ⟨tail, rfl⟩ := List.head?_eq_some_iff.mp hnext
      exact ⟨tail, by rw [← hrest, List.append_assoc]; rfl⟩
    · change ((s.ring.assign i next).stateOf j).isDraining = true at hj
      show ((s.ring.assign i next).stateOf j).tag? = s.cursorTag?
      rw [BandRing.stateOf_assign] at hj ⊢
      split at hj
      · cases hj
      next hne =>
        rw [if_neg hne]
        exact h.drains j hj

/-- The oldest buffer, READY with the cursor's position, is granted to the feed (R102). -/
theorem granted (h : BandLaw s) {i : Fin 4} {tag : Tag} (hready : s.ring.stateOf i = .ready tag)
    (hcursor : s.cursorTag? = some tag) (hnone : s.ring.draining? = none) :
    BandLaw (s.withRing (s.ring.setState i (.draining tag))) := by
  have hkept := h.buffers.engine_kept (i := i) (by rw [hready]; rfl)
  have hset := h.buffers.setState (i := i) (st := .draining tag) (by simp [hready]) rfl rfl
    fun _ j => BandRing.draining_none hnone j
  rw [hkept] at hset
  refine ⟨h.pages.of_composer rfl, hset, ?_, h.inside, h.empty, fun j hj => ?_⟩
  · show (s.ring.setState i (.draining tag)).liveTags <+: s.printOrder.drop (s.feed.line / 64)
    rw [BandRing.liveTags_setState (by rw [hready]; rfl) (by rw [hready]; rfl)]
    exact h.ring
  · change ((s.ring.setState i (.draining tag)).stateOf j).isDraining = true at hj
    show ((s.ring.setState i (.draining tag)).stateOf j).tag? = s.cursorTag?
    rw [BandRing.stateOf_setState] at hj ⊢
    split
    · exact hcursor.symm
    next hne =>
      rw [if_neg hne, BandRing.draining_none hnone j] at hj
      cases hj

/-- A full render ends with its buffer READY (R101). -/
theorem rendered (h : BandLaw s) {r : Render} (hr : s.engine = some r)
    (hvoid : (s.ring.stateOf r.buffer).isVoid = false) :
    s.ring.stateOf r.buffer = .filling r.tag false ∧
      BandLaw ((s.withRing (s.ring.setState r.buffer (.ready r.tag))).withEngine none) := by
  have hfilling : (s.ring.stateOf r.buffer).isFilling = true := (h.buffers.filling r.buffer).mpr (by rw [hr]; rfl)
  obtain ⟨htag, -⟩ := h.buffers.render r hr
  have hstate : s.ring.stateOf r.buffer = .filling r.tag false := by
    cases hs : s.ring.stateOf r.buffer with
    | filling t void =>
      rw [hs] at htag hvoid
      obtain rfl : t = r.tag := Option.some.inj htag
      rw [show void = false from hvoid]
    | free | ready | draining => simp [hs, BufferState.isFilling] at hfilling
  have hset := h.buffers.setState (i := r.buffer) (st := .ready r.tag) (by simp [hstate]) rfl rfl fun hno => nomatch hno
  rw [hr, Option.filter_some_neg (by simp)] at hset
  refine ⟨hstate, h.pages.of_composer rfl, hset, ?_, h.inside, h.empty, fun j hj => ?_⟩
  · show (s.ring.setState r.buffer (.ready r.tag)).liveTags <+: s.printOrder.drop (s.feed.line / 64)
    rw [BandRing.liveTags_setState (by rw [hstate]; rfl) (by rw [hstate]; rfl)]
    exact h.ring
  · change ((s.ring.setState r.buffer (.ready r.tag)).stateOf j).isDraining = true at hj
    show ((s.ring.setState r.buffer (.ready r.tag)).stateOf j).tag? = s.cursorTag?
    rw [BandRing.stateOf_setState] at hj ⊢
    split at hj
    · cases hj
    next hne =>
      rw [if_neg hne]
      exact h.drains j hj

/-- A void render ends with its buffer FREE (R72). -/
theorem voidRendered (h : BandLaw s) {r : Render} (hr : s.engine = some r)
    (hvoid : (s.ring.stateOf r.buffer).isVoid = true) : BandLaw (voidEnded r s) := by
  have hdead : (s.ring.stateOf r.buffer).live = false := by
    cases hs : s.ring.stateOf r.buffer <;> simp_all [BufferState.isVoid, BufferState.live]
  have hfreed := h.buffers.freeBuffer r.buffer
  rw [hr, Option.filter_some_neg (by simp)] at hfreed
  refine ⟨h.pages.of_composer rfl, hfreed, ?_, h.inside, h.empty, fun j hj => ?_⟩
  · show (s.ring.freeBuffer r.buffer).liveTags <+: s.printOrder.drop (s.feed.line / 64)
    rw [BandRing.liveTags_freeBuffer_of_void hdead]
    exact h.ring
  · change ((s.ring.freeBuffer r.buffer).stateOf j).isDraining = true at hj
    show ((s.ring.freeBuffer r.buffer).stateOf j).tag? = s.cursorTag?
    rw [BandRing.stateOf_freeBuffer] at hj ⊢
    split at hj
    · cases hj
    next hne =>
      rw [if_neg hne]
      exact h.drains j hj

/-! ### The ring begins again -/

theorem void_all_not_draining (r : BandRing) (i : Fin 4) : ((r.void fun _ => true).stateOf i).isDraining = false := by
  obtain h | ⟨tag, h⟩ := BandRing.void_all_stateOf r i <;> rw [h] <;> rfl

/-- With every buffer void the cursor stands at line 0 of any print order (R108). -/
theorem voided {e : Option Render} {r : BandRing} (h : Buffers r e) (hpages : PagesLaw t)
    (hring : t.ring = r.void fun _ => true) (hengine : t.engine = e) (hline : t.feed.line = 0) : BandLaw t := by
  refine ⟨hpages, ?_, ?_, fun p hp => ?_, fun _ => hline, fun i hi => ?_⟩
  · rw [hring, hengine]
    exact h.void _
  · rw [RingLaw, hring, BandRing.liveTags_void]
    simp
  · rw [hline]
    exact Nat.lt_of_lt_of_le (by decide) (hpages.head_long p hp)
  · rw [hring, void_all_not_draining] at hi
    cases hi

/-! ### The cursor moves -/

/-- At the last line of a band the buffer that held it is FREE, and the ring goes on at the next band (R103). -/
theorem freed (h : BandLaw s) {i : Fin 4} (hi : s.ring.draining? = some i) :
    Buffers (s.ring.freeBuffer i) s.engine ∧
      (s.ring.freeBuffer i).liveTags <+: s.printOrder.drop (s.feed.line / 64 + 1) ∧
      ∀ j, ((s.ring.freeBuffer i).stateOf j).isDraining = false := by
  have hdrains := BandRing.draining_found hi
  obtain ⟨t, hstate⟩ := BufferState.draining_of hdrains
  have hat : s.printOrder[s.feed.line / 64]? = some t := by
    rw [← cursorTag?_eq h.pages h.inside, ← h.drains i hdrains, hstate]
    rfl
  have hmem : i ∈ s.ring.order := (h.buffers.mem i).mpr (by simp [hstate])
  have hlive : (s.ring.stateOf i).liveTag? = some t := by rw [hstate]; rfl
  have htags : t ∈ s.ring.liveTags := by
    rw [BandRing.liveTags_eq]
    exact List.mem_filterMap.mpr ⟨i, hmem, hlive⟩
  obtain ⟨rest, hrest⟩ := h.ring
  have hnodup : s.ring.liveTags.Nodup := by
    have hdropped := (printOrder_nodup h.pages).sublist (List.drop_sublist (s.feed.line / 64) _)
    rw [← hrest] at hdropped
    exact hdropped.of_append_left
  have hfreed := BandRing.liveTags_freeBuffer hmem hlive h.buffers.nodup hnodup
  refine ⟨?_, ?_, fun j => ?_⟩
  · have hbuffers := h.buffers.freeBuffer i
    rwa [h.buffers.engine_kept (by rw [hstate]; rfl)] at hbuffers
  · rw [hfreed]
    cases htagList : s.ring.liveTags with
    | nil => simp [htagList] at htags
    | cons a tail =>
      rw [htagList] at hrest hnodup
      have hfirst : a = t := by
        rw [← Nat.add_zero (s.feed.line / 64), ← List.getElem?_drop, ← hrest] at hat
        simpa using hat
      subst hfirst
      have hout := (List.nodup_cons.mp hnodup).1
      have hkept : tail.filter (fun b => decide (b ≠ a)) = tail :=
        List.filter_eq_self.mpr fun b hb => decide_eq_true fun heq => hout (heq ▸ hb)
      rw [List.filter_cons_of_neg (by simp), hkept]
      exact ⟨rest, by rw [← List.drop_drop, ← hrest]; rfl⟩
  · rw [BandRing.stateOf_freeBuffer]
    split
    · rfl
    next hne =>
      by_contra hno
      exact hne (h.buffers.draining i j hdrains (by simpa using hno))

/-- Inside a copy the cursor moves to the next line (R119). -/
theorem lineDone (h : BandLaw s) {p : Page} (hhead : s.headPage? = some p) (hmore : s.feed.line + 1 ≠ p.length)
    {i : Fin 4} (hi : s.ring.draining? = some i) (hcomposer : t.composer = s.composer) (hengine : t.engine = s.engine)
    (hline : t.feed.line = s.feed.line + 1)
    (hring : t.ring = if s.feed.line % 64 = 63 then s.ring.freeBuffer i else s.ring) : BandLaw t := by
  have hpages : PagesLaw t := h.pages.of_composer hcomposer
  have hsame : SamePages Page.place s t := .of_composer hcomposer
  have hinside : ∀ p ∈ t.headPage?, t.feed.line < p.length := by
    rw [hline]
    refine hsame.length fun q hq => ?_
    obtain rfl := Option.some.inj (hhead.symm.trans hq)
    have := h.inside p hhead
    omega
  have hempty (hnil : t.composer.queue = []) : t.feed.line = 0 := by
    rw [hsame.1] at hnil
    rw [headPage?_of_queue_nil hnil] at hhead
    cases hhead
  by_cases hlast : s.feed.line % 64 = 63
  · rw [if_pos hlast] at hring
    obtain ⟨hbuffers, htags, hnone⟩ := h.freed hi
    refine ⟨hpages, by rw [hring, hengine]; exact hbuffers, ?_, hinside, hempty, fun j hj => ?_⟩
    · rw [RingLaw, hring, hsame.printOrder, hline, show (s.feed.line + 1) / 64 = s.feed.line / 64 + 1 by omega]
      exact htags
    · rw [hring, hnone] at hj
      cases hj
  · rw [if_neg hlast] at hring
    have hband : t.feed.line / 64 = s.feed.line / 64 := by omega
    refine ⟨hpages, by rw [hring, hengine]; exact h.buffers, ?_, hinside, hempty, fun j hj => ?_⟩
    · rw [RingLaw, hring, hsame.printOrder, hband]
      exact h.ring
    · rw [hring] at hj ⊢
      rw [h.drains j hj, cursorTag?_eq h.pages h.inside, cursorTag?_eq hpages hinside, hsame.printOrder, hband]

/-- After the last line of a copy with more to come, the cursor stands at the next copy's first line (R11, R122). -/
theorem copyDone (h : BandLaw s) {p : Page} (hhead : s.headPage? = some p) (hlast : s.feed.line + 1 = p.length)
    {i : Fin 4} (hi : s.ring.draining? = some i) (hpages : PagesLaw t)
    (hqueue : t.composer.queue = s.composer.queue)
    (hpage : ∀ j, t.page? j = if j = p.id then (s.page? j).map fun q => { q with copiesDone := q.copiesDone + 1 }
      else s.page? j)
    (hengine : t.engine = s.engine) (hline : t.feed.line = 0) (hring : t.ring = s.ring.freeBuffer i) : BandLaw t := by
  obtain ⟨tail, hq, horder, hfound, hbands, hlong, hcopies⟩ := printOrder_head h.pages hhead
  obtain ⟨hbuffers, htags, hnone⟩ := h.freed hi
  have hfresh : p.id ∉ tail := by
    have hnodup : s.composer.queue.Nodup := h.pages.1.2.2.2.2.2.1
    rw [hq] at hnodup
    exact (List.nodup_cons.mp hnodup).1
  have horderT : t.printOrder = pagePositions { p with copiesDone := p.copiesDone + 1 } ++
      tail.flatMap s.positionsOf := by
    rw [State.printOrder_eq, hqueue, hq, List.flatMap_cons]
    congr 1
    · exact State.positionsOf_found ((hpage p.id).trans (by rw [if_pos rfl, hfound]; rfl))
    · refine List.flatMap_congr fun j hj => ?_
      unfold State.positionsOf
      rw [hpage, if_neg (by rintro rfl; exact hfresh hj)]
  refine ⟨hpages, by rw [hring, hengine]; exact hbuffers, ?_, fun q hq' => ?_, fun _ => hline, fun j hj => ?_⟩
  · have hdrop : t.printOrder = s.printOrder.drop (s.feed.line / 64 + 1) := by
      have hcount : (copyPositions p p.copiesDone).length = s.feed.line / 64 + 1 := by
        rw [copyPositions, List.length_map, List.length_range, hbands, bandCountOf, Config.bandHeight]
        omega
      rw [horderT, horder, pagePositions_cons hcopies, List.append_assoc, ← hcount, List.drop_left]
    rw [RingLaw, hring, hline, hdrop]
    exact htags
  · rw [hline]
    exact Nat.lt_of_lt_of_le (by decide) (hpages.head_long q hq')
  · rw [hring, hnone] at hj
    cases hj

/-- A page that leaves the queue takes its buffers with it, and the ring of the others goes on (R13, R106). -/
theorem without {id k : Nat} {r : BandRing} (hs : PagesLaw s) (hbuffers : Buffers r t.engine)
    (htags : r.liveTags <+: s.printOrder.drop k) (hk : ∀ p ∈ s.headPage?, k ≤ p.bandCount) (hpages : PagesLaw t)
    (hqueue : t.composer.queue = s.composer.queue.filter fun j => decide (j ≠ id))
    (hothers : ∀ j, j ≠ id → t.page? j = s.page? j) (hring : t.ring = r.void fun tag => decide (tag.page = id))
    (hband : t.feed.line / 64 = if s.composer.queue.head? = some id then 0 else k)
    (hinside : ∀ p ∈ t.headPage?, t.feed.line < p.length) (hempty : t.composer.queue = [] → t.feed.line = 0)
    (hdrains : ∀ i, (t.ring.stateOf i).isDraining = true → (t.ring.stateOf i).tag? = t.cursorTag?) : BandLaw t := by
  refine ⟨hpages, by rw [hring]; exact hbuffers.void _, ?_, hinside, hempty, hdrains⟩
  rw [RingLaw, hring, BandRing.liveTags_void, hband]
  have hsame : (fun tag : Tag => !decide (tag.page = id)) = fun tag => decide (tag.page ≠ id) := by
    funext tag
    simp
  rw [hsame]
  exact prefix_without hs hqueue hothers htags hk

/-- The last copy of the head page ends it (R11, R13). -/
theorem pageDone (h : BandLaw s) {p : Page} (hhead : s.headPage? = some p) {i : Fin 4} (hi : s.ring.draining? = some i)
    (hpages : PagesLaw t) (hqueue : t.composer.queue = s.composer.queue.filter fun j => decide (j ≠ p.id))
    (hothers : ∀ j, j ≠ p.id → t.page? j = s.page? j) (hengine : t.engine = s.engine) (hline : t.feed.line = 0)
    (hring : t.ring = (s.ring.freeBuffer i).void fun tag => decide (tag.page = p.id)) : BandLaw t := by
  obtain ⟨hbuffers, htags, hnone⟩ := h.freed hi
  obtain ⟨tail, hq, -⟩ := printOrder_head h.pages hhead
  refine without h.pages (hengine ▸ hbuffers) htags (band_le h.pages h.inside) hpages hqueue hothers hring ?_
    (fun q hq' => ?_) (fun _ => hline) fun j hj => ?_
  · rw [hline, hq]
    simp
  · rw [hline]
    exact Nat.lt_of_lt_of_le (by decide) (hpages.head_long q hq')
  · rw [hring, BandRing.stateOf_void, BufferState.void_not_draining (hnone j)] at hj
    cases hj

/-- A DRAINING buffer after voiding was DRAINING, and is not picked. -/
theorem draining_of_void {b : BufferState} {pick : Tag → Bool}
    (h : (b.void pick).isDraining = true) : b.void pick = b ∧ b.isDraining = true ∧ ∀ t ∈ b.tag?, pick t = false := by
  have hlive : (b.void pick).live = true := by
    obtain ⟨t, ht⟩ := BufferState.draining_of h
    rw [ht]
    rfl
  obtain ⟨hsame, -, hpick⟩ := BufferState.live_of_void hlive
  exact ⟨hsame, hsame ▸ h, hpick⟩

/-- A page that is cancelled takes its buffers with it; the cursor stays, or goes to the new head's first line (R13,
R131). -/
theorem pageCancelled (h : BandLaw s) {id : Nat} (hpages : PagesLaw t)
    (hqueue : t.composer.queue = s.composer.queue.filter fun j => decide (j ≠ id))
    (hothers : ∀ j, j ≠ id → t.page? j = s.page? j) (hengine : t.engine = s.engine)
    (hline : t.feed.line = if s.composer.queue.head? = some id then 0 else s.feed.line)
    (hring : t.ring = s.ring.void fun tag => decide (tag.page = id)) : BandLaw t := by
  have hk (p : Page) (hp : p ∈ s.headPage?) : s.feed.line / 64 ≤ p.bandCount :=
    (Nat.le_succ _).trans (band_le h.pages h.inside p hp)
  by_cases hhead : s.composer.queue.head? = some id
  · rw [if_pos hhead] at hline
    refine without h.pages (hengine ▸ h.buffers) h.ring hk hpages hqueue hothers hring (by rw [hline, if_pos hhead])
      (fun q hq => ?_) (fun _ => hline) fun j hj => ?_
    · rw [hline]
      exact Nat.lt_of_lt_of_le (by decide) (hpages.head_long q hq)
    · rw [hring, BandRing.stateOf_void] at hj
      obtain ⟨-, hdrains, hpick⟩ := draining_of_void hj
      have htag := h.drains j hdrains
      obtain ⟨tag, hstate⟩ := BufferState.draining_of hdrains
      rw [hstate] at htag hpick
      have hpage := cursorTag?_head htag.symm
      rw [hhead] at hpage
      have hno := hpick tag rfl
      simp [← Option.some.inj hpage] at hno
  · have hsame := headPage?_without hhead hqueue hothers
    have hcursor : t.cursor? = s.cursor? := by
      rw [State.cursor?, State.cursor?, hsame, hline, if_neg hhead]
    refine without h.pages (hengine ▸ h.buffers) h.ring hk hpages hqueue hothers hring
      (by rw [hline, if_neg hhead, if_neg hhead]) ?_ (fun hnil => ?_) fun j hj => ?_
    · rw [hsame, hline, if_neg hhead]
      exact h.inside
    · rw [hline, if_neg hhead]
      refine h.empty ?_
      rw [hqueue] at hnil
      cases hq : s.composer.queue with
      | nil => rfl
      | cons a tail =>
        rw [hq] at hnil hhead
        rw [List.filter_cons_of_pos (by simpa using hhead)] at hnil
        cases hnil
    · rw [hring, BandRing.stateOf_void] at hj ⊢
      obtain ⟨hkept, hdrains, -⟩ := draining_of_void hj
      rw [hkept, h.drains j hdrains, cursorTag?_of_cursor? hcursor]

/-- A page joins the print order at its end (R8, R97). -/
theorem enqueued (h : BandLaw s) {id : Nat} (hpages : PagesLaw t)
    (hqueue : t.composer.queue = s.composer.queue ++ [id])
    (hothers : ∀ j ∈ s.composer.queue, t.page? j = s.page? j) (hline : t.feed.line = s.feed.line)
    (hring : t.ring = s.ring) (hengine : t.engine = s.engine) : BandLaw t := by
  have horder : t.printOrder = s.printOrder ++ t.positionsOf id := by
    rw [State.printOrder_eq, State.printOrder_eq, hqueue, List.flatMap_append, List.flatMap_singleton]
    congr 1
    refine List.flatMap_congr fun j hj => ?_
    unfold State.positionsOf
    rw [hothers j hj]
  refine ⟨hpages, by rw [hring, hengine]; exact h.buffers, ?_, fun p hp => ?_, fun hnil => ?_, fun i hi => ?_⟩
  · rw [RingLaw, hring, hline, horder, List.drop_append]
    exact h.ring.trans (List.prefix_append _ _)
  · rw [hline]
    by_cases hnil : s.composer.queue = []
    · rw [h.empty hnil]
      exact Nat.lt_of_lt_of_le (by decide) (hpages.head_long p hp)
    · rw [headPage?_enqueued hnil hqueue hothers] at hp
      exact h.inside p hp
  · simp [hqueue] at hnil
  · rw [hring] at hi ⊢
    have htag := h.drains i hi
    obtain ⟨tag, hstate⟩ := BufferState.draining_of hi
    by_cases hnil : s.composer.queue = []
    · rw [hstate, cursorTag?_of_queue_nil hnil] at htag
      cases htag
    · rw [htag]
      refine (cursorTag?_of_cursor? ?_).symm
      rw [State.cursor?, State.cursor?, headPage?_enqueued hnil hqueue hothers, hline]

end BandLaw

end Sys2Proof.Machine
end

section
/-! PROOF. The law of the feed (R102, R112, R119, R138, R139), and the decisions of the feed at a line boundary, each
of which leaves a lawful state. -/

namespace Sys2Proof.Machine

/-! ### The law of the feed -/

/-- The head page is ACTIVE. -/
def HeadActive (s : State) : Prop := ∃ p ∈ s.headPage?, p.state = .active

/-- The laws of the feed controller, against pages, ring and cursor (R4, R98, R102, R112, R119, R139, R143). -/
structure FeedLaw (s : State) : Prop where
  request : RequestLaw s
  outside : s.feed.state.insideCopy = false → s.feed.line = 0
  ended : s.feed.openLine.any OpenLine.copyEnded = true → s.feed.line = 0
  stopped : s.feed.pending.cancel = true ∨ s.feed.pending.reset.isSome = true → s.feed.line = 0
  motion : MotionLaw s
  head : s.feed.state.worksOnHead = true → s.feed.pending.cancel = false → s.feed.pending.reset = none →
    s.feed.openLine.any OpenLine.copyEnded = false → HeadActive s
  none_active : s.feed.pending.cancel = true ∨ s.feed.pending.reset.isSome = true →
    ∀ p ∈ s.composer.pages, p.state ≠ .active
  called : s.feed.called = some .burn → s.ring.draining?.isSome = true
  burning : ∀ l ∈ s.feed.openLine, s.feed.inFlight = .burn → l.copyEnded = false ∧
    (s.isActive l.page = true → s.ring.draining?.isSome = true ∧
      s.cursor?.map (fun c => (c.page, c.line)) = some (l.page, l.line))
  context : ContextLaw s

/-- The printing law is the law of pages, ring and cursor with the law of the feed. -/
theorem printingLaw_iff (s : State) : PrintingLaw s ↔ BandLaw s ∧ FeedLaw s := by
  constructor
  · rintro ⟨hpage, hentry, hbuffers, hrequest, hring, ⟨hinside, hempty, houtside, hended, hstopped⟩, hmotion,
      ⟨hhead, hnone⟩, ⟨hdrains, hcalled, hburning⟩, hcontext⟩
    exact ⟨⟨⟨hpage, hentry⟩, (bufferLaw_iff s).mp hbuffers, hring, hinside, hempty, hdrains⟩,
      hrequest, houtside, hended, hstopped, hmotion, hhead, hnone, hcalled, hburning, hcontext⟩
  · rintro ⟨⟨⟨hpage, hentry⟩, hbuffers, hring, hinside, hempty, hdrains⟩,
      hrequest, houtside, hended, hstopped, hmotion, hhead, hnone, hcalled, hburning, hcontext⟩
    exact ⟨hpage, hentry, (bufferLaw_iff s).mpr hbuffers, hrequest, hring,
      ⟨hinside, hempty, houtside, hended, hstopped⟩, hmotion, ⟨hhead, hnone⟩, ⟨hdrains, hcalled, hburning⟩, hcontext⟩

theorem PrintingLaw.pages {s : State} (h : PrintingLaw s) : PagesLaw s := ⟨h.1, h.2.1⟩

/-- A sequence of changes keeps the law of the page table. -/
theorem PagesLaw.evolved {s t : State} (h : PagesLaw s) (he : Evolves s t) : PagesLaw t :=
  he.keeps (Law := PagesLaw) (fun _ _ => Change.pagesLaw) h

theorem isActive_iff {s : State} {id : Nat} :
    s.isActive id = true ↔ ∃ p, s.page? id = some p ∧ p.state = .active := by
  unfold State.isActive
  cases s.page? id <;> simp

theorem headActive_of_isActive {s : State} (h : PagesLaw s) {id : Nat} (hactive : s.isActive id = true) :
    HeadActive s := by
  obtain ⟨p, hp, hstate⟩ := isActive_iff.mp hactive
  have hmem := State.page?_mem hp
  have hhead := (h.1.2.2.2.2.2.2.2 p hmem).2 hstate
  refine ⟨p, ?_, hstate⟩
  show s.composer.queue.head?.bind s.page? = some p
  rw [hhead]
  exact State.page?_of_mem h.1.2.1 hmem

namespace FeedLaw

variable {s t : State}

/-- A feed that stands at a boundary has no stop pending (R112). -/
theorem pending_of_standing (h : FeedLaw s) (hstands : s.feed.standing = true) : s.feed.pending = .none := by
  refine PendingStops.of_not_any ?_
  obtain ⟨-, -, -, -, -, hpending⟩ := h.motion
  by_contra hany
  rw [hpending (by simpa using hany)] at hstands
  cases hstands

/-- A feed that moves no media stands, with nothing called for (R112). -/
theorem rests (h : FeedLaw s) (hmoves : s.feed.state.moves = false) :
    s.feed.inFlight = .none ∧ s.feed.called = none ∧ s.feed.openLine = none ∧ s.feed.pending = .none := by
  obtain ⟨hmotion, -, hopen, -, -, -⟩ := h.motion
  obtain ⟨hflight, hcalled⟩ := not_or.mp (mt hmotion.mpr (by simp [hmoves]))
  have hline : s.feed.openLine = none := by
    by_contra hsome
    have hprinting := hopen (Option.isSome_iff_ne_none.mpr hsome)
    simp [hprinting, FeedState.moves] at hmoves
  have hflight : s.feed.inFlight = .none := not_not.mp hflight
  refine ⟨hflight, by simpa using hcalled, hline, h.pending_of_standing ?_⟩
  simp [Feed.standing, hflight, hline]

/-- A feed that rests while it works on the head page works on an ACTIVE page (R139). -/
theorem head_of_rests (h : FeedLaw s) (hmoves : s.feed.state.moves = false)
    (hworks : s.feed.state.worksOnHead = true) : HeadActive s := by
  obtain ⟨-, -, hopen, hpending⟩ := h.rests hmoves
  exact h.head hworks (by rw [hpending]; rfl) (by rw [hpending]; rfl) (by rw [hopen]; rfl)

theorem waiting_of_not_stalled (h : FeedLaw s) (hstate : s.feed.state ≠ .stalled) : s.ring.waiting = none := by
  have hno := mt h.request.1.mp hstate
  simpa using hno

/-- A waiting request is the cursor's, of an ACTIVE page (R102, R120). -/
theorem head_of_waiting (h : FeedLaw s) (hwaits : s.ring.waiting.isSome = true) : HeadActive s := by
  have hstalled := h.request.1.mp hwaits
  exact h.head_of_rests (by rw [hstalled]; rfl) (by rw [hstalled]; rfl)

/-- A burn that is called for is one of an ACTIVE page. -/
theorem head_of_called (h : FeedLaw s) (hcalled : s.feed.called = some .burn) : HeadActive s := by
  obtain ⟨-, hflight, -, -, hburn, -⟩ := h.motion
  obtain ⟨hprinting, hopen⟩ := hburn hcalled
  have hpending := h.pending_of_standing (by simp [Feed.standing, hflight (by rw [hcalled]; rfl), hopen])
  exact h.head (by rw [hprinting]; rfl) (by rw [hpending]; rfl) (by rw [hpending]; rfl) (by rw [hopen]; rfl)

end FeedLaw

/-- What the law of the feed reads of the feed, but the cursor's line. -/
def Feed.core (f : Feed) : FeedState × InFlight × Option Called × Option OpenLine × PendingStops × Nat :=
  (f.state, f.inFlight, f.called, f.openLine, f.pending, f.parked)

theorem ContextLaw.congr {s t : State} (h : ContextLaw s) (hstate : t.feed.state = s.feed.state)
    (hparked : t.feed.parked = s.feed.parked)
    (hcursor : s.feed.state.moves = false → s.feed.state.worksOnHead = true → t.cursor? = s.cursor?) :
    ContextLaw t := by
  unfold ContextLaw at h ⊢
  rw [hstate, hparked]
  cases hs : s.feed.state with
  | paused cause context =>
    rw [hs] at h hcursor
    cases context with
    | print | seek =>
      simp only [FeedState.paused?] at h ⊢
      rw [hcursor rfl rfl, h]
    | backfeed | trail | none => exact h
  | idle | backfeed | seekSearch | seekOffset | printing | stalled | trailing | moving | calibrating => trivial

/-- A change around the feed that leaves an ACTIVE head page, its cursor and its buffer, and activates nothing. -/
theorem FeedLaw.congr {s t : State} (h : FeedLaw s) (hs : PagesLaw s) (hcore : t.feed.core = s.feed.core)
    (hline : t.feed.line = s.feed.line ∨ t.feed.line = 0) (hwaiting : t.ring.waiting = s.ring.waiting)
    (hkept : HeadActive s → HeadActive t ∧ t.cursor? = s.cursor? ∧ t.ring.draining? = s.ring.draining?)
    (hactive : ∀ id, t.isActive id = true → s.isActive id = true)
    (hnone : (∀ p ∈ s.composer.pages, p.state ≠ .active) → ∀ p ∈ t.composer.pages, p.state ≠ .active) : FeedLaw t := by
  obtain ⟨hstate, hflight, hcalled, hopen, hpending, hparked⟩ :
      t.feed.state = s.feed.state ∧ t.feed.inFlight = s.feed.inFlight ∧ t.feed.called = s.feed.called ∧
        t.feed.openLine = s.feed.openLine ∧ t.feed.pending = s.feed.pending ∧ t.feed.parked = s.feed.parked := by
    simpa [Feed.core] using hcore
  have hzero (hz : s.feed.line = 0) : t.feed.line = 0 := hline.elim (fun heq => heq.trans hz) id
  have hstanding : t.feed.standing = s.feed.standing := by rw [Feed.standing, Feed.standing, hflight, hopen]
  refine ⟨⟨?_, fun hwaits => ?_⟩, fun hno => hzero ?_, fun hended => hzero ?_, fun hstops => hzero ?_, ?_,
    fun hworks hcancel hreset hended => ?_, fun hstops => ?_, fun hburn => ?_, fun l hl hburn => ?_, ?_⟩
  · rw [hwaiting, hstate]
    exact h.request.1
  · rw [hwaiting] at hwaits ⊢
    obtain ⟨htag, hdraining⟩ := h.request.2 hwaits
    obtain ⟨-, hcursor, hsame⟩ := hkept (h.head_of_waiting hwaits)
    exact ⟨by rw [htag, cursorTag?_of_cursor? hcursor], by rw [hsame, hdraining]⟩
  · exact h.outside (hstate ▸ hno)
  · exact h.ended (hopen ▸ hended)
  · exact h.stopped (hpending ▸ hstops)
  · unfold MotionLaw
    rw [hstate, hflight, hcalled, hopen, hpending, hstanding]
    exact h.motion
  · rw [hstate] at hworks
    rw [hpending] at hcancel hreset
    rw [hopen] at hended
    exact (hkept (h.head hworks hcancel hreset hended)).1
  · exact hnone (h.none_active (hpending ▸ hstops))
  · rw [hcalled] at hburn
    rw [(hkept (h.head_of_called hburn)).2.2]
    exact h.called hburn
  · rw [hopen] at hl
    rw [hflight] at hburn
    obtain ⟨hended, hof⟩ := h.burning l hl hburn
    refine ⟨hended, fun hact => ?_⟩
    have hact := hactive _ hact
    obtain ⟨-, hcursor, hsame⟩ := hkept (headActive_of_isActive hs hact)
    rw [hcursor, hsame]
    exact hof hact
  · exact ContextLaw.congr h.context hstate hparked fun hrests hworks =>
      (hkept (h.head_of_rests hrests hworks)).2.1

theorem HeadActive.same {s t : State} (h : HeadActive s) (hsame : SamePages (fun p => (p.place, p.state)) s t) :
    HeadActive t := by
  obtain ⟨p, hp, hactive⟩ := h
  have hhead := hsame.headPage?
  rw [show s.headPage? = some p from hp] at hhead
  obtain ⟨q, hq, hval⟩ := Option.map_eq_some_iff.mp hhead
  exact ⟨q, hq, (congrArg Prod.snd hval).trans hactive⟩

/-- A change of what the law does not read, with each queued page in its place and state. -/
theorem FeedLaw.of_pages {s t : State} (h : FeedLaw s) (hs : PagesLaw s) (ht : PagesLaw t)
    (hcore : t.feed.core = s.feed.core) (hline : t.feed.line = s.feed.line)
    (hwaiting : t.ring.waiting = s.ring.waiting) (hdraining : t.ring.draining? = s.ring.draining?)
    (hsame : SamePages (fun p => (p.place, p.state)) s t) : FeedLaw t := by
  have hplace : SamePages Page.place s t := hsame.mono Prod.fst
  have hactive (p : Page) (hp : p ∈ t.composer.pages) (hact : p.state = .active) :
      ∃ q, s.page? p.id = some q ∧ q.state = .active := by
    have hmem := (ht.1.2.2.2.2.2.2.2 p hp).1 (by rw [hact]; rfl)
    have heq := hsame.2 p.id (hsame.1 ▸ hmem)
    rw [State.page?_of_mem ht.1.2.1 hp] at heq
    obtain ⟨q, hq, hval⟩ := Option.map_eq_some_iff.mp heq.symm
    exact ⟨q, hq, (congrArg Prod.snd hval).trans hact⟩
  refine h.congr hs hcore (.inl hline) hwaiting (fun hhead => ⟨hhead.same hsame, hplace.cursor? hline, hdraining⟩)
    (fun id hid => ?_) fun hnone p hp hact => ?_
  · obtain ⟨p, hp, hact⟩ := isActive_iff.mp hid
    obtain ⟨q, hq, hqact⟩ := hactive p (State.page?_mem hp) hact
    exact isActive_iff.mpr ⟨q, State.page?_id hp ▸ hq, hqact⟩
  · obtain ⟨q, hq, hqact⟩ := hactive p hp hact
    exact hnone q (State.page?_mem hq) hqact

/-- A change around pages, ring and feed keeps their laws. -/
theorem PrintingLaw.of_pages {s t : State} (h : PrintingLaw s) (ht : PagesLaw t) (hcore : t.feed.core = s.feed.core)
    (hline : t.feed.line = s.feed.line) (hring : t.ring = s.ring) (hengine : t.engine = s.engine)
    (hsame : SamePages (fun p => (p.place, p.state)) s t) : PrintingLaw t := by
  obtain ⟨hband, hfeed⟩ := (printingLaw_iff s).mp h
  exact (printingLaw_iff t).mpr ⟨hband.of_same ht (hsame.mono Prod.fst) hline hring hengine,
    hfeed.of_pages hband.pages ht hcore hline (by rw [hring]) (by rw [hring]) hsame⟩

/-- The ring's test for an assignment keeps the laws (R100). -/
theorem PrintingLaw.assigned {s : State} (h : PrintingLaw s) : PrintingLaw (assignBand s) := by
  obtain ⟨hband, hfeed⟩ := (printingLaw_iff s).mp h
  have hkeeps := assignBand_keeps s
  have hcomposer : (assignBand s).composer = s.composer := hkeeps .composer (by decide)
  have hsameFeed : (assignBand s).feed = s.feed := hkeeps .feed (by decide)
  refine (printingLaw_iff _).mpr ⟨hband.assigned, hfeed.of_pages hband.pages (hband.pages.of_composer hcomposer)
    (by rw [hsameFeed]) (by rw [hsameFeed]) (assignBand_shows s).waiting ?_ (.of_composer hcomposer)⟩
  obtain hsame | ⟨i, next, -, hfree, -, hassign⟩ := assignBand_cases s
  · rw [hsame]
  · rw [hassign]
    refine BandRing.draining?_congr fun j => ?_
    show ((s.ring.assign i next).stateOf j).isDraining = _
    rw [BandRing.stateOf_assign]
    split
    next hij =>
      rw [← hij, BandRing.lowestFree_free hfree]
      rfl
    · rfl

end Sys2Proof.Machine
end

section
/-! PROOF. The decisions of the feed at a line boundary (R114 to R124, R138 to R142): each leaves a lawful state. -/

namespace Sys2Proof.Machine

/-! ### A step or a burn is called for and starts (R112) -/

/-- A step or a burn is called for. -/
def State.calling (what : Called) (s : State) : State := s.onFeed fun f => { f with called := some what }

/-- A change of the feed that leaves pages, ring, engine and the cursor's line. -/
theorem PrintingLaw.onFeed {s : State} (h : PrintingLaw s) {f : Feed → Feed} (hline : (f s.feed).line = s.feed.line)
    (hfeed : FeedLaw s → FeedLaw (s.onFeed f)) : PrintingLaw (s.onFeed f) := by
  obtain ⟨hband, hlaw⟩ := (printingLaw_iff s).mp h
  exact (printingLaw_iff _).mpr ⟨hband.onFeed hline, hfeed hlaw⟩

/-- A step that is called for starts. -/
theorem PrintingLaw.stepStarts {s : State} (h : PrintingLaw s) {d : Direction}
    (hcalled : s.feed.called = some (.step d)) : PrintingLaw (startStep d s) := by
  refine h.onFeed rfl fun hlaw => ?_
  obtain ⟨hmoves, hflight, hopen, -, -, -⟩ := hlaw.motion
  have hmoving : s.feed.state.moves = true := hmoves.mpr (.inr (by rw [hcalled]; rfl))
  exact {
    request := hlaw.request
    outside := hlaw.outside
    ended := hlaw.ended
    stopped := hlaw.stopped
    motion := ⟨⟨fun _ => .inl (by simp), fun _ => hmoving⟩, by simp, hopen, by simp, by simp, fun _ => rfl⟩
    head := hlaw.head
    none_active := hlaw.none_active
    called := by simp
    burning := by simp
    context := hlaw.context }

/-- A burn that is called for starts at the cursor's line. -/
theorem PrintingLaw.burnStarts {s : State} (h : PrintingLaw s) (hcalled : s.feed.called = some .burn) :
    PrintingLaw (startBurn s) := by
  refine h.onFeed rfl fun hlaw => ?_
  obtain ⟨-, hflight, -, -, hburn, hpending⟩ := hlaw.motion
  obtain ⟨hprinting, hopen⟩ := hburn hcalled
  obtain ⟨p, hp, hactive⟩ := hlaw.head_of_called hcalled
  have hcursor : s.cursor? = some { page := p.id, copy := p.copiesDone, line := s.feed.line } := by
    rw [State.cursor?, show s.headPage? = some p from hp]
    rfl
  have hstanding : s.feed.standing = true := by simp [Feed.standing, hflight (by rw [hcalled]; rfl), hopen]
  exact {
    request := hlaw.request
    outside := hlaw.outside
    ended := fun hended => by simp [hcursor] at hended
    stopped := hlaw.stopped
    motion := ⟨⟨fun _ => .inl (by simp), fun _ => congrArg FeedState.moves hprinting⟩, by simp, fun _ => hprinting,
      fun _ => by simp [hcursor], by simp, fun _ => rfl⟩
    head := fun _ _ _ _ => ⟨p, hp, hactive⟩
    none_active := hlaw.none_active
    called := by simp
    burning := fun l hl _ => by
      obtain rfl : { page := p.id, line := s.feed.line, copyEnded := false } = l := by simpa [hcursor] using hl
      exact ⟨rfl, fun _ => ⟨hlaw.called hcalled, congrArg (Option.map fun c : Cursor => (c.page, c.line)) hcursor⟩⟩
    context := hlaw.context }

/-- A step may be called for, whether it starts at once or waits for the line period. -/
theorem PrintingLaw.callStep {s : State} {d : Direction} (h : PrintingLaw (s.calling (.step d))) :
    PrintingLaw (callStep d s) := by
  unfold Machine.callStep
  split
  · exact h.stepStarts rfl
  · exact h

/-- A burn may be called for, whether it starts at once or waits for the line period. -/
theorem PrintingLaw.callBurn {s : State} (h : PrintingLaw (s.calling .burn)) : PrintingLaw (callBurn s) := by
  unfold Machine.callBurn
  split
  · exact h.burnStarts rfl
  · exact h

/-! ### Reports -/

/-- A report on the ACTIVE page counts (R12). -/
theorem SamePages.onActive {id : Nat} {f : Page → Page} (hf : ∀ p : Page, (f p).place = p.place ∧ (f p).state = p.state)
    (s : State) : SamePages (fun p => (p.place, p.state)) s (onActive id f s) := by
  refine ⟨rfl, fun j _ => ?_⟩
  have hid (p : Page) : (if p.state = .active then f p else p).id = p.id := by
    split
    · exact congrArg Prod.fst (hf p).1
    · rfl
  unfold Machine.onActive
  rw [State.page?_changePage _ _ _ _ hid]
  split
  · rw [Option.map_map]
    congr 1
    funext p
    simp only [Function.comp]
    split
    · rw [(hf p).1, (hf p).2]
    · rfl
  · rfl

theorem PrintingLaw.stallReported {s : State} (h : PrintingLaw s) (id : Nat) : PrintingLaw (reportStall id s) :=
  h.of_pages (h.pages.evolved (reportStall_evolves id s)) rfl rfl rfl rfl
    (.onActive (f := fun p => { p with stalls := saturate p.stalls 1 }) (fun _ => ⟨rfl, rfl⟩) s)

/-! ### The head page -/

theorem HeadActive.cursor {s : State} (h : HeadActive s) : ∃ c, s.cursor? = some c ∧ c.line = s.feed.line := by
  obtain ⟨p, hp, -⟩ := h
  exact ⟨_, by rw [State.cursor?, show s.headPage? = some p from hp]; rfl, rfl⟩

/-- The head page begun is ACTIVE (R10). -/
theorem headActive_beginHead {s : State} (h : PagesLaw (beginHead s)) (hqueue : s.composer.queue ≠ []) :
    HeadActive (beginHead s) := by
  cases hhead : (beginHead s).headPage? with
  | none => exact absurd ((beginHead_decided s).queue.symm.trans (headPage?_eq_none h hhead)) hqueue
  | some p =>
    refine ⟨p, hhead, ?_⟩
    have hbegun := beginHead_head p hhead
    obtain ⟨id, hid, hfound⟩ := Option.bind_eq_some_iff.mp hhead
    obtain ⟨q, hq, hqid, hin⟩ := h.1.2.2.2.2.2.2.1 id (List.mem_of_mem_head? hid)
    have hsame : (beginHead s).page? id = some q := hqid ▸ State.page?_of_mem h.1.2.1 hq
    obtain rfl : p = q := Option.some.inj (hfound.symm.trans hsame)
    cases hstate : p.state <;> simp_all [PageState.inQueue]

/-! ### The feed at a boundary -/

/-- The feed stands at a boundary with its stops spent, and pages, ring and cursor are lawful. -/
structure Deciding (s : State) : Prop where
  band : BandLaw s
  waiting : s.ring.waiting = none
  inFlight : s.feed.inFlight = .none
  called : s.feed.called = none
  openLine : s.feed.openLine = none
  pending : s.feed.pending = .none

/-- The law of a feed that stands at a boundary, or has a step or a burn called for there. -/
theorem FeedLaw.of_still {s : State} (hflight : s.feed.inFlight = .none) (hopen : s.feed.openLine = none)
    (hpending : s.feed.pending = .none) (hrequest : RequestLaw s)
    (houtside : s.feed.state.insideCopy = false → s.feed.line = 0)
    (hmoves : s.feed.state.moves = s.feed.called.isSome)
    (hburn : s.feed.called = some .burn → s.feed.state = .printing ∧ s.ring.draining?.isSome = true)
    (hhead : s.feed.state.worksOnHead = true → HeadActive s) (hcontext : ContextLaw s) : FeedLaw s where
  request := hrequest
  outside := houtside
  ended := fun hended => by simp [hopen] at hended
  stopped := fun hstops => by simp [hpending, PendingStops.none] at hstops
  motion := by
    refine ⟨by rw [hmoves, hflight]; simp, fun _ => hflight, fun hno => ?_, fun hno => ?_, fun hcalled => ?_,
      fun hno => ?_⟩
    · simp [hopen] at hno
    · simp [hflight] at hno
    · exact ⟨(hburn hcalled).1, hopen⟩
    · rw [hpending] at hno
      cases hno
  head := fun hworks _ _ _ => hhead hworks
  none_active := fun hstops => by simp [hpending, PendingStops.none] at hstops
  called := fun hcalled => (hburn hcalled).2
  burning := fun l hl _ => by simp [hopen] at hl
  context := hcontext

theorem RequestLaw.of_none {s : State} (hwaiting : s.ring.waiting = none) (hstate : s.feed.state ≠ .stalled) :
    RequestLaw s := by
  refine ⟨?_, fun hno => by simp [hwaiting] at hno⟩
  simp [hwaiting, hstate]

theorem ContextLaw.of_not_paused {s : State} (h : s.feed.state.paused? = none) : ContextLaw s := by
  unfold ContextLaw
  rw [h]
  trivial

namespace Deciding

variable {s t : State}

/-- A feed that moves no media, and is not STALLED, stands at a boundary. -/
theorem of_rests (h : PrintingLaw s) (hmoves : s.feed.state.moves = false) (hstate : s.feed.state ≠ .stalled) :
    Deciding s := by
  obtain ⟨hband, hlaw⟩ := (printingLaw_iff s).mp h
  obtain ⟨hflight, hcalled, hopen, hpending⟩ := hlaw.rests hmoves
  exact ⟨hband, hlaw.waiting_of_not_stalled hstate, hflight, hcalled, hopen, hpending⟩

/-- A change of the feed's state, parked distance, edge history, hold flag or pitch. -/
theorem onFeed (h : Deciding s) {f : Feed → Feed}
    (hsame : ((f s.feed).line, (f s.feed).inFlight, (f s.feed).called, (f s.feed).openLine, (f s.feed).pending) =
      (s.feed.line, s.feed.inFlight, s.feed.called, s.feed.openLine, s.feed.pending)) : Deciding (s.onFeed f) := by
  simp only [Prod.mk.injEq] at hsame
  obtain ⟨hline, hflight, hcalled, hopen, hpending⟩ := hsame
  exact ⟨h.band.onFeed hline, h.waiting, hflight.trans h.inFlight, hcalled.trans h.called, hopen.trans h.openLine,
    hpending.trans h.pending⟩

theorem enter (h : Deciding s) (st : FeedState) : Deciding (s.enter st) := h.onFeed rfl

theorem begun (h : Deciding s) : Deciding (beginHead s) := by
  have hfeed : (beginHead s).feed = s.feed := beginHead_keeps s .feed (by decide)
  have hring := beginHead_ring s
  exact ⟨h.band.decided (beginHead_decided s) (h.band.pages.begun rfl) (fun i => by rw [hring]) (by rw [hring]),
    by rw [hring, h.waiting], by rw [hfeed, h.inFlight], by rw [hfeed, h.called], by rw [hfeed, h.openLine],
    by rw [hfeed, h.pending]⟩

/-- A change of the blocks that the laws do not read. -/
theorem of_keeps {parts : List Part} (h : Deciding s) (hkeeps : Keeps parts s t)
    (hparts : .composer ∉ parts ∧ .ring ∉ parts ∧ .engine ∉ parts ∧ .feed ∉ parts) : Deciding t := by
  obtain ⟨hc, hr, he, hf⟩ := hparts
  have hcomposer : t.composer = s.composer := hkeeps .composer hc
  have hring : t.ring = s.ring := hkeeps .ring hr
  have hfeed : t.feed = s.feed := hkeeps .feed hf
  exact ⟨h.band.of_same (h.band.pages.of_composer hcomposer) (.of_composer hcomposer) (by rw [hfeed]) hring
      (hkeeps .engine he), by rw [hring, h.waiting], by rw [hfeed, h.inFlight], by rw [hfeed, h.called],
    by rw [hfeed, h.openLine], by rw [hfeed, h.pending]⟩

/-- What a decision leaves that asks nothing of the ring: a feed that rests, or a step called for. -/
theorem settles (h : Deciding s) {f : Feed → Feed} (hline : (f s.feed).line = s.feed.line)
    (hflight : (f s.feed).inFlight = s.feed.inFlight) (hopen : (f s.feed).openLine = s.feed.openLine)
    (hpending : (f s.feed).pending = s.feed.pending) (hstalled : (f s.feed).state ≠ .stalled)
    (houtside : (f s.feed).state.insideCopy = false → s.feed.line = 0)
    (hmoves : (f s.feed).state.moves = (f s.feed).called.isSome) (hburn : (f s.feed).called ≠ some .burn)
    (hhead : (f s.feed).state.worksOnHead = true → HeadActive s) (hcontext : ContextLaw (s.onFeed f)) :
    PrintingLaw (s.onFeed f) :=
  (printingLaw_iff _).mpr ⟨h.band.onFeed hline, .of_still (hflight.trans h.inFlight) (hopen.trans h.openLine)
    (hpending.trans h.pending) (.of_none h.waiting hstalled) (fun hno => hline.trans (houtside hno)) hmoves
    (fun hno => absurd hno hburn) hhead hcontext⟩

/-- A motion goes on with its next step (R112). -/
theorem steps (h : Deciding s) (d : Direction) (hmoves : s.feed.state.moves = true) (hline : s.feed.line = 0)
    (hhead : s.feed.state.worksOnHead = true → HeadActive s) : PrintingLaw (callStep d s) := by
  refine PrintingLaw.callStep (h.settles rfl rfl rfl rfl ?_ (fun _ => hline) hmoves (by simp) hhead (.of_not_paused ?_))
  · intro hstalled
    rw [show s.feed.state = .stalled from hstalled] at hmoves
    cases hmoves
  · exact paused?_of_moves hmoves

/-- A motion begins with its first step. -/
theorem entersStep (h : Deciding s) (d : Direction) {st : FeedState} (hmoves : st.moves = true)
    (hline : s.feed.line = 0) (hhead : st.worksOnHead = true → HeadActive s) : PrintingLaw (callStep d (s.enter st)) :=
  (h.enter st).steps d hmoves hline hhead

theorem goesIdle (h : Deciding s) (hline : s.feed.line = 0) : PrintingLaw (goIdle s) :=
  h.settles rfl rfl rfl rfl (by simp) (fun _ => hline) rfl (by simp) (fun hno => nomatch hno) (.of_not_paused rfl)

/-- The feed burns the cursor's line from the buffer that it holds (R119). -/
theorem burns (h : Deciding s) (hstate : s.feed.state = .printing) (hhead : HeadActive s)
    (hdraining : s.ring.draining?.isSome = true) : PrintingLaw (callBurn s) := by
  refine PrintingLaw.callBurn ((printingLaw_iff _).mpr ⟨h.band.onFeed rfl, .of_still h.inFlight h.openLine h.pending
    (.of_none h.waiting (by rw [State.calling, State.onFeed_feed, hstate]; simp)) (fun hno => ?_) ?_
    (fun _ => ⟨hstate, hdraining⟩) (fun _ => hhead) (.of_not_paused ?_)⟩)
  · rw [State.calling, State.onFeed_feed, hstate] at hno
    cases hno
  · rw [State.calling, State.onFeed_feed, hstate]
    rfl
  · rw [State.calling, State.onFeed_feed, hstate]
    rfl

/-! ### Pauses (R138 to R142) -/

theorem pausesPrint (h : Deciding s) (hhead : HeadActive s) (joined : Bool) (cause : PauseCause) :
    PrintingLaw (pausePrint joined cause s) := by
  obtain ⟨c, hcursor, hline⟩ := hhead.cursor
  simp only [pausePrint, hcursor]
  exact h.settles rfl rfl rfl rfl (by simp) (fun hno => nomatch hno) rfl (by simp) (fun _ => hhead) hcursor

theorem pausesSeek (h : Deciding s) (hhead : HeadActive s) (hline : s.feed.line = 0) (cause : PauseCause) :
    PrintingLaw (pauseSeek cause s) := by
  obtain ⟨c, hcursor, hat⟩ := hhead.cursor
  simp only [pauseSeek, hcursor]
  refine h.settles rfl rfl rfl rfl (by simp) (fun _ => hline) rfl (by simp) (fun _ => hhead) ?_
  obtain ⟨page, copy, line⟩ := c
  obtain rfl : line = 0 := hat.trans hline
  exact hcursor

theorem pausesBackfeed (h : Deciding s) (hhead : HeadActive s) (hline : s.feed.line = 0) (joined : Bool)
    (cause : PauseCause) : PrintingLaw (pauseBackfeed joined cause s) := by
  unfold pauseBackfeed
  split
  · exact h.pausesSeek hhead hline cause
  next hparked =>
    unfold keepParked
    split
    next hvalid =>
      refine h.settles rfl rfl rfl rfl (by simp) (fun _ => hline) rfl (by simp) (fun _ => hhead) ?_
      exact ⟨Nat.one_le_iff_ne_zero.mpr hparked, (if_pos hvalid).symm⟩
    next hvalid =>
      refine h.settles (f := fun f => { f with
          state := .paused cause (.backfeed s.feed.parked (positionValid joined cause s)), edge := none, called := none,
          parked := 0 }) rfl rfl rfl rfl (by simp) (fun _ => hline) rfl (by simp) (fun _ => hhead) ?_
      exact ⟨Nat.one_le_iff_ne_zero.mpr hparked, (if_neg hvalid).symm⟩

theorem pausesTrail (h : Deciding s) (hline : s.feed.line = 0) (joined : Bool) (cause : PauseCause) (remaining : Nat) :
    PrintingLaw (pauseTrail joined cause remaining s) := by
  unfold pauseTrail keepParked
  split
  next hvalid =>
    refine h.settles rfl rfl rfl rfl (by simp) (fun _ => hline) rfl (by simp) (fun hno => nomatch hno) fun hno => ?_
    rw [hvalid] at hno
    cases hno
  next hvalid =>
    exact h.settles (f := fun f => { f with
        state := .paused cause (.trail remaining (positionValid joined cause s)), edge := none, called := none,
        parked := 0 }) rfl rfl rfl rfl (by simp) (fun _ => hline) rfl (by simp) (fun hno => nomatch hno) fun _ => rfl

/-! ### Printing and seeking (R117 to R120) -/

/-- PRINTING at a boundary: the line is burned from the buffer held or from the one granted, or the feed stalls. -/
theorem prints (h : Deciding s) (hhead : HeadActive s) : PrintingLaw (printLine s) := by
  obtain ⟨c, hcursor, -⟩ := hhead.cursor
  have htag : s.cursorTag? = some { page := c.page, copy := c.copy, band := c.line / Config.bandHeight } := by
    rw [State.cursorTag?, hcursor]
    rfl
  obtain ⟨tag, htag⟩ : ∃ tag, s.cursorTag? = some tag := ⟨_, htag⟩
  cases hdraining : s.ring.draining? with
  | some i =>
    simp only [printLine, hdraining]
    exact (h.enter .printing).burns rfl hhead (by exact Option.isSome_iff_exists.mpr ⟨i, hdraining⟩)
  | none =>
    rw [printLine_requests hdraining htag]
    cases hready : s.ring.oldestReady? tag with
    | some i =>
      rw [requestBand_granted (c := s.enter .printing) (by exact hready)]
      have hstate := BandRing.oldestReady_found hready
      have hgranted : Deciding ((s.withRing (s.ring.setState i (.draining tag))).enter .printing) :=
        ⟨(h.band.granted hstate htag hdraining).onFeed rfl, h.waiting, h.inFlight, h.called, h.openLine, h.pending⟩
      refine hgranted.burns rfl hhead (BandRing.draining_isSome (i := i) ?_)
      show ((s.ring.setState i (.draining tag)).stateOf i).isDraining = true
      rw [BandRing.stateOf_setState, if_pos rfl]
      rfl
    | none =>
      rw [requestBand_stalls (c := s.enter .printing) (by exact hready)]
      have hband : BandLaw ((s.withRing { s.ring with waiting := some tag }).enter .stalled) :=
        h.band.congr (h.band.pages.of_composer rfl) (.of_composer rfl) rfl (fun _ => rfl) rfl rfl
      have hnone : s.feed.called ≠ some .burn := by simp [h.called]
      exact PrintingLaw.stallReported ((printingLaw_iff _).mpr ⟨hband, .of_still h.inFlight h.openLine h.pending
        ⟨⟨fun _ => rfl, fun _ => rfl⟩, fun _ => ⟨htag.symm, hdraining⟩⟩ (fun hno => by cases hno)
        (congrArg Option.isSome h.called.symm :) (fun hburn => absurd hburn hnone) (fun _ => hhead)
        (.of_not_paused rfl)⟩) tag.page

theorem entersOffset (h : Deciding s) (hhead : HeadActive s) (hline : s.feed.line = 0) :
    PrintingLaw (enterOffset s) := by
  unfold enterOffset
  split
  · exact h.prints hhead
  · exact h.entersStep _ rfl hline fun _ => hhead

theorem entersSeek (h : Deciding s) (hhead : HeadActive s) (hline : s.feed.line = 0) : PrintingLaw (enterSeek s) := by
  unfold enterSeek
  split
  · exact h.prints hhead
  · exact h.entersStep _ rfl hline fun _ => hhead

/-! ### The start decision (R114, R123, R124) -/

theorem beginHead_line (s : State) : (beginHead s).feed.line = s.feed.line := (beginHead_decided s).line

theorem begun_head (h : Deciding s) (hqueue : s.composer.queue ≠ []) : HeadActive (beginHead s) :=
  headActive_beginHead h.begun.band.pages hqueue

theorem queue_of_mayStart (hmay : mayStart s = true) : s.composer.queue ≠ [] := fun hnil =>
  (mayStart_iff s).mp hmay (.inr hnil)

theorem starts (h : Deciding s) (hqueue : s.composer.queue ≠ []) (hline : s.feed.line = 0) : PrintingLaw (start s) := by
  have hhead := h.begun_head hqueue
  have hline : (beginHead s).feed.line = 0 := (beginHead_line s).trans hline
  unfold start
  dsimp only
  split
  · exact h.begun.pausesBackfeed hhead hline _ _
  · split
    · exact h.begun.entersSeek hhead hline
    · exact h.begun.entersStep _ rfl hline fun _ => hhead

theorem entersIdle (h : Deciding s) (hline : s.feed.line = 0) : PrintingLaw (enterIdle s) := by
  rw [enterIdle_eq]
  split
  next hmay =>
    have hidle : Deciding (goIdle s) := ⟨h.band.onFeed rfl, h.waiting, h.inFlight, rfl, h.openLine, h.pending⟩
    exact hidle.starts (queue_of_mayStart hmay) hline
  · exact h.goesIdle hline

theorem startsOrIdles (h : Deciding s) (hline : s.feed.line = 0) : PrintingLaw (startOrIdle s) := by
  unfold startOrIdle
  split
  next hmay => exact h.starts (queue_of_mayStart hmay) hline
  · exact h.goesIdle hline

theorem trails (h : Deciding s) (hline : s.feed.line = 0) : PrintingLaw (enterTrailing s) := by
  unfold enterTrailing
  split
  · exact h.entersIdle hline
  · exact h.entersStep _ rfl hline fun hno => nomatch hno

theorem endsCopy (h : Deciding s) (hline : s.feed.line = 0) (pending : Option PendingCondition) (edge : Bool) :
    PrintingLaw (endOfCopyDecision pending edge s) := by
  unfold endOfCopyDecision
  split
  next hmay =>
    have hhead := h.begun_head (queue_of_mayStart hmay)
    have hline : (beginHead s).feed.line = 0 := (beginHead_line s).trans hline
    dsimp only
    split
    · exact h.begun.pausesSeek hhead hline _
    · split
      · exact h.begun.entersOffset hhead hline
      · exact h.begun.entersSeek hhead hline
  · split
    · exact h.pausesTrail hline _ _ _
    · exact h.trails hline

/-- A completed reply is one of the link's (R112, R127). -/
theorem replied (h : Deciding s) (key kind status results) : Deciding (completeReply key kind status results s) :=
  h.of_keeps (completeReply_keeps key kind status results s) (by decide)

/-- A reset stops the feed (R134). -/
theorem stopsForReset (h : Deciding s) (hline : s.feed.line = 0) (scope : ResetScope) :
    PrintingLaw (stopForReset scope s) := by
  have hunparked : Deciding (unparkedFor scope s) := by
    unfold unparkedFor
    split
    · exact h.onFeed rfl
    · exact h
  have hline : (unparkedFor scope s).feed.line = 0 := by rw [unparkedFor_feed]; exact hline
  cases hkey : s.feed.state.motionKey? with
  | none =>
    rw [stopForReset_of_still hkey]
    exact hunparked.entersIdle hline
  | some key =>
    obtain ⟨kind, heq⟩ := stopForReset_of_motion (scope := scope) hkey
    rw [heq]
    refine (hunparked.replied _ _ _ _).entersIdle ?_
    rw [show (completeReply _ _ _ _ _).feed = _ from completeReply_keeps _ _ _ _ _ .feed (by decide)]
    exact hline

end Deciding

end Sys2Proof.Machine
end

section
/-! PROOF. The feed at a line boundary (R112, R116 to R131, R137, R141, R142), whether a step reaches it or a stop is
taken there. -/

namespace Sys2Proof.Machine

theorem SamePages.trans {α : Type} {f : Page → α} {s t u : State} (h : SamePages f s t) (h' : SamePages f t u) :
    SamePages f s u :=
  ⟨h'.1.trans h.1, fun id hid => (h'.2 id (by rw [h.1]; exact hid)).trans (h.2 id hid)⟩

/-- What the laws do not read may change. -/
theorem PrintingLaw.aside {s t : State} (h : PrintingLaw s) (hkeeps : Keeps outerParts s t) : PrintingLaw t := by
  have hcomposer : t.composer = s.composer := hkeeps .composer (by decide)
  have hfeed : t.feed = s.feed := hkeeps .feed (by decide)
  exact h.of_pages (h.pages.of_composer hcomposer) (by rw [hfeed]) (by rw [hfeed])
    (hkeeps .ring (by decide)) (hkeeps .engine (by decide)) (.of_composer hcomposer)

/-! ### The boundary -/

/-- A feed in motion at a line boundary, with its stops not yet spent; `ended` says that a copy's last line was
stepped over. -/
structure AtLine (ended : Bool) (s : State) : Prop where
  deciding : Deciding (spent s)
  moves : s.feed.state.moves = true
  outside : s.feed.state.insideCopy = false → s.feed.line = 0
  printing : ended = true → s.feed.state = .printing ∧ s.feed.line = 0
  stopped : s.feed.pending.cancel = true ∨ s.feed.pending.reset.isSome = true → s.feed.line = 0
  head : s.feed.state.worksOnHead = true → s.feed.pending.cancel = false → s.feed.pending.reset = none →
    ended = false → HeadActive s

namespace AtLine

variable {s : State} {ended : Bool}

/-- Outside PRINTING no copy ends at the boundary. -/
theorem head_of (h : AtLine ended s) (hworks : s.feed.state.worksOnHead = true)
    (hcancel : ¬ s.feed.pending.cancel = true) (hreset : s.feed.pending.reset = none) (hstate : s.feed.state ≠ .printing) : HeadActive (spent s) := by
  refine h.head hworks (by simpa using hcancel) hreset ?_
  by_contra hended
  exact hstate (h.printing (by simpa using hended)).1

theorem backfeeds (h : AtLine ended s) (hstate : s.feed.state = .backfeed) (hreset : s.feed.pending.reset = none) :
    PrintingLaw (boundaryBackfeed s.feed.pending (spent s)) := by
  have hline : s.feed.line = 0 := h.outside (by rw [hstate]; rfl)
  unfold boundaryBackfeed
  split
  · exact h.deciding.startsOrIdles hline
  next hcancel =>
    have hhead := h.head_of (by rw [hstate]; rfl) hcancel hreset (by simp [hstate])
    split
    · exact h.deciding.pausesBackfeed hhead hline _ _
    · split
      · exact h.deciding.entersSeek hhead hline
      · exact h.deciding.steps _ h.moves hline fun _ => hhead

theorem searches (h : AtLine ended s) {count limit : Nat} (hstate : s.feed.state = .seekSearch count limit)
    (hreset : s.feed.pending.reset = none) (edge : Bool) :
    PrintingLaw (boundarySearch s.feed.pending edge count limit (spent s)) := by
  have hline : s.feed.line = 0 := h.outside (by rw [hstate]; rfl)
  unfold boundarySearch
  split
  · exact h.deciding.startsOrIdles hline
  next hcancel =>
    have hhead := h.head_of (by rw [hstate]; rfl) hcancel hreset (by simp [hstate])
    split
    · exact h.deciding.pausesSeek hhead hline _
    · split
      · exact h.deciding.entersOffset hhead hline
      · split
        · exact h.deciding.pausesSeek hhead hline _
        · exact h.deciding.steps _ h.moves hline fun _ => hhead

theorem offsets (h : AtLine ended s) {remaining : Nat} (hstate : s.feed.state = .seekOffset remaining)
    (hreset : s.feed.pending.reset = none) :
    PrintingLaw (boundaryOffset s.feed.pending remaining (spent s)) := by
  have hline : s.feed.line = 0 := h.outside (by rw [hstate]; rfl)
  unfold boundaryOffset
  split
  · exact h.deciding.startsOrIdles hline
  next hcancel =>
    have hhead := h.head_of (by rw [hstate]; rfl) hcancel hreset (by simp [hstate])
    split
    · exact h.deciding.pausesSeek hhead hline _
    · split
      · exact h.deciding.prints hhead
      · exact h.deciding.steps _ h.moves hline fun _ => hhead

theorem printsOn (h : AtLine ended s) (hstate : s.feed.state = .printing) (hreset : s.feed.pending.reset = none)
    (edge : Bool) : PrintingLaw (boundaryPrinting s.feed.pending edge ended (spent s)) := by
  unfold boundaryPrinting
  split
  next hcancel =>
    have hline : s.feed.line = 0 := h.stopped (.inl hcancel)
    split
    · exact h.deciding.pausesTrail hline _ _ _
    · exact h.deciding.trails hline
  next hcancel =>
    split
    next hended => exact h.deciding.endsCopy (h.printing hended).2 _ _
    next hended =>
      have hhead : HeadActive s := h.head (by rw [hstate]; rfl) (by simpa using hcancel) hreset (by simpa using hended)
      split
      · exact h.deciding.pausesPrint hhead _ _
      · exact h.deciding.prints hhead

theorem trailsOn (h : AtLine ended s) {remaining : Nat} (hstate : s.feed.state = .trailing remaining) :
    PrintingLaw (boundaryTrailing s.feed.pending remaining (spent s)) := by
  have hline : s.feed.line = 0 := h.outside (by rw [hstate]; rfl)
  unfold boundaryTrailing
  split
  · exact h.deciding.pausesTrail hline _ _ _
  · split
    · exact h.deciding.entersIdle hline
    · exact h.deciding.steps _ h.moves hline fun hno => by
        rw [show (spent s).feed.state = .trailing remaining from hstate] at hno
        cases hno

end AtLine

/-- A host motion ends with its reply, and the start decision is taken (R114, R127, R129). -/
theorem Deciding.endsMotion {s : State} (h : Deciding s) (hline : s.feed.line = 0) (key kind status results) :
    PrintingLaw (enterIdle (completeReply key kind status results s)) := by
  refine (h.replied _ _ _ _).entersIdle ?_
  rw [show (completeReply key kind status results s).feed = s.feed from completeReply_keeps _ _ _ _ _ .feed (by decide)]
  exact hline

namespace AtLine

variable {s : State} {ended : Bool}

theorem movesOn (h : AtLine ended s) {key : RequestKey} {n done : Nat} (hstate : s.feed.state = .moving key n done) :
    PrintingLaw (boundaryMoving s.feed.pending key n done (spent s)) := by
  have hline : s.feed.line = 0 := h.outside (by rw [hstate]; rfl)
  unfold boundaryMoving
  split
  · exact h.deciding.endsMotion hline _ _ _ _
  · split
    · exact h.deciding.endsMotion hline _ _ _ _
    · exact h.deciding.steps _ h.moves hline fun hno => by
        rw [show (spent s).feed.state = .moving key n done from hstate] at hno
        cases hno

theorem calibratesOn (h : AtLine ended s) {key : RequestKey} {limit count moved : Nat} {found : Bool}
    (hstate : s.feed.state = .calibrating key limit count moved found) (edge : Bool) :
    PrintingLaw (boundaryCalibrating s.feed.pending edge key limit count moved found (spent s)) := by
  have hline : s.feed.line = 0 := h.outside (by rw [hstate]; rfl)
  unfold boundaryCalibrating
  split
  · exact h.deciding.endsMotion hline _ _ _ _
  · split
    · exact (h.deciding.onFeed (f := fun f => { f with pitch := count }) rfl).endsMotion hline _ _ _ _
    · split
      · exact h.deciding.entersStep _ rfl hline fun hno => nomatch hno
      · split
        · exact h.deciding.endsMotion hline _ _ _ _
        · exact h.deciding.steps _ h.moves hline fun hno => by
            rw [show (spent s).feed.state = .calibrating key limit count moved found from hstate] at hno
            cases hno

/-- What the feed decides at a boundary is lawful (R112). -/
theorem decides (h : AtLine ended s) (edge : Bool) : PrintingLaw (atBoundary edge ended s) := by
  cases hreset : s.feed.pending.reset with
  | some scope =>
    rw [atBoundary_reset _ _ hreset]
    exact h.deciding.stopsForReset (h.stopped (.inr (by rw [hreset]; rfl))) scope
  | none =>
    cases hstate : s.feed.state with
    | backfeed =>
      rw [atBoundary_backfeed _ _ hreset hstate]
      exact h.backfeeds hstate hreset
    | seekSearch count limit =>
      rw [atBoundary_search _ _ hreset hstate]
      exact h.searches hstate hreset edge
    | seekOffset remaining =>
      rw [atBoundary_offset _ _ hreset hstate]
      exact h.offsets hstate hreset
    | printing =>
      rw [atBoundary_printing _ _ hreset hstate]
      exact h.printsOn hstate hreset edge
    | trailing remaining =>
      rw [atBoundary_trailing _ _ hreset hstate]
      exact h.trailsOn hstate
    | moving key n done =>
      rw [atBoundary_moving _ _ hreset hstate]
      exact h.movesOn hstate
    | calibrating key limit count moved found =>
      rw [atBoundary_calibrating _ _ hreset hstate]
      exact h.calibratesOn hstate edge
    | idle | stalled | paused =>
      have hmoves := h.moves
      rw [hstate] at hmoves
      cases hmoves

end AtLine

/-! ### STEP_COMPLETION (R112) -/

theorem reportCrossing_evolves (edge line) (s : State) : Evolves s (reportCrossing edge line s) := by
  unfold reportCrossing
  split
  · exact (reportEdge_evolves _ _).guarded
  · exact .refl

theorem SamePages.crossed (edge : Bool) (line : Option OpenLine) (s : State) :
    SamePages (fun p => (p.place, p.state)) s (reportCrossing edge line s) := by
  unfold reportCrossing
  split
  · split
    · exact .onActive (f := fun p => { p with edges := saturate p.edges 1 }) (fun _ => ⟨rfl, rfl⟩) s
    · exact .of_composer rfl
  · exact .of_composer rfl

theorem moves_stepped (st : FeedState) : st.stepped.moves = st.moves := by cases st <;> rfl

theorem insideCopy_stepped (st : FeedState) : st.stepped.insideCopy = st.insideCopy := by cases st <;> rfl

theorem worksOnHead_stepped (st : FeedState) : st.stepped.worksOnHead = st.worksOnHead := by cases st <;> rfl

/-- The step of a line leaves the feed at its boundary. -/
theorem AtLine.of_step {s : State} (h : PrintingLaw s) {dir : Direction} (hstep : s.feed.inFlight = .step dir)
    (sedge : EdgeLevel) : AtLine (s.lineStepped.any OpenLine.copyEnded) (landed dir sedge s) := by
  obtain ⟨hband, hlaw⟩ := (printingLaw_iff s).mp h
  obtain ⟨hmotion, -, hopen, -, -, -⟩ := hlaw.motion
  have hmoves : s.feed.state.moves = true := hmotion.mpr (.inl (by simp [hstep]))
  have hnot : s.feed.state ≠ .stalled := fun hno => by simp [hno, FeedState.moves] at hmoves
  have hline : s.lineStepped = s.feed.openLine := by
    unfold State.lineStepped
    split
    · rfl
    next hno => exact (Option.not_isSome_iff_eq_none.mp (mt hopen hno)).symm
  have hstate : (landed dir sedge s).feed.state = s.feed.state.stepped := landed_state
  have hpending : (landed dir sedge s).feed.pending = s.feed.pending := landed_pending
  have hat : (landed dir sedge s).feed.line = s.feed.line := by rw [landed_feed]
  have hsame : SamePages (fun p => (p.place, p.state)) s (landed dir sedge s) :=
    SamePages.trans (t := countStep dir sedge s) (.of_composer rfl) (.crossed _ _ _)
  have hpages : PagesLaw (landed dir sedge s) :=
    PagesLaw.evolved (s := countStep dir sedge s) (hband.pages.of_composer rfl) (reportCrossing_evolves _ _ _)
  have hspent : BandLaw (landed dir sedge s) :=
    hband.of_same hpages (hsame.mono Prod.fst) hat landed_ring (landed_keeps dir sedge s .engine (by decide))
  exact {
    deciding := ⟨hspent.onFeed rfl, landed_ring.symm ▸ hlaw.waiting_of_not_stalled hnot,
      by rw [boundary_feed], by rw [boundary_feed], by rw [boundary_feed], by rw [boundary_feed]⟩
    moves := by rw [hstate, moves_stepped, hmoves]
    outside := fun hno => by
      rw [hstate, insideCopy_stepped] at hno
      rw [hat, hlaw.outside hno]
    printing := fun hended => by
      rw [hline] at hended
      have hprinting := hopen (by cases hl : s.feed.openLine <;> simp_all)
      exact ⟨by rw [hstate, hprinting]; rfl, hat.trans (hlaw.ended hended)⟩
    stopped := fun hstops => by
      rw [hpending] at hstops
      rw [hat, hlaw.stopped hstops]
    head := fun hworks hcancel hreset hended => by
      rw [hstate, worksOnHead_stepped] at hworks
      rw [hpending] at hcancel hreset
      rw [hline] at hended
      exact (hlaw.head hworks hcancel hreset hended).same hsame }

theorem PrintingLaw.reported {before s : State} (h : PrintingLaw s) : PrintingLaw (reportFeed before s) :=
  h.aside ((reportFeed_keeps before s).weaken (by decide))

theorem PrintingLaw.lands {s : State} (h : PrintingLaw s) (sedge : EdgeLevel) : PrintingLaw (completeStep sedge s) := by
  cases hflight : s.feed.inFlight with
  | none | burn => simpa only [completeStep, hflight] using h
  | step dir =>
    have hstep : completeStep sedge s = reportFeed s (stepDecided dir sedge s) := by
      simp only [completeStep, hflight]
      rfl
    rw [hstep]
    exact ((AtLine.of_step h hflight sedge).decides _).reported

/-! ### A stop is taken (R112) -/

/-- A feed in motion that has just taken a stop, which no other part of the law reads yet. -/
structure StopTaken (s : State) : Prop where
  band : BandLaw s
  waiting : s.ring.waiting = none
  taken : s.feed.pending.any = true
  moves : s.feed.state.moves = true
  moving : s.feed.inFlight ≠ .none ∨ s.feed.called.isSome = true
  called : s.feed.called.isSome = true → s.feed.inFlight = .none
  open_printing : s.feed.openLine.isSome = true → s.feed.state = .printing
  burning_open : s.feed.inFlight = .burn → s.feed.openLine.isSome = true
  called_burn : s.feed.called = some .burn → s.feed.openLine = none
  outside : s.feed.state.insideCopy = false → s.feed.line = 0
  ended : s.feed.openLine.any OpenLine.copyEnded = true → s.feed.line = 0
  stopped : s.feed.pending.cancel = true ∨ s.feed.pending.reset.isSome = true → s.feed.line = 0
  head : s.feed.state.worksOnHead = true → s.feed.pending.cancel = false → s.feed.pending.reset = none →
    s.feed.openLine.any OpenLine.copyEnded = false → HeadActive s
  none_active : s.feed.pending.cancel = true ∨ s.feed.pending.reset.isSome = true →
    ∀ p ∈ s.composer.pages, p.state ≠ .active
  burning : ∀ l ∈ s.feed.openLine, s.feed.inFlight = .burn → l.copyEnded = false ∧
    (s.isActive l.page = true → s.ring.draining?.isSome = true ∧
      s.cursor?.map (fun c => (c.page, c.line)) = some (l.page, l.line))

namespace StopTaken

variable {s t : State}

/-- A feed that stands acts on the stop at once; else the stop is pending. -/
theorem acts (h : StopTaken s) : PrintingLaw (actIfStanding s) := by
  cases hstands : s.feed.standing with
  | true =>
    rw [actIfStanding_of_standing hstands h.taken]
    obtain ⟨hflight, hopen⟩ : s.feed.inFlight = .none ∧ s.feed.openLine = none := by simpa [Feed.standing] using hstands
    exact AtLine.decides ⟨⟨h.band.onFeed rfl, h.waiting, hflight, rfl, hopen, rfl⟩, h.moves, h.outside,
      by simp, h.stopped, fun hworks hcancel hreset _ => h.head hworks hcancel hreset (by rw [hopen]; rfl)⟩ _
  | false =>
    rw [actIfStanding_of_not_standing hstands]
    have hstate : s.feed.state ≠ .stalled := fun hno => by simpa [hno, FeedState.moves] using h.moves
    have hburn : s.feed.called ≠ some .burn := fun hcalled => by
      simp [Feed.standing, h.called (by rw [hcalled]; rfl), h.called_burn hcalled] at hstands
    exact (printingLaw_iff s).mpr ⟨h.band, {
      request := .of_none h.waiting hstate
      outside := h.outside
      ended := h.ended
      stopped := h.stopped
      motion := ⟨⟨fun _ => h.moving, fun _ => h.moves⟩, h.called, h.open_printing, h.burning_open,
        fun hno => absurd hno hburn, fun _ => hstands⟩
      head := h.head
      none_active := h.none_active
      called := fun hno => absurd hno hburn
      burning := h.burning
      context := .of_not_paused (paused?_of_moves h.moves) }⟩

/-- A stop that is no cancel and no reset. -/
theorem of_pending (h : PrintingLaw s) (hmoves : s.feed.state.moves = true) {p : PendingStops} (htaken : p.any = true)
    (hcancel : p.cancel = s.feed.pending.cancel) (hreset : p.reset = s.feed.pending.reset) :
    StopTaken (s.onFeed fun f => { f with pending := p }) := by
  obtain ⟨hband, hlaw⟩ := (printingLaw_iff s).mp h
  obtain ⟨hmotion, hcalled, hopen, hburning, hburn, -⟩ := hlaw.motion
  exact {
    band := hband.onFeed rfl
    waiting := hlaw.waiting_of_not_stalled fun hno => by simp [hno, FeedState.moves] at hmoves
    taken := htaken
    moves := hmoves
    moving := hmotion.mp hmoves
    called := hcalled
    open_printing := hopen
    burning_open := hburning
    called_burn := fun hc => (hburn hc).2
    outside := hlaw.outside
    ended := hlaw.ended
    stopped := fun hstops => hlaw.stopped (hcancel ▸ hreset ▸ hstops)
    head := fun hworks hc hr => hlaw.head hworks (hcancel ▸ hc) (hreset ▸ hr)
    none_active := fun hstops => hlaw.none_active (hcancel ▸ hreset ▸ hstops)
    burning := hlaw.burning }

/-- A cancel or a reset, once no page is ACTIVE and the cursor stands at line 0. -/
theorem of_gone (h : PrintingLaw s) (hmoves : s.feed.state.moves = true) (hband : BandLaw t)
    (hcore : t.feed.core = { s.feed with pending := t.feed.pending }.core) (hline : t.feed.line = 0)
    (hwaiting : t.ring.waiting = none) (hnone : ∀ p ∈ t.composer.pages, p.state ≠ .active)
    (hstops : t.feed.pending.cancel = true ∨ t.feed.pending.reset.isSome = true) : StopTaken t := by
  obtain ⟨hmotion, hcalled, hopen, hburning, hburn, -⟩ := ((printingLaw_iff s).mp h).2.motion
  obtain ⟨hstate, hflight, hcall, hlineOpen, -⟩ :
      t.feed.state = s.feed.state ∧ t.feed.inFlight = s.feed.inFlight ∧ t.feed.called = s.feed.called ∧
        t.feed.openLine = s.feed.openLine ∧ t.feed.parked = s.feed.parked := by
    simpa [Feed.core] using hcore
  have hinactive (id : Nat) : ¬ t.isActive id = true := fun hid => by
    obtain ⟨p, hp, hactive⟩ := isActive_iff.mp hid
    exact hnone p (State.page?_mem hp) hactive
  exact {
    band := hband
    waiting := hwaiting
    taken := by
      unfold PendingStops.any
      obtain hc | hr := hstops <;> simp [*]
    moves := hstate ▸ hmoves
    moving := by rw [hflight, hcall]; exact hmotion.mp hmoves
    called := by rw [hflight, hcall]; exact hcalled
    open_printing := by rw [hlineOpen, hstate]; exact hopen
    burning_open := by rw [hlineOpen, hflight]; exact hburning
    called_burn := by rw [hlineOpen, hcall]; exact fun hc => (hburn hc).2
    outside := fun _ => hline
    ended := fun _ => hline
    stopped := fun _ => hline
    head := fun _ hc hr => by simp [hc, hr] at hstops
    none_active := fun _ => hnone
    burning := fun l hl hb => by
      have hended := ((printingLaw_iff s).mp h).2.burning l (hlineOpen ▸ hl) (hflight ▸ hb)
      exact ⟨hended.1, fun hactive => absurd hactive (hinactive _)⟩ }

end StopTaken

/-- A lawful feed has acted on its stops already. -/
theorem PrintingLaw.stands {s : State} (h : PrintingLaw s) : actIfStanding s = s := by
  obtain ⟨-, -, -, -, -, hpending⟩ := ((printingLaw_iff s).mp h).2.motion
  unfold actIfStanding
  rw [if_neg]
  rintro hboth
  obtain ⟨hstands, hany⟩ := Bool.and_eq_true_iff.mp hboth
  rw [hpending hany] at hstands
  cases hstands

end Sys2Proof.Machine
end

section
/-! PROOF. The laws of pages, ring and feed through the events of the part: the line period (R112), the end of a burn
(R119, R122), an object boundary (R71, R72, R101, R102) and a condition that joins (R136, R137, R143). -/

namespace Sys2Proof.Machine

/-! ### The line period (R112) -/

/-- The clock and the line periods are not read. -/
theorem PrintingLaw.periodOver {s : State} (h : PrintingLaw s) (at_ : Nat) {f : Feed → Feed}
    (hcore : (f s.feed).core = s.feed.core) (hline : (f s.feed).line = s.feed.line) :
    PrintingLaw ((s.advanceTo at_).onFeed f) :=
  h.of_pages (h.pages.of_composer rfl) hcore hline rfl rfl (.of_composer rfl)

theorem PrintingLaw.elapses {s : State} (h : PrintingLaw s) (period : PeriodOf) :
    PrintingLaw (periodElapsed period s) := by
  unfold periodElapsed
  split
  · split
    · exact h
    · split
      next hcalled => exact (h.periodOver _ rfl rfl).stepStarts hcalled
      · exact h.periodOver _ rfl rfl
      · exact h.periodOver _ rfl rfl
  · split
    · exact h
    · split
      next hcalled => exact (h.periodOver _ rfl rfl).burnStarts hcalled
      · exact h.periodOver _ rfl rfl
      · exact h.periodOver _ rfl rfl

/-! ### The end of a burn (R103, R119, R122) -/

/-- A burned line calls for its step. -/
theorem BandLaw.stepsOver {s : State} (h : BandLaw s) {l : OpenLine} (hwaiting : s.ring.waiting = none)
    (hstate : s.feed.state = .printing) (hflight : s.feed.inFlight = .none) (hopen : s.feed.openLine = some l)
    (hended : l.copyEnded = true → s.feed.line = 0)
    (hstops : s.feed.pending.cancel = true ∨ s.feed.pending.reset.isSome = true →
      s.feed.line = 0 ∧ ∀ p ∈ s.composer.pages, p.state ≠ .active)
    (hhead : s.feed.pending.cancel = false → s.feed.pending.reset = none → l.copyEnded = false → HeadActive s) :
    PrintingLaw (callStep .forward s) := by
  refine PrintingLaw.callStep ((printingLaw_iff _).mpr ⟨h.onFeed rfl, ?_⟩)
  have hnot : s.feed.state ≠ .stalled := by simp [hstate]
  exact {
    request := RequestLaw.of_none (s := s.calling (.step .forward)) hwaiting hnot
    outside := fun hno => by
      rw [show (s.calling (.step .forward)).feed.state = .printing from hstate] at hno
      cases hno
    ended := fun hcopy => hended (by simpa [State.calling, hopen] using hcopy)
    stopped := fun hstopped => (hstops hstopped).1
    motion := ⟨⟨fun _ => .inr rfl, fun _ => congrArg FeedState.moves hstate⟩, fun _ => hflight, fun _ => hstate,
      fun _ => by simp [State.calling, hopen], by simp [State.calling],
      fun _ => by simp [State.calling, Feed.standing, hopen]⟩
    head := fun _ hcancel hreset hcopy => hhead hcancel hreset (by simpa [State.calling, hopen] using hcopy)
    none_active := fun hstopped => (hstops hstopped).2
    called := by simp [State.calling]
    burning := fun _ _ hburn => by simp [State.calling, hflight] at hburn
    context := .of_not_paused (congrArg FeedState.paused? hstate) }

/-- The line of a burn is the cursor's, while its page is ACTIVE (R119). -/
theorem FeedLaw.burned {s : State} (h : FeedLaw s) (hs : PagesLaw s) {l : OpenLine} {p : Page}
    (hburn : s.feed.inFlight = .burn) (hopen : s.feed.openLine = some l) (hp : s.page? l.page = some p)
    (hactive : p.state = .active) : l.copyEnded = false ∧ s.headPage? = some p ∧ l.line = s.feed.line ∧
      ∃ i, s.ring.draining? = some i := by
  obtain ⟨hended, hof⟩ := h.burning l hopen hburn
  obtain ⟨hdraining, hcursor⟩ := hof (isActive_iff.mpr ⟨p, hp, hactive⟩)
  have hmem := State.page?_mem hp
  have hhead : s.headPage? = some p := by
    show s.composer.queue.head?.bind s.page? = some p
    rw [(hs.1.2.2.2.2.2.2.2 p hmem).2 hactive]
    exact State.page?_of_mem hs.1.2.1 hmem
  rw [State.cursor?, hhead] at hcursor
  obtain ⟨-, hline⟩ : p.id = l.page ∧ s.feed.line = l.line := by simpa using hcursor
  exact ⟨hended, hhead, hline.symm, Option.isSome_iff_exists.mp hdraining⟩

/-- Pages, ring and cursor once the line of an ACTIVE page is burned. -/
theorem BandLaw.burned {s : State} (h : BandLaw s) {l : OpenLine} {p : Page} (hp : s.page? p.id = some p)
    (hactive : p.state = .active) (hhead : s.headPage? = some p) (hline : l.line = s.feed.line) {i : Fin 4}
    (hi : s.ring.draining? = some i) (hnone : s.ring.waiting = none) : BandLaw (burnActive p l (burnLanded s)) ∧
      (burnActive p l (burnLanded s)).ring.waiting = none := by
  obtain ⟨freed, hfreed⟩ : ∃ x, x = burnFreed p l s := ⟨_, rfl⟩
  have hkeeps : Keeps [.ring, .feed] s freed := hfreed ▸ burnFreed_keeps
  have hcomposer : freed.composer = s.composer := hkeeps .composer (by decide)
  have hengine : freed.engine = s.engine := hkeeps .engine (by decide)
  have hring : freed.ring =
      if s.feed.line % 64 = 63 ∨ s.feed.line + 1 = p.length then s.ring.freeBuffer i else s.ring := by
    rw [hfreed, burnFreed_ring, hi, hline]
    by_cases hlast : s.feed.line % 64 = 63 ∨ s.feed.line + 1 = p.length
    · rw [if_pos ((lastOfBand_iff _ _).mpr hlast), if_pos hlast]
    · rw [if_neg (mt (lastOfBand_iff _ _).mp hlast), if_neg hlast]
  have hwaiting : freed.ring.waiting = none := by
    rw [hring]
    split <;> exact hnone
  by_cases hlength : l.line + 1 = p.length
  · have hfound : freed.page? p.id = some p := by rw [page?_of_composer hcomposer, hp]
    have hpages : PagesLaw ((endCopy p.id freed).onFeed fun f =>
        { f with line := 0, openLine := some { l with copyEnded := true } }) :=
      ((h.pages.of_composer hcomposer).evolved (endCopy_evolves hfound hactive)).of_composer rfl
    have hform : burnActive p l (burnLanded s) = (endCopy p.id freed).onFeed fun f =>
        { f with line := 0, openLine := some { l with copyEnded := true } } := hfreed ▸ burnActive_last hlength
    rw [hform]
    rw [hline] at hlength
    rw [if_pos (.inr hlength)] at hring
    by_cases hmore : p.copiesDone + 1 = p.copiesOrdered
    · rw [endCopy_ends hfound hmore] at hpages ⊢
      refine ⟨h.pageDone hhead hi hpages
        (congrArg (fun c : Composer => c.queue.filter fun j => decide (j ≠ p.id)) hcomposer :) (fun j hj => ?_) hengine
        rfl (congrArg (fun r : BandRing => r.void fun tag => decide (tag.page = p.id)) hring),
        congrArg (Option.filter fun tag : Tag => !decide (tag.page = p.id)) hwaiting⟩
      calc _ = (freed.changePage p.id fun q => { q with copiesDone := q.copiesDone + 1 }).page? j :=
              (endPage_page? _ _ _ j).trans (if_neg hj)
        _ = freed.page? j := (page?_copied freed p.id j).trans (if_neg hj)
        _ = s.page? j := page?_of_composer hcomposer j
    · rw [endCopy_more hfound hmore] at hpages ⊢
      refine ⟨h.copyDone hhead hlength hi hpages (congrArg Composer.queue hcomposer :) (fun j => ?_) hengine rfl
        hring, hwaiting⟩
      rw [← page?_of_composer hcomposer j]
      exact page?_copied freed p.id j
  · have hform : burnActive p l (burnLanded s) = freed.onFeed fun f => { f with line := l.line + 1 } :=
      hfreed ▸ burnActive_inside hlength
    rw [hform]
    rw [hline] at hlength ⊢
    refine ⟨h.lineDone hhead hlength hi hcomposer hengine rfl ?_, hwaiting⟩
    simpa [hlength] using hring

/-- The feed after a line inside a copy (R119). -/
theorem burnActive_inside_feed {s : State} {l : OpenLine} {p : Page} (hmore : l.line + 1 ≠ p.length) :
    (burnActive p l (burnLanded s)).feed = { s.feed with inFlight := .none, line := l.line + 1 } := by
  rw [burnActive_inside hmore, State.onFeed_feed]
  exact congrArg (fun f : Feed => { f with line := l.line + 1 }) (burnFreed_feed (p := p) (l := l) (s := s))

theorem PrintingLaw.burns {s : State} (h : PrintingLaw s) : PrintingLaw (completeBurn s) := by
  by_cases hburn : s.feed.inFlight = .burn
  swap
  · rwa [completeBurn_none hburn]
  obtain ⟨hband, hlaw⟩ := (printingLaw_iff s).mp h
  obtain ⟨-, -, hprinting, hopened, -, -⟩ := hlaw.motion
  obtain ⟨l, hopen⟩ := Option.isSome_iff_exists.mp (hopened hburn)
  have hstate : s.feed.state = .printing := hprinting (by rw [hopen]; rfl)
  have hwaiting := hlaw.waiting_of_not_stalled (by simp [hstate])
  by_cases hinactive : ∀ p, s.page? l.page = some p → p.state ≠ .active
  · rw [completeBurn_inactive hburn hopen hinactive]
    have hended := (hlaw.burning l hopen hburn).1
    exact (hband.onFeed rfl).stepsOver (s := burnLanded s) hwaiting hstate rfl hopen
      (fun hno => by simp [hended] at hno)
      (fun hstops => ⟨hlaw.stopped hstops, hlaw.none_active hstops⟩)
      fun hcancel hreset _ => hlaw.head (by rw [hstate]; rfl) hcancel hreset (by simp [hopen, hended])
  simp only [not_forall, not_not] at hinactive
  obtain ⟨p, hp, hactive⟩ := hinactive
  rw [completeBurn_active hburn hopen hp hactive]
  obtain ⟨hended, hhead, hline, i, hi⟩ := hlaw.burned hband.pages hburn hopen hp hactive
  have hid := State.page?_id hp
  obtain ⟨hlanded, hsame⟩ := hband.burned (hid.symm ▸ hp) hactive hhead hline hi hwaiting
  have hnone : ¬ (s.feed.pending.cancel = true ∨ s.feed.pending.reset.isSome = true) := fun hstops =>
    hlaw.none_active hstops p (State.page?_mem hp) hactive
  have hwaits : (assignBand (burnActive p l (burnLanded s))).ring.waiting = none := by
    rw [(assignBand_shows _).waiting, hsame]
  have hkept := assignBand_keeps (burnActive p l (burnLanded s))
  have hfeed : (assignBand (burnActive p l (burnLanded s))).feed = _ := hkept .feed (by decide)
  by_cases hlength : l.line + 1 = p.length
  · rw [burnActive_last_feed hlength] at hfeed
    exact hlanded.assigned.stepsOver hwaits (by rw [hfeed, hstate]) (by rw [hfeed]) (by rw [hfeed])
      (fun _ => by rw [hfeed])
      (fun hstops => absurd (by rw [hfeed] at hstops; exact hstops) hnone) fun _ _ hno => by cases hno
  · rw [burnActive_inside_feed hlength] at hfeed
    refine hlanded.assigned.stepsOver hwaits (l := l) (by rw [hfeed, hstate]) (by rw [hfeed]) (by rw [hfeed, hopen])
      (fun hno => by simp [hended] at hno) (fun hstops => absurd (by rw [hfeed] at hstops; exact hstops) hnone)
      fun _ _ _ => ?_
    have hcomposer : (burnActive p l (burnLanded s)).composer = s.composer := by
      rw [burnActive_inside hlength]
      exact burnFreed_keeps (s := s) .composer (by decide)
    exact HeadActive.same (s := s) ⟨p, hhead, hactive⟩
      (.of_composer ((hkept .composer (by decide)).trans hcomposer))

/-! ### An object boundary (R71, R72, R101, R102) -/

/-- A change of ring and engine that leaves the waiting request and the DRAINING buffer. -/
theorem PrintingLaw.of_ring {s t : State} (h : PrintingLaw s) (hband : BandLaw t) (hcomposer : t.composer = s.composer)
    (hfeed : t.feed = s.feed) (hwaiting : t.ring.waiting = s.ring.waiting)
    (hdraining : t.ring.draining? = s.ring.draining?) : PrintingLaw t := by
  obtain ⟨hs, hlaw⟩ := (printingLaw_iff s).mp h
  exact (printingLaw_iff t).mpr ⟨hband, hlaw.of_pages hs.pages hband.pages (by rw [hfeed]) (by rw [hfeed]) hwaiting
    hdraining (.of_composer hcomposer)⟩

theorem PrintingLaw.voidEnds {s : State} (h : PrintingLaw s) {r : Render} (hr : s.engine = some r)
    (hvoid : (s.ring.stateOf r.buffer).isVoid = true) : PrintingLaw (voidEnded r s) := by
  obtain ⟨hband, -⟩ := (printingLaw_iff s).mp h
  refine h.of_ring (hband.voidRendered hr hvoid) rfl rfl rfl (BandRing.draining?_congr fun j => ?_)
  show ((s.ring.freeBuffer r.buffer).stateOf j).isDraining = _
  rw [BandRing.stateOf_freeBuffer]
  split
  next hj =>
    rw [← hj]
    cases hstate : s.ring.stateOf r.buffer <;> simp_all [BufferState.isVoid, BufferState.isDraining]
  · rfl

/-- A full render ends READY, or DRAINING for the request that waits for it. -/
theorem PrintingLaw.fullEnds {s : State} (h : PrintingLaw s) {r : Render} (hr : s.engine = some r)
    (hvoid : (s.ring.stateOf r.buffer).isVoid = false) : PrintingLaw (fullEnded r s) := by
  obtain ⟨hband, hlaw⟩ := (printingLaw_iff s).mp h
  obtain ⟨hfilling, hready⟩ := hband.rendered hr hvoid
  have hdraining : (s.ring.setState r.buffer (.ready r.tag)).draining? = s.ring.draining? := by
    refine BandRing.draining?_congr fun j => ?_
    rw [BandRing.stateOf_setState]
    split
    next hj => rw [← hj, hfilling]; rfl
    · rfl
  obtain ⟨ready, hform⟩ : ∃ x, x = (s.withRing (s.ring.setState r.buffer (.ready r.tag))).withEngine none := ⟨_, rfl⟩
  rw [← hform] at hready
  have hring : ready.ring = s.ring.setState r.buffer (.ready r.tag) := by rw [hform]; rfl
  have hcomposer : ready.composer = s.composer := by rw [hform]; rfl
  have hfeed : ready.feed = s.feed := by rw [hform]; rfl
  have hended : PrintingLaw ready :=
    h.of_ring hready hcomposer hfeed (by rw [hring]; rfl) (by rw [hring, hdraining])
  unfold fullEnded
  rw [← hform]
  unfold grantWaiting
  split
  swap
  · exact hended
  next hwaits =>
    have hlawReady := ((printingLaw_iff _).mp hended).2
    have hsome : ready.ring.waiting.isSome = true := by rw [hwaits]; rfl
    obtain ⟨hcursor, hnone⟩ := hlawReady.request.2 hsome
    have hstalled := hlawReady.request.1.mp hsome
    have hrests := hlawReady.rests (by rw [hstalled]; rfl)
    obtain ⟨hflight, hcalled, hopen, hpending⟩ := hrests
    have hstateOf : ready.ring.stateOf r.buffer = .ready r.tag := by
      rw [hring, BandRing.stateOf_setState, if_pos rfl]
    have hgranted := hready.granted hstateOf (hcursor.symm.trans hwaits) hnone
    rw [if_pos (by exact hstalled)]
    refine Deciding.burns ⟨?_, rfl, hflight, hcalled, hopen, hpending⟩ rfl (hlawReady.head_of_waiting hsome)
      (BandRing.draining_isSome (i := r.buffer) ?_)
    · exact hgranted.congr (hready.pages.of_composer rfl) (.of_composer rfl) rfl (fun _ => rfl) rfl rfl
    · show ((ready.ring.setState r.buffer (.draining r.tag)).stateOf r.buffer).isDraining = true
      rw [BandRing.stateOf_setState, if_pos rfl]
      rfl

theorem PrintingLaw.draws {s : State} (h : PrintingLaw s) : PrintingLaw (objectBoundary s) := by
  unfold objectBoundary
  split
  swap
  · exact h
  next r hr =>
    cases hvoid : (s.ring.stateOf r.buffer).isVoid with
    | true =>
      rw [boundaryOf_void hvoid]
      exact (h.voidEnds hr hvoid).assigned
    | false =>
      unfold boundaryOf
      rw [if_neg (by simp [hvoid])]
      split
      next p o _ _ =>
        obtain ⟨hband, -⟩ := (printingLaw_iff s).mp h
        refine h.of_ring
          (hband.congr (hband.pages.of_composer rfl) (.of_composer rfl) rfl (drawNext_stateOf r p o s) rfl ?_) rfl rfl rfl (BandRing.draining?_congr fun i => by rw [drawNext_stateOf])
        rw [hr]
        rfl
      · exact (h.fullEnds hr hvoid).assigned

/-! ### A condition joins (R136, R137, R143) -/

theorem PendingStops.addCondition_kept (p : PendingStops) (motion : Bool) (c : Condition) :
    (p.addCondition motion c).any = true ∧ (p.addCondition motion c).cancel = p.cancel ∧
      (p.addCondition motion c).reset = p.reset := by
  unfold PendingStops.addCondition
  split
  · exact ⟨by simp [PendingStops.any], rfl, rfl⟩
  · split
    next hstop =>
      obtain ⟨-, hstop⟩ := Bool.and_eq_true_iff.mp hstop
      exact ⟨by simp [PendingStops.any, hstop], rfl, rfl⟩
    · exact ⟨by simp [PendingStops.any], rfl, rfl⟩

/-- A STALLED feed withdraws its request and rests (R136). -/
theorem Deciding.of_stalled {s : State} (h : PrintingLaw s) (hstate : s.feed.state = .stalled) :
    Deciding (withdrawRequest s) := by
  obtain ⟨hband, hlaw⟩ := (printingLaw_iff s).mp h
  obtain ⟨hflight, hcalled, hopen, hpending⟩ := hlaw.rests (by rw [hstate]; rfl)
  exact ⟨hband.congr (hband.pages.of_composer rfl) (.of_composer rfl) rfl (fun _ => rfl) rfl rfl, rfl, hflight, hcalled,
    hopen, hpending⟩

theorem PrintingLaw.invalidates {s : State} (h : PrintingLaw s) {cause : PauseCause} {context : PausedContext}
    (hstate : s.feed.state = .paused cause context) : PrintingLaw (invalidatePosition cause context s) := by
  obtain ⟨-, hlaw⟩ := (printingLaw_iff s).mp h
  have hrests : s.feed.state.moves = false := by rw [hstate]; rfl
  have hdeciding := Deciding.of_rests h hrests (by simp [hstate])
  have hcontext := hlaw.context
  have houtside := hlaw.outside
  have hhead := hlaw.head_of_rests hrests
  unfold ContextLaw at hcontext
  rw [hstate] at hcontext houtside hhead
  refine hdeciding.settles rfl rfl rfl rfl (by simp) (fun hno => houtside ?_)
    (congrArg Option.isSome hdeciding.called.symm :) (by simp [hdeciding.called]) (fun hworks => hhead ?_) ?_
  · cases context <;> first | rfl | cases hno
  · cases context <;> first | rfl | cases hworks
  · cases context with
    | print | seek | none => exact hcontext
    | backfeed => exact ⟨hcontext.1, rfl⟩
    | trail => exact fun _ => rfl

theorem PrintingLaw.joins {s : State} (h : PrintingLaw s) (c : Condition) : PrintingLaw (conditionActs c s) := by
  cases hmoves : s.feed.state.moves with
  | true =>
    rw [conditionActs_moving hmoves]
    obtain ⟨hany, hcancel, hreset⟩ :=
      PendingStops.addCondition_kept s.feed.pending s.feed.state.motionKey?.isSome c
    exact (StopTaken.of_pending h hmoves hany hcancel hreset).acts
  | false =>
    cases hstate : s.feed.state with
    | idle => simpa only [conditionActs, hstate] using h
    | stalled =>
      simp only [conditionActs, hstate]
      have hhead := ((printingLaw_iff s).mp h).2.head_of_rests hmoves (by rw [hstate]; rfl)
      exact (Deciding.of_stalled h hstate).pausesPrint (by exact hhead) _ _
    | paused cause context =>
      simp only [conditionActs, hstate]
      split
      · exact h.invalidates hstate
      · exact h
    | backfeed | seekSearch | seekOffset | printing | trailing | moving | calibrating =>
      rw [hstate] at hmoves
      cases hmoves

end Sys2Proof.Machine
end

section
/-! PROOF. The laws of pages, ring and feed through the requests of the page composer and of the feed controller, and
every step keeps them (R3, R8, R13 to R15, R114, R125 to R131, R134, R145 to R151). -/

namespace Sys2Proof.Machine

/-! ### The page table (R1, R6, R21, R62) -/

/-- Each queued page keeps its place and state, whatever comes or goes around it. -/
theorem SamePages.of_queued {s t : State} (hs : PagesLaw s) (ht : PagesLaw t)
    (hqueue : t.composer.queue = s.composer.queue)
    (hkept : ∀ p ∈ s.composer.pages, p.state.inQueue = true →
      ∃ q ∈ t.composer.pages, (q.place, q.state) = (p.place, p.state)) :
    SamePages (fun p => (p.place, p.state)) s t := by
  refine ⟨hqueue, fun id hid => ?_⟩
  obtain ⟨p, hp, rfl, hin⟩ := hs.1.2.2.2.2.2.2.1 id hid
  obtain ⟨q, hq, hsame⟩ := hkept p hp hin
  have hqid : q.id = p.id := congrArg (fun x => x.1.1) hsame
  rw [State.page?_of_mem hs.1.2.1 hp, ← hqid, State.page?_of_mem ht.1.2.1 hq, Option.map_some, Option.map_some, hsame]

/-- A change of the page table that leaves the queued pages. -/
theorem PrintingLaw.table {s t : State} (h : PrintingLaw s) (ht : PagesLaw t) (hfeed : t.feed = s.feed)
    (hring : t.ring = s.ring) (hengine : t.engine = s.engine) (hqueue : t.composer.queue = s.composer.queue)
    (hkept : ∀ p ∈ s.composer.pages, p.state.inQueue = true →
      ∃ q ∈ t.composer.pages, (q.place, q.state) = (p.place, p.state)) : PrintingLaw t :=
  h.of_pages ht (by rw [hfeed]) (by rw [hfeed]) hring hengine (.of_queued h.pages ht hqueue hkept)

/-- A change of a page's other fields. -/
theorem PrintingLaw.pageChanged {s t : State} (h : PrintingLaw s) (ht : PagesLaw t) {id : Nat} {f : Page → Page}
    (hpages : t.composer.pages = changePage id f s.composer.pages) (hqueue : t.composer.queue = s.composer.queue)
    (hfeed : t.feed = s.feed) (hring : t.ring = s.ring) (hengine : t.engine = s.engine)
    (hf : ∀ p : Page, (f p).place = p.place ∧ (f p).state = p.state) : PrintingLaw t := by
  refine h.table ht hfeed hring hengine hqueue fun p hp _ =>
    ⟨if p.id = id then f p else p, by rw [hpages]; exact List.mem_map_of_mem hp, ?_⟩
  split
  · rw [(hf p).1, (hf p).2]
  · rfl

theorem PrintingLaw.opens {s : State} (h : PrintingLaw s) (rq : Request) : PrintingLaw (openPage rq s).1 := by
  have ht := h.pages.evolved (openPage_evolves rq s)
  unfold openPage at ht ⊢
  dsimp only at ht ⊢
  split
  · exact h
  next hlength =>
    split
    · exact h
    next hrange =>
      split
      · exact h
      next hopen =>
        split
        · exact h
        next hroom =>
          rw [if_neg hlength, if_neg hrange, if_neg hopen, if_neg hroom] at ht
          exact h.table ht rfl rfl rfl rfl fun p hp _ => ⟨p, List.mem_append_left _ hp, rfl⟩

/-- An acknowledged report frees the entry of a page that has ended (R21). -/
theorem PrintingLaw.frees {s : State} (h : PrintingLaw s) (id : Nat) : PrintingLaw (freePageEntry id s) := by
  have ht : PagesLaw (freePageEntry id s) := h.pages.filter _ (fun p hp => by simp at hp; exact hp.2) rfl
  refine h.table ht rfl rfl rfl rfl fun p hp hin => ⟨p, List.mem_filter.mpr ⟨hp, ?_⟩, rfl⟩
  have hlive : p.state ≠ .ended := fun hended => by simp [hended, PageState.inQueue] at hin
  simp [hlive]

theorem PrintingLaw.stores {s : State} (h : PrintingLaw s) (rq : Request) : PrintingLaw (addObject rq s).1 := by
  have ht := h.pages.evolved (addObject_evolves rq s)
  revert ht
  unfold addObject
  split
  · exact fun _ => h
  · split
    · exact fun _ => h
    · split
      · exact fun _ => h
      · split
        · exact fun _ => h
        · split
          · exact fun _ => h
          · unfold placeObject
            dsimp only
            split
            · exact fun ht => h.pageChanged ht rfl rfl rfl rfl rfl fun _ => ⟨rfl, rfl⟩
            · split
              · exact fun _ => h
              · exact fun ht => h.pageChanged ht rfl rfl rfl rfl rfl fun _ => ⟨rfl, rfl⟩

/-! ### The start decision and PAGE_CLOSE (R8, R114) -/

theorem PrintingLaw.startsDecided {s : State} (h : PrintingLaw s) : PrintingLaw (startDecision s) := by
  unfold startDecision
  split
  next hboth =>
    obtain ⟨hidle, hmay⟩ := hboth
    have hdeciding := Deciding.of_rests h (by rw [hidle]; rfl) (by simp [hidle])
    exact hdeciding.starts (Deciding.queue_of_mayStart hmay)
      (((printingLaw_iff s).mp h).2.outside (by rw [hidle]; rfl))
  · exact h

/-- The OPEN page joins the queue. -/
theorem PrintingLaw.enqueues {s : State} (h : PrintingLaw s) {page : Page} (hp : s.page? page.id = some page)
    (hopen : page.state = .opened) : PrintingLaw (enqueuePage page.id s) := by
  obtain ⟨hband, hlaw⟩ := (printingLaw_iff s).mp h
  have ht : PagesLaw (enqueuePage page.id s) := h.pages.evolved (.single (.enqueued page hp hopen rfl rfl rfl rfl))
  have hpage (j : Nat) : (enqueuePage page.id s).page? j =
      if j = page.id then (s.page? j).map fun q => { q with state := .queued } else s.page? j :=
    find_changePage page.id j (fun q => { q with state := .queued }) (fun _ => rfl) s.composer.pages
  have hothers (j : Nat) (hj : j ∈ s.composer.queue) : (enqueuePage page.id s).page? j = s.page? j := by
    rw [hpage, if_neg]
    rintro rfl
    obtain ⟨q, hq, hqid, hin⟩ := h.pages.1.2.2.2.2.2.2.1 _ hj
    obtain rfl := h.pages.1.eq_of_id hq (State.page?_mem hp) hqid
    simp [hopen, PageState.inQueue] at hin
  have hactive (p : Page) (hmem : p ∈ (enqueuePage page.id s).composer.pages) (hact : p.state = .active) :
      s.page? p.id = some p := by
    have hfound := State.page?_of_mem ht.1.2.1 hmem
    rw [hpage] at hfound
    split at hfound
    · obtain ⟨q, -, rfl⟩ := Option.map_eq_some_iff.mp hfound
      cases hact
    · exact hfound
  refine (printingLaw_iff _).mpr ⟨hband.enqueued ht rfl hothers rfl rfl rfl,
    hlaw.congr hband.pages rfl (.inl rfl) rfl (fun hhead => ?_) (fun id hid => ?_) fun hnone p hmem hact => ?_⟩
  · obtain ⟨p, hhead, hact⟩ := hhead
    have hnil : s.composer.queue ≠ [] := fun hnil => by simp [headPage?_of_queue_nil hnil] at hhead
    have hsame : (enqueuePage page.id s).headPage? = s.headPage? := headPage?_enqueued hnil rfl hothers
    refine ⟨⟨p, by rw [hsame]; exact hhead, hact⟩, ?_, rfl⟩
    rw [State.cursor?, State.cursor?, hsame]
    rfl
  · obtain ⟨p, hfound, hact⟩ := isActive_iff.mp hid
    exact isActive_iff.mpr ⟨p, State.page?_id hfound ▸ hactive p (State.page?_mem hfound) hact, hact⟩
  · exact hnone p (State.page?_mem (hactive p hmem hact)) hact

theorem PrintingLaw.closes {s : State} (h : PrintingLaw s) (rq : Request) : PrintingLaw (closePage rq s).1 := by
  unfold closePage
  dsimp only
  split
  · exact h
  · split
    · exact h
    next page hp =>
      split
      · exact h
      next hopen =>
        exact (((h.enqueues (State.page?_id hp ▸ hp) (not_not.mp hopen)).startsDecided).assigned).reported

/-! ### PAGE_CANCEL (R13 to R15, R131, R150) -/

/-- The law of a feed that does not work on the head page, once the ACTIVE page is gone. -/
theorem FeedLaw.of_gone {s t : State} (h : FeedLaw s) (hworks : s.feed.state.worksOnHead = false)
    (hcore : t.feed.core = s.feed.core) (hline : t.feed.line = 0) (hwaiting : t.ring.waiting = none)
    (hnone : ∀ p ∈ t.composer.pages, p.state ≠ .active) : FeedLaw t := by
  obtain ⟨hstate, hflight, hcalled, hopen, hpending, hparked⟩ :
      t.feed.state = s.feed.state ∧ t.feed.inFlight = s.feed.inFlight ∧ t.feed.called = s.feed.called ∧
        t.feed.openLine = s.feed.openLine ∧ t.feed.pending = s.feed.pending ∧ t.feed.parked = s.feed.parked := by
    simpa [Feed.core] using hcore
  obtain ⟨-, -, hprinting, -, hburn, -⟩ := h.motion
  have hnot : s.feed.state ≠ .printing := fun hno => by simp [hno, FeedState.worksOnHead] at hworks
  have hstanding : t.feed.standing = s.feed.standing := by rw [Feed.standing, Feed.standing, hflight, hopen]
  exact {
    request := .of_none hwaiting fun hno => by simp [← hstate, hno, FeedState.worksOnHead] at hworks
    outside := fun _ => hline
    ended := fun _ => hline
    stopped := fun _ => hline
    motion := by
      unfold MotionLaw
      rw [hstate, hflight, hcalled, hopen, hpending, hstanding]
      exact h.motion
    head := fun hno => by simp [hstate, hworks] at hno
    none_active := fun _ => hnone
    called := fun hno => absurd (hburn (hcalled ▸ hno)).1 hnot
    burning := fun l hl _ => absurd (hprinting (by rw [← hopen, show t.feed.openLine = some l from hl]; rfl)) hnot
    context := h.context.congr hstate hparked fun _ hno => by simp [hworks] at hno }

/-- The DRAINING buffer is of the head page, and stays when another page's buffers are voided. -/
theorem BandLaw.draining_void {s : State} (h : BandLaw s) {id : Nat} (hne : s.composer.queue.head? ≠ some id) :
    (s.ring.void fun tag => decide (tag.page = id)).draining? = s.ring.draining? := by
  refine BandRing.draining?_congr fun i => ?_
  rw [BandRing.stateOf_void]
  cases hdrains : (s.ring.stateOf i).isDraining with
  | false => exact BufferState.void_not_draining hdrains _
  | true =>
    have htag := h.drains i hdrains
    obtain ⟨tag, hstate⟩ := BufferState.draining_of hdrains
    rw [hstate] at htag ⊢
    have hpage : tag.page ≠ id := fun heq => hne (heq ▸ cursorTag?_head htag.symm)
    simp [BufferState.void, hpage, BufferState.isDraining]

section

variable {s : State} {page : Page}

theorem pageGone_pages (hs : PagesLaw s) (hp : s.page? page.id = some page) (hlive : page.state ≠ .ended) :
    PagesLaw (pageGone page s) :=
  (hs.evolved (endPage_evolves hp hlive .cancelled)).of_composer (dropCursor_keeps _ _ .composer (by decide))

theorem pageGone_queue : (pageGone page s).composer.queue = s.composer.queue.filter fun j => decide (j ≠ page.id) :=
  (congrArg Composer.queue (pageGone_composer page s) :)

theorem pageGone_others (j : Nat) (hj : j ≠ page.id) : (pageGone page s).page? j = s.page? j :=
  (page?_of_endPage (pageGone_composer page s) j).trans (if_neg hj)

theorem pageGone_core : (pageGone page s).feed.core = s.feed.core := by
  rw [pageGone_feed]
  rfl

/-- An ACTIVE page of the table without the one gone was ACTIVE before. -/
theorem pageGone_active (ht : PagesLaw (pageGone page s)) {p : Page} (hmem : p ∈ (pageGone page s).composer.pages)
    (hact : p.state = .active) : p.id ≠ page.id ∧ s.page? p.id = some p := by
  have hfound := State.page?_of_mem ht.1.2.1 hmem
  rw [page?_of_endPage (pageGone_composer page s)] at hfound
  split at hfound
  · obtain ⟨q, -, rfl⟩ := Option.map_eq_some_iff.mp hfound
    cases hact
  next hne => exact ⟨hne, hfound⟩

theorem BandLaw.pageGone (h : BandLaw s) (hp : s.page? page.id = some page) (hlive : page.state ≠ .ended) :
    BandLaw (pageGone page s) :=
  h.pageCancelled (pageGone_pages h.pages hp hlive) pageGone_queue pageGone_others
    (pageGone_keeps page s .engine (by decide)) (by rw [pageGone_feed]) (pageGone_ring page s)

/-- A page that is not ACTIVE is gone, and the feed goes on. -/
theorem PrintingLaw.pageGone (h : PrintingLaw s) (hp : s.page? page.id = some page) (hlive : page.state ≠ .ended)
    (hinactive : page.state ≠ .active) : PrintingLaw (pageGone page s) := by
  obtain ⟨hband, hlaw⟩ := (printingLaw_iff s).mp h
  have ht := pageGone_pages h.pages hp hlive
  have hbehind (hhead : HeadActive s) : s.composer.queue.head? ≠ some page.id := fun heq => by
    obtain ⟨q, hq, hact⟩ := hhead
    rw [State.headPage?, heq] at hq
    obtain rfl : page = q := Option.some.inj (hp.symm.trans hq)
    exact hinactive hact
  refine (printingLaw_iff _).mpr ⟨hband.pageGone hp hlive, hlaw.congr hband.pages pageGone_core ?_ ?_ (fun hhead => ?_)
    (fun id hid => ?_) fun hnone p hmem hact => ?_⟩
  · rw [pageGone_feed]
    dsimp only
    split
    · exact .inr rfl
    · exact .inl rfl
  · rw [pageGone_ring, BandRing.void_waiting]
    cases hwaits : s.ring.waiting with
    | none => rfl
    | some tag =>
      have hsome : s.ring.waiting.isSome = true := by rw [hwaits]; rfl
      have htag := (hlaw.request.2 hsome).1
      rw [hwaits] at htag
      have hpage : tag.page ≠ page.id := fun heq =>
        hbehind (hlaw.head_of_waiting hsome) (heq ▸ cursorTag?_head htag.symm)
      simp [Option.filter, hpage]
  · have hne := hbehind hhead
    obtain ⟨p, hp', hact⟩ := hhead
    have hsame : (Machine.pageGone page s).headPage? = s.headPage? :=
      headPage?_without hne pageGone_queue pageGone_others
    refine ⟨⟨p, by rw [hsame]; exact hp', hact⟩, ?_, by rw [pageGone_ring, hband.draining_void hne]⟩
    rw [State.cursor?, State.cursor?, hsame, pageGone_feed, if_neg hne]
  · obtain ⟨p, hfound, hact⟩ := isActive_iff.mp hid
    obtain ⟨-, hbefore⟩ := pageGone_active ht (State.page?_mem hfound) hact
    exact isActive_iff.mpr ⟨p, State.page?_id hfound ▸ hbefore, hact⟩
  · exact hnone p (State.page?_mem (pageGone_active ht hmem hact).2) hact

/-- The feed reacts to the cancel of the ACTIVE page (R131, R150). -/
theorem PrintingLaw.cancelActs (h : PrintingLaw s) (hp : s.page? page.id = some page) (hactive : page.state = .active) :
    PrintingLaw (cancelActs page.id (Machine.pageGone page s)) := by
  obtain ⟨hband, hlaw⟩ := (printingLaw_iff s).mp h
  have hlive : page.state ≠ .ended := by simp [hactive]
  have hhead (p : Page) (hmem : p ∈ s.composer.pages) (hact : p.state = .active) :
      s.composer.queue.head? = some p.id := (h.pages.1.2.2.2.2.2.2.2 p hmem).2 hact
  have hfirst := hhead page (State.page?_mem hp) hactive
  obtain ⟨gone, hgone⟩ : ∃ g, g = Machine.pageGone page s := ⟨_, rfl⟩
  have hbandGone : BandLaw gone := hgone ▸ hband.pageGone hp hlive
  have hfeed : gone.feed = { s.feed with line := 0 } := by rw [hgone, pageGone_feed, if_pos hfirst]
  have hline : gone.feed.line = 0 := by rw [hfeed]
  have hstate : gone.feed.state = s.feed.state := by rw [hfeed]
  have hcore : gone.feed.core = s.feed.core := hgone ▸ pageGone_core
  have hnone (p : Page) (hmem : p ∈ gone.composer.pages) : p.state ≠ .active := fun hact => by
    rw [hgone] at hmem
    obtain ⟨hne, hbefore⟩ := pageGone_active (hgone ▸ hbandGone.pages) hmem hact
    have hboth := hhead p (State.page?_mem hbefore) hact
    exact hne (Option.some.inj (hboth.symm.trans hfirst))
  have hwaiting : gone.ring.waiting = none := by
    rw [hgone, pageGone_ring, BandRing.void_waiting]
    cases hwaits : s.ring.waiting with
    | none => rfl
    | some tag =>
      have htag := (hlaw.request.2 (by rw [hwaits]; rfl)).1
      rw [hwaits] at htag
      have hpage : page.id = tag.page := Option.some.inj (hfirst.symm.trans (cursorTag?_head htag.symm))
      simp [Option.filter, hpage]
  have hgoesOn (hworks : s.feed.state.worksOnHead = false) : PrintingLaw gone :=
    (printingLaw_iff _).mpr ⟨hbandGone, hlaw.of_gone hworks hcore hline hwaiting hnone⟩
  have hstops (hmoves : s.feed.state.moves = true) : PrintingLaw (recordCancel gone) :=
    (StopTaken.of_gone (t := gone.onFeed fun f => { f with pending := { f.pending with cancel := true } }) h hmoves
      (hbandGone.onFeed rfl) (by rw [State.onFeed_feed, hfeed]; rfl) hline hwaiting hnone (.inl rfl)).acts
  have hrests (hmoves : s.feed.state.moves = false) : Deciding gone := by
    obtain ⟨hflight, hcalled, hopen, hpending⟩ := hlaw.rests hmoves
    exact ⟨hbandGone, hwaiting, by rw [hfeed, hflight], by rw [hfeed, hcalled], by rw [hfeed, hopen],
      by rw [hfeed, hpending]⟩
  rw [← hgone]
  cases hs : s.feed.state with
  | backfeed | seekSearch | seekOffset | printing =>
    simp only [Machine.cancelActs, hstate, hs]
    exact hstops (by rw [hs]; rfl)
  | stalled =>
    simp only [Machine.cancelActs, hstate, hs]
    exact (hrests (by rw [hs]; rfl)).trails hline
  | idle | trailing | moving | calibrating =>
    simp only [Machine.cancelActs, hstate, hs]
    exact hgoesOn (by rw [hs]; rfl)
  | paused cause context =>
    simp only [Machine.cancelActs, hstate, hs]
    have hdeciding := hrests (by rw [hs]; rfl)
    have hcalled : false = gone.feed.called.isSome := by rw [hdeciding.called]; rfl
    have hnot : gone.feed.called ≠ some .burn := by simp [hdeciding.called]
    have hcursor {c : Cursor} (hc : s.cursor? = some c) : c.page = page.id := by
      have htag : s.cursorTag? = some { page := c.page, copy := c.copy, band := c.line / Config.bandHeight } := by
        rw [State.cursorTag?, hc]
        rfl
      exact Option.some.inj ((cursorTag?_head htag).symm.trans hfirst)
    have hcontext := hlaw.context
    unfold ContextLaw at hcontext
    rw [hs] at hcontext
    have hafter : context.afterCancel page.id = .none ∨ ∃ remaining valid,
        context.afterCancel page.id = .trail remaining valid ∧ (valid = false → s.feed.parked = 0) := by
      cases context with
      | print at_ => exact .inl (if_pos (hcursor hcontext))
      | seek at_ => exact .inl (if_pos (hcursor hcontext))
      | backfeed | none => exact .inl rfl
      | trail remaining valid => exact .inr ⟨remaining, valid, rfl, hcontext⟩
    obtain hno | ⟨remaining, valid, htrail, hparked⟩ := hafter
    · rw [hno]
      exact hdeciding.settles rfl rfl rfl rfl (by simp) (fun _ => hline) hcalled hnot (fun hw => nomatch hw) trivial
    · rw [htrail]
      refine hdeciding.settles rfl rfl rfl rfl (by simp) (fun _ => hline) hcalled hnot (fun hw => nomatch hw)
        fun hvalid => ?_
      rw [State.onFeed_feed, hfeed]
      exact hparked hvalid

end

theorem PrintingLaw.cancels {s : State} (h : PrintingLaw s) (rq : Request) : PrintingLaw (cancelPage rq s).1 := by
  unfold cancelPage
  dsimp only
  split
  · exact h
  · split
    · exact h
    next page hp =>
      have hp := State.page?_id hp ▸ hp
      split
      · exact h
      next hlive =>
        refine PrintingLaw.reported (PrintingLaw.assigned ?_)
        split
        next hactive => exact h.cancelActs hp hactive
        next hinactive => exact h.pageGone hp hlive hinactive

end Sys2Proof.Machine
end

section
/-! PROOF. The laws of pages, ring and feed through RESET and the requests of the feed controller, and every step keeps
them (R112, R114, R125 to R129, R134, R145 to R151, R211, R212). -/

namespace Sys2Proof.Machine

/-! ### RESET (R134, R211, R212) -/

/-- A reset stops the feed at once, or is pending on a feed in motion. -/
theorem PrintingLaw.resetFeed {s : State} (h : PrintingLaw s) (scope : ResetScope) :
    PrintingLaw (resetFeed scope (emptied s)) := by
  obtain ⟨hband, hlaw⟩ := (printingLaw_iff s).mp h
  have ht : PagesLaw (emptied s) := h.pages.evolved (.single (.discarded rfl rfl rfl rfl))
  have hcleared : BandLaw (cleared (emptied s)) :=
    BandLaw.voided hband.buffers (ht.of_composer rfl) rfl rfl rfl
  have hstops (hmoves : s.feed.state.moves = true) :
      PrintingLaw
        (actIfStanding ((cleared (emptied s)).onFeed fun f => { f with pending := f.pending.addReset scope })) :=
    (StopTaken.of_gone (t := (cleared (emptied s)).onFeed fun f => { f with pending := f.pending.addReset scope })
      h hmoves (hcleared.onFeed rfl) rfl rfl (emptied_waiting s) (fun p hp => nomatch hp)
      (.inr (PendingStops.addReset_isSome _ _))).acts
  have hrests (hmoves : s.feed.state.moves = false) : PrintingLaw (stopForReset scope (cleared (emptied s))) := by
    obtain ⟨hflight, hcalled, hopen, hpending⟩ := hlaw.rests hmoves
    exact Deciding.stopsForReset ⟨hcleared, emptied_waiting s, hflight, hcalled, hopen, hpending⟩ rfl scope
  unfold Machine.resetFeed
  rw [show (emptied s).feed.state = s.feed.state from rfl]
  cases hs : s.feed.state with
  | idle | stalled | paused => exact hrests (by rw [hs]; rfl)
  | backfeed | seekSearch | seekOffset | printing | trailing | moving | calibrating => exact hstops (by rw [hs]; rfl)

/-- The rest of a reset of scope ALL keeps the laws (R212). -/
theorem PrintingLaw.restores {s : State} (h : PrintingLaw s) (removed : List Byte) :
    PrintingLaw (restoreDefaults removed s) := by
  obtain ⟨⟨hlength, hnodup, hids, -, hlaws⟩, hentries⟩ := h.pages
  have ht : PagesLaw (restoreDefaults removed s) := ⟨⟨hlength, hnodup, hids, Nat.zero_le _, hlaws⟩, hentries⟩
  exact h.of_pages ht rfl rfl rfl rfl ⟨rfl, fun _ _ => rfl⟩

theorem PrintingLaw.resets {s : State} (h : PrintingLaw s) (rq : Request) : PrintingLaw (resetRequest rq s).1 := by
  have hdiscards (scope : ResetScope) : PrintingLaw (discardPages scope s) := by
    rw [discardPages_eq]
    exact (h.resetFeed scope).reported
  unfold resetRequest
  split
  · split
    · exact hdiscards .pages
    · split
      · exact (hdiscards .all).restores _
      · exact h
  · exact h

/-! ### FEED, CALIBRATE and STOP (R127 to R129) -/

/-- A host motion starts from IDLE. -/
theorem PrintingLaw.motionStarts {s : State} (h : PrintingLaw s) (hidle : s.feed.state = .idle) {st : FeedState}
    (hmoves : st.moves = true) (hworks : st.worksOnHead = false) :
    PrintingLaw (Machine.callStep .forward (s.onFeed fun f => { f with state := st, parked := 0, edge := none })) := by
  have hdeciding := Deciding.of_rests h (by rw [hidle]; rfl) (by simp [hidle])
  have hstarts : Deciding (s.onFeed fun f => { f with state := st, parked := 0, edge := none }) := hdeciding.onFeed rfl
  exact hstarts.steps .forward hmoves (((printingLaw_iff s).mp h).2.outside (by rw [hidle]; rfl)) fun hno => by
    rw [State.onFeed_feed, hworks] at hno
    cases hno

theorem PrintingLaw.feeds {s : State} (h : PrintingLaw s) (rq : Request) : PrintingLaw (feedLines rq s).1 := by
  unfold feedLines
  dsimp only
  split
  · exact h
  · split
    · exact h
    · split
      · exact h
      next hidle =>
        split
        · exact h
        · exact h.motionStarts (not_not.mp hidle) (by rfl) (by rfl)

theorem PrintingLaw.calibrates {s : State} (h : PrintingLaw s) (rq : Request) :
    PrintingLaw (calibratePitch rq s).1 := by
  unfold calibratePitch
  split
  · exact h
  · split
    · exact h
    next hidle =>
      split
      · exact h
      · exact h.motionStarts (not_not.mp (not_or.mp hidle).1) (by rfl) (by rfl)

theorem FeedState.moves_of_hostMotion {st : FeedState} {motion : HostMotion} (h : st.hostMotion? = some motion) :
    st.moves = true := by
  cases st <;> first | rfl | cases h

/-- STOP is pending, and acts at once on a feed that stands (R112, R128). -/
theorem PrintingLaw.stops {s t : State} (h : PrintingLaw s) (rq : Request)
    (hkeeps : Keeps outerParts (stopMotion rq s).1 t) : PrintingLaw (stopAct t) := by
  refine PrintingLaw.reported ?_
  have hrefused (hsame : (stopMotion rq s).1 = s) : PrintingLaw (actIfStanding t) := by
    rw [hsame] at hkeeps
    have ht := h.aside hkeeps
    rwa [ht.stands]
  unfold stopMotion at hkeeps hrefused
  split at hkeeps
  next hlength => exact hrefused (by rw [if_pos hlength])
  next hlength =>
    rw [if_neg hlength] at hrefused
    cases hmotion : s.feed.state.hostMotion? with
    | none => exact hrefused (by rw [hmotion])
    | some motion =>
      simp only [hmotion] at hkeeps hrefused
      split at hkeeps
      next hany => exact hrefused (by rw [if_pos hany])
      next hany =>
        have hfeed : t.feed = { s.feed with pending := { s.feed.pending with stop := true } } :=
          hkeeps .feed (by decide)
        have hbefore : PrintingLaw (t.withFeed s.feed) := h.aside fun p hp => by
          cases p <;> first | exact hkeeps _ hp | rfl
        have hform : t = (t.withFeed s.feed).onFeed fun f =>
            { f with pending := { s.feed.pending with stop := true } } := by
          show t = t.withFeed { s.feed with pending := { s.feed.pending with stop := true } }
          rw [← hfeed]
          rfl
        rw [hform]
        exact (StopTaken.of_pending hbefore (p := { s.feed.pending with stop := true })
          (FeedState.moves_of_hostMotion hmotion) (by simp [PendingStops.any]) rfl rfl).acts

/-! ### HOLD and RELEASE (R125, R126) -/

/-- The hold flag and the measured pitch are not read. -/
theorem PrintingLaw.flagged {s : State} (h : PrintingLaw s) {f : Feed → Feed} (hcore : (f s.feed).core = s.feed.core)
    (hline : (f s.feed).line = s.feed.line) : PrintingLaw (s.onFeed f) :=
  h.of_pages (h.pages.of_composer rfl) hcore hline rfl rfl (.of_composer rfl)

theorem PrintingLaw.holds {s : State} (h : PrintingLaw s) (rq : Request) : PrintingLaw (holdQueue rq s).1 := by
  unfold holdQueue
  split
  · exact h
  · exact h.flagged rfl rfl

theorem PrintingLaw.releases {s : State} (h : PrintingLaw s) (rq : Request) : PrintingLaw (releaseQueue rq s).1 := by
  unfold releaseQueue
  split
  · exact h
  · split
    · exact ((h.flagged (f := fun f => { f with hold := false }) rfl rfl).startsDecided).reported
    · exact h

/-! ### RESUME (R145 to R149) -/

section

variable {s : State} {cause : PauseCause} {context : PausedContext}

theorem Deciding.of_paused (h : PrintingLaw s) (hpaused : s.feed.state = .paused cause context) : Deciding s :=
  .of_rests h (by rw [hpaused]; rfl) (by simp [hpaused])

theorem FeedLaw.head_of_paused (h : FeedLaw s) (hpaused : s.feed.state = .paused cause context)
    (hworks : (FeedState.paused cause context).worksOnHead = true) : HeadActive s :=
  h.head_of_rests (by rw [hpaused]; rfl) (by rw [hpaused]; exact hworks)

theorem FeedLaw.line_of_paused (h : FeedLaw s) (hpaused : s.feed.state = .paused cause context)
    (hinside : (FeedState.paused cause context).insideCopy = false) : s.feed.line = 0 :=
  h.outside (by rw [hpaused]; exact hinside)

/-- CONTINUE by the context (R146 to R148). -/
theorem PrintingLaw.continues (h : PrintingLaw s) (hpaused : s.feed.state = .paused cause context) :
    PrintingLaw (continueFrom context s) := by
  obtain ⟨-, hlaw⟩ := (printingLaw_iff s).mp h
  have hdeciding := Deciding.of_paused h hpaused
  unfold continueFrom
  cases context with
  | print => exact hdeciding.prints (hlaw.head_of_paused hpaused rfl)
  | seek => exact hdeciding.entersSeek (hlaw.head_of_paused hpaused rfl) (hlaw.line_of_paused hpaused rfl)
  | none => exact hdeciding.entersIdle (hlaw.line_of_paused hpaused rfl)
  | trail remaining valid =>
    have hline := hlaw.line_of_paused hpaused rfl
    dsimp only
    split
    · split
      · exact hdeciding.entersIdle hline
      · exact hdeciding.entersStep _ rfl hline fun hno => nomatch hno
    · exact Deciding.entersIdle (s := unparked s) (hdeciding.onFeed rfl) hline
  | backfeed remaining valid =>
    have hline := hlaw.line_of_paused hpaused rfl
    have hhead := hlaw.head_of_paused hpaused rfl
    dsimp only
    split
    · split
      · exact hdeciding.entersSeek hhead hline
      · exact hdeciding.entersStep _ rfl hline fun _ => hhead
    · exact Deciding.entersSeek (s := unparked s) (hdeciding.onFeed rfl) hhead hline

/-- REPRINT begins the copy again with every buffer void (R108, R149). -/
theorem PrintingLaw.reprints (h : PrintingLaw s) (hpaused : s.feed.state = .paused cause context)
    (hworks : (FeedState.paused cause context).worksOnHead = true) (page : Nat) : PrintingLaw (reprintFrom page s) := by
  obtain ⟨hband, hlaw⟩ := (printingLaw_iff s).mp h
  have hdeciding := Deciding.of_paused h hpaused
  have ht : PagesLaw (rewound page s) :=
    PagesLaw.evolved (s := (voidAll s).onFeed fun f => { f with line := 0, edge := none }) (h.pages.of_composer rfl)
      (reportReprint_evolves page _)
  have hsame : SamePages (fun p => (p.place, p.state)) s (rewound page s) :=
    SamePages.trans (t := (voidAll s).onFeed fun f => { f with line := 0, edge := none }) (.of_composer rfl)
      (.onActive (f := fun p => { p with reprints := saturate p.reprints 1 }) (fun _ => ⟨rfl, rfl⟩) _)
  have hwaiting : (rewound page s).ring.waiting = none := by
    rw [rewound_ring, BandRing.void_waiting, hdeciding.waiting]
    rfl
  have hrewound : Deciding (rewound page s) :=
    ⟨BandLaw.voided hband.buffers ht rfl rfl rfl, hwaiting, hdeciding.inFlight, hdeciding.called, hdeciding.openLine,
      hdeciding.pending⟩
  rw [reprintFrom_eq]
  exact (hrewound.entersSeek ((hlaw.head_of_paused hpaused hworks).same hsame) rfl).assigned

end

theorem FeedState.of_paused? {st : FeedState} {cause : PauseCause} {context : PausedContext}
    (h : st.paused? = some (cause, context)) : st = .paused cause context := by
  cases st <;> simp_all [FeedState.paused?]

theorem PrintingLaw.resumes {s : State} (h : PrintingLaw s) (rq : Request) : PrintingLaw (resumeFeed rq s).1 := by
  unfold resumeFeed
  split
  · split
    · exact h
    · split
      · exact h
      next cause context hcontext =>
        have hpaused := FeedState.of_paused? hcontext
        split
        · exact h
        · dsimp only
          split
          · unfold resumeWithContinue
            split
            · exact h
            all_goals exact (h.continues hpaused).reported
          · unfold resumeWithReprint
            split
            · exact (h.reprints hpaused rfl _).reported
            all_goals exact h
  · exact h

/-! ### Every step -/

theorem printingLaw_blank : PrintingLaw State.blank :=
  printingLaw_reset.aside (by intro p hp; cases p <;> first | rfl | simp [outerParts] at hp)

theorem printingLaw_invariant : Invariant PrintingLaw where
  aside := PrintingLaw.aside
  blank := printingLaw_blank.aside
  pitch := fun h _ => h.flagged rfl rfl
  opens rq _ h := h.opens rq
  stores rq _ h := h.stores rq
  frees id _ h := h.frees id
  closes rq _ h := h.closes rq
  cancels rq _ h := h.cancels rq
  resets rq _ h := h.resets rq
  feeds rq _ h := h.feeds rq
  calibrates rq _ h := h.calibrates rq
  stops rq _ _ h hkeeps := h.stops rq hkeeps
  holds rq _ h := h.holds rq
  releases rq _ h := h.releases rq
  resumes rq _ h := h.resumes rq
  joins c _ h := h.joins c
  elapses period _ h := h.elapses period
  lands sedge _ h := h.lands sedge
  burns := PrintingLaw.burns
  draws := PrintingLaw.draws

/-- Settles O59: each operation on pages, ring and feed keeps the laws, so every step does. -/
theorem printingLawKept : Obligations.PrintingLawKept := by
  unfold Obligations.PrintingLawKept
  exact fun _ _ h hstep => printingLaw_invariant.step hstep h

end Sys2Proof.Machine
end
